-- ==== Sys2Proof/Word.lean ====
section
/-! DEFINITION. The words of the SC48's link and of its vehicle port. Everything the manual treats as a
count, a level or a signed quantity is a `Nat` or an `Int` elsewhere; only fields on a line are bit vectors. -/

namespace Sys2Proof

/-- One byte on the cab link or in a CAN frame (R195). -/
abbrev Byte := BitVec 8

/-- A two-byte field, high byte first on the line (R195). -/
abbrev Word16 := BitVec 16

/-- A four-byte field, high byte first on the line (R195). -/
abbrev Word32 := BitVec 32

/-- A standard CAN identifier (section 11.1: 11 bits). -/
abbrev CanId := BitVec 11

end Sys2Proof
end

