-- ==== Sys2Proof/Syntax.lean ====
section
/-! DEFINITION. The names the manual numbers (stations, drivers, channels, lanes), the operands of a
request as its body carries them (R197), and `Instr`: one constructor per row of the table of operations
and events. A request row carries its decoded body, `none` standing for a body whose length its type does
not allow (R37 check 2); a station's number is not an operand, because a request comes from the station
whose poll is open (R29). -/

namespace Sys2Proof

/-! ## Numbered things -/

/-- The six cab link stations (section 4 of the scope file). -/
inductive Station where
  | s1 | s2 | s3 | s4 | s5 | s6
deriving DecidableEq, Repr

/-- The two drivers. -/
inductive Driver where
  | one | two
deriving DecidableEq, Repr

/-- The six lamp channels, named by their function numbers 8 to 13. -/
inductive Channel where
  | c8 | c9 | c10 | c11 | c12 | c13
deriving DecidableEq, Repr

/-- The three lanes the shed ladder knows (R70); GLOW is no ladder lane. -/
inductive Lane where
  | heat | cool | aux
deriving DecidableEq, Repr

/-- The two schedule tables (R93). -/
inductive TableId where
  | a | b
deriving DecidableEq, Repr

/-- The four windows of a station, in window order (R33). -/
inductive WindowIndex where
  | w0 | w1 | w2 | w3
deriving DecidableEq, Repr

/-- One value for each station. -/
structure PerStation (α : Type) where
  (s1 s2 s3 s4 s5 s6 : α)
deriving DecidableEq, Repr

/-- One value for each driver. -/
structure PerDriver (α : Type) where
  (one two : α)
deriving DecidableEq, Repr

/-- One value for each lamp channel. -/
structure PerChannel (α : Type) where
  (c8 c9 c10 c11 c12 c13 : α)
deriving DecidableEq, Repr

/-- One value for each ladder lane. -/
structure PerLane (α : Type) where
  (heat cool aux : α)
deriving DecidableEq, Repr

/-- One value for each schedule table. -/
structure PerTable (α : Type) where
  (a b : α)
deriving DecidableEq, Repr

/-- One value for each window of a station. -/
structure PerWindow (α : Type) where
  (w0 w1 w2 w3 : α)
deriving DecidableEq, Repr

def PerStation.get {α : Type} (p : PerStation α) : Station → α
  | .s1 => p.s1 | .s2 => p.s2 | .s3 => p.s3 | .s4 => p.s4 | .s5 => p.s5 | .s6 => p.s6

def PerStation.set {α : Type} (p : PerStation α) (x : α) : Station → PerStation α
  | .s1 => { p with s1 := x } | .s2 => { p with s2 := x } | .s3 => { p with s3 := x }
  | .s4 => { p with s4 := x } | .s5 => { p with s5 := x } | .s6 => { p with s6 := x }

def PerStation.map {α β : Type} (f : α → β) (p : PerStation α) : PerStation β :=
  ⟨f p.s1, f p.s2, f p.s3, f p.s4, f p.s5, f p.s6⟩

def PerDriver.get {α : Type} (p : PerDriver α) : Driver → α
  | .one => p.one | .two => p.two

def PerDriver.set {α : Type} (p : PerDriver α) (x : α) : Driver → PerDriver α
  | .one => { p with one := x } | .two => { p with two := x }

def PerChannel.get {α : Type} (p : PerChannel α) : Channel → α
  | .c8 => p.c8 | .c9 => p.c9 | .c10 => p.c10 | .c11 => p.c11 | .c12 => p.c12 | .c13 => p.c13

def PerChannel.set {α : Type} (p : PerChannel α) (x : α) : Channel → PerChannel α
  | .c8 => { p with c8 := x } | .c9 => { p with c9 := x } | .c10 => { p with c10 := x }
  | .c11 => { p with c11 := x } | .c12 => { p with c12 := x } | .c13 => { p with c13 := x }

/-- The value of each channel formed from the channel and its present value. -/
def PerChannel.imap {α β : Type} (f : Channel → α → β) (p : PerChannel α) : PerChannel β :=
  ⟨f .c8 p.c8, f .c9 p.c9, f .c10 p.c10, f .c11 p.c11, f .c12 p.c12, f .c13 p.c13⟩

def PerLane.get {α : Type} (p : PerLane α) : Lane → α
  | .heat => p.heat | .cool => p.cool | .aux => p.aux

def PerLane.set {α : Type} (p : PerLane α) (x : α) : Lane → PerLane α
  | .heat => { p with heat := x } | .cool => { p with cool := x } | .aux => { p with aux := x }

def PerTable.get {α : Type} (p : PerTable α) : TableId → α
  | .a => p.a | .b => p.b

def PerTable.set {α : Type} (p : PerTable α) (x : α) : TableId → PerTable α
  | .a => { p with a := x } | .b => { p with b := x }

def PerWindow.get {α : Type} (p : PerWindow α) : WindowIndex → α
  | .w0 => p.w0 | .w1 => p.w1 | .w2 => p.w2 | .w3 => p.w3

def PerWindow.set {α : Type} (p : PerWindow α) (x : α) : WindowIndex → PerWindow α
  | .w0 => { p with w0 := x } | .w1 => { p with w1 := x }
  | .w2 => { p with w2 := x } | .w3 => { p with w3 := x }

/-- The windows in window order. -/
def PerWindow.toList {α : Type} (p : PerWindow α) : List α := [p.w0, p.w1, p.w2, p.w3]

def Station.all : List Station := [.s1, .s2, .s3, .s4, .s5, .s6]
def Driver.all : List Driver := [.one, .two]
def Channel.all : List Channel := [.c8, .c9, .c10, .c11, .c12, .c13]
def Lane.all : List Lane := [.heat, .cool, .aux]

/-- A handle: slot number and generation (R6). The link's value 0 is `none` of an `Option Handle`. -/
structure Handle where
  slot : Nat
  gen : Nat
deriving DecidableEq, Repr

/-! ## Request bodies (R197) -/

/-- The plan parameters of a CREATE or AMEND, as sent. -/
structure PlanFields where
  len : Word16
  lead : Byte
  preheat : Word16
  channels : Byte
  level : Byte
  buzzer : Byte
deriving DecidableEq, Repr

/-- The kind parameters of a CREATE or AMEND, as sent: a temperature, a level, nothing, or a plan. -/
inductive KindFields where
  | temp (t : Word16)
  | level (l : Byte)
  | nothing
  | plan (p : PlanFields)
deriving DecidableEq, Repr

/-- The body of a CREATE. -/
structure CreateBody where
  fn : Byte
  kind : Byte
  cls : Byte
  delay : Word16
  duration : Word16
  limit : Byte
  fields : KindFields
deriving DecidableEq, Repr

/-- The body of an AMEND. -/
structure AmendBody where
  handle : Word16
  kind : Byte
  mask : Byte
  cls : Byte
  duration : Word16
  limit : Byte
  fields : KindFields
deriving DecidableEq, Repr

/-- The body of a LOOKUP by function. -/
structure FnQuery where
  fn : Byte
  first : Byte
deriving DecidableEq, Repr

/-- The body of a SCHEDULE_WRITE. -/
structure ScheduleRun where
  table : Byte
  first : Byte
  count : Byte
  entries : List Byte
deriving DecidableEq, Repr

/-- The body of a SCHEDULE_LENGTH. -/
structure LengthBody where
  table : Byte
  length : Byte
deriving DecidableEq, Repr

/-- The first index and count of a READ_CONFIG of a table. -/
structure TableRun where
  first : Byte
  count : Byte
deriving DecidableEq, Repr

/-- The three voltage thresholds, and the debounce codes that go with them (R54, R55). -/
inductive Threshold where
  | cutoff | low | high
deriving DecidableEq, Repr

/-- The three settings that scale the battery-sense codes (R48). -/
inductive SenseScale where
  | voltageGain | currentGain | zeroOffset
deriving DecidableEq, Repr

/-- The settings of R90, whose change needs the heavy loads idle. -/
inductive CurrentSetting where
  | rHeat | rHMin | rGlow | rCool | rAux | peak
  | lamp (c : Channel)
  | quiescent
deriving DecidableEq, Repr

/-- The rule parameters of R168. -/
inductive RestParam where
  | ld | lead | b | b1 | b2 | dd | rr | rd | settle
deriving DecidableEq, Repr

/-- A budget setting and its value as sent: the default horizon is one byte, the restore margin four (R201). -/
inductive BudgetField where
  | horizon (v : Byte)
  | margin (v : Word32)
deriving DecidableEq, Repr

/-- The five bytes of a window parameter (R201). -/
structure WindowFields where
  present : Byte
  base : Byte
  size : Byte
  global : Byte
  rights : Byte
deriving DecidableEq, Repr

/-- The three bytes of a station-level parameter (R201). -/
structure LevelFields where
  bits : Byte
  role : Byte
  quota : Byte
deriving DecidableEq, Repr

/-! ## The commands

`bodyOk` of a request with an empty body says that the body was empty (R37 check 2). `workFirst` and
`heaterFirst` of a slot boundary choose between the orders the manual leaves open (R88, R101). -/

/-- One constructor per row of spec/opcode_table.json. -/
inductive Instr where
  -- power and store
  | powerOn (okA okB : Bool)
  | reset
  | storeWriteComplete
  -- polling
  | pollSend
  | cyclePauseEnd
  | idleReply
  | pollMissed
  | unknownRequest (type : Byte)
  -- record requests
  | lookupByHandle (handle : Option Word16)
  | lookupByFunction (query : Option FnQuery)
  | lookupOwnRecords (first : Option Byte)
  | create (body : Option CreateBody)
  | amend (body : Option AmendBody)
  | retire (handle : Option Word16)
  | status (bodyOk : Bool)
  | ackWarning (driver : Option Byte)
  -- schedule requests
  | scheduleWrite (run : Option ScheduleRun)
  | scheduleLength (body : Option LengthBody)
  | scheduleCopy (bodyOk : Bool)
  | scheduleSwap (bodyOk : Bool)
  | scheduleSwapCancel
  -- floor, protected set, lock, lockout, restart
  | setFloor (floor : Option Word16)
  | setProtect (lanes : Option Byte)
  | lockMark (bodyOk : Bool)
  | clearLockout (bodyOk : Bool)
  | restart (bodyOk : Bool)
  -- configuration
  | configureCapacity (v : Word16)
  | configureFullVoltage (v : Word16)
  | configureThreshold (which : Threshold) (v : Word16)
  | configureDebounce (which : Threshold) (v : Byte)
  | configureSenseScaling (which : SenseScale) (v : Word16)
  | configureShedOrder (first second third : Byte)
  | configureBudgetSetting (field : BudgetField)
  | configureCurrents (which : CurrentSetting) (v : Word16)
  | configureSlotLength (v : Byte)
  | configureDeferralLimit (v : Byte)
  | configureFadeRate (v : Byte)
  | configureRestParameter (which : RestParam) (v : Word16)
  | configureWindow (station : Station) (index : WindowIndex) (fields : WindowFields)
  | configureStationLevel (station : Station) (fields : LevelFields)
  | configureIdentifierBase (v : Word16)
  | configureUnknown (number : Option Byte) (size : Nat)
  | readConfig (number : Option Byte)
  | readTable (table : TableId) (run : Option TableRun)
  -- record timers
  | recordStart (h : Handle)
  | recordEnd (h : Handle)
  | deferExpired (h : Handle)
  -- battery monitor
  | batterySample (rawV rawI : BitVec 12)
  | chargeIntegration
  | fullAnchor
  | voltageStateChange
  | marksClear
  -- slot scheduler
  | slotBoundary (workFirst heaterFirst : Bool)
  -- heater sequencer
  | heaterReading (cab hx : Int)
  | glowWaitFailed
  | preglowEnd
  | noFlame
  | stepChange
  | pauseEntry
  | flameLoss
  | overheat
  | runProved
  | purgeEnd
  | purgeHot
  -- fridge controller
  | fridgeSample (raw : Int)
  | sensorFaultClear
  | blindWindowChange
  | guardEnd
  -- lamp controller
  | lampFadeStep
  | lampSenseSample (trips : PerChannel Bool)
  | overCurrent (c : Channel)
  -- vehicle port
  | engineState (id : CanId) (data : List Byte)
  | engineFrameLost
  | driverActivity (id : CanId) (data : List Byte)
  | activityFrameLost
  | canFrameIgnored (id : CanId) (data : List Byte)
  | cabStatus
  | canTxSuccess
  | canTxError
  | busOffRejoin
  -- rest accounts
  | accrual
  | activitySettled (dr : Driver)
  | incompleteSet (dr : Driver)
  | dashRepeatOnset (dr : Driver)
  | dashSoundingEnd (dr : Driver)
  | bunkSoundingEnd (dr : Driver)
  -- rest plans
  | planWaking (dr : Driver)
  | planDue (dr : Driver)
  | rampLevelTick (dr : Driver)
  | bunkCallOnset (dr : Driver)
  | wakeUnanswered (dr : Driver)
deriving DecidableEq, Repr

end Sys2Proof
end

