-- ==== Sys2Proof/Config.lean ====
section
/-! DEFINITION. What the part fixes (limits and times that no request changes) and the parameter set of the
configuration store with its factory values (R191, section 11.4). The one free value is the answer
type of R38 for request types from 0x80 on (log entries 2 and 42). -/

namespace Sys2Proof

/-! ## Parameter set of the configuration store -/

/-- The lanes that a schedule entry bears (R93). -/
structure LaneSet where
  heat : Bool
  glow : Bool
  cool : Bool
  aux : Bool
deriving DecidableEq, Repr

/-- The entry that bears no lane. -/
def LaneSet.none : LaneSet := ⟨false, false, false, false⟩

/-- A schedule table: 64 entries, a length and a TRIMMED flag (R93). -/
structure Schedule where
  entries : List LaneSet
  length : Nat
  trimmed : Bool
deriving DecidableEq, Repr

/-- The rights that a window carries (R33). -/
structure Rights where
  lookup : Bool
  changeOwn : Bool
  changeAny : Bool
  retireOwn : Bool
  retireAny : Bool
deriving DecidableEq, Repr

/-- A window from local to global function numbers (R33). -/
structure Window where
  base : Nat
  size : Nat
  global : Nat
  rights : Rights
deriving DecidableEq, Repr

/-- A station's lock role (R33). -/
inductive LockRole where
  | none | cab | fleet
deriving DecidableEq, Repr

/-- A station's windows and station-level settings (R33). -/
structure StationSettings where
  windows : PerWindow (Option Window)
  control : Bool
  configure : Bool
  role : LockRole
  quota : Nat
deriving DecidableEq, Repr

/-- One value for each voltage threshold (R54). -/
structure PerThreshold where
  cutoff : Nat
  low : Nat
  high : Nat
deriving DecidableEq, Repr

def PerThreshold.get (p : PerThreshold) : Threshold → Nat
  | .cutoff => p.cutoff | .low => p.low | .high => p.high

def PerThreshold.set (p : PerThreshold) (x : Nat) : Threshold → PerThreshold
  | .cutoff => { p with cutoff := x } | .low => { p with low := x } | .high => { p with high := x }

/-- The currents of R90, in 10 mA units. -/
structure Currents where
  rHeat : Nat
  rHMin : Nat
  rGlow : Nat
  rCool : Nat
  rAux : Nat
  peak : Nat
  lamp : PerChannel Nat
  quiescent : Nat
deriving DecidableEq, Repr

def Currents.get (p : Currents) : CurrentSetting → Nat
  | .rHeat => p.rHeat | .rHMin => p.rHMin | .rGlow => p.rGlow | .rCool => p.rCool
  | .rAux => p.rAux | .peak => p.peak | .lamp c => p.lamp.get c | .quiescent => p.quiescent

def Currents.set (p : Currents) (x : Nat) : CurrentSetting → Currents
  | .rHeat => { p with rHeat := x } | .rHMin => { p with rHMin := x }
  | .rGlow => { p with rGlow := x } | .rCool => { p with rCool := x }
  | .rAux => { p with rAux := x } | .peak => { p with peak := x }
  | .lamp c => { p with lamp := p.lamp.set x c } | .quiescent => { p with quiescent := x }

/-- The rest rule parameters of R168, in minutes but for the settle time in seconds. -/
structure RestParams where
  ld : Nat
  lead : Nat
  b : Nat
  b1 : Nat
  b2 : Nat
  dd : Nat
  rr : Nat
  rd : Nat
  settle : Nat
deriving DecidableEq, Repr

def RestParams.get (p : RestParams) : RestParam → Nat
  | .ld => p.ld | .lead => p.lead | .b => p.b | .b1 => p.b1 | .b2 => p.b2
  | .dd => p.dd | .rr => p.rr | .rd => p.rd | .settle => p.settle

def RestParams.set (p : RestParams) (x : Nat) : RestParam → RestParams
  | .ld => { p with ld := x } | .lead => { p with lead := x } | .b => { p with b := x }
  | .b1 => { p with b1 := x } | .b2 => { p with b2 := x } | .dd => { p with dd := x }
  | .rr => { p with rr := x } | .rd => { p with rd := x } | .settle => { p with settle := x }

/-- The order in which the ladder takes the lanes (R70). -/
structure ShedOrder where
  first : Lane
  second : Lane
  third : Lane
deriving DecidableEq, Repr

def ShedOrder.toList (o : ShedOrder) : List Lane := [o.first, o.second, o.third]

/-- The reasons of a heater lockout (R111). -/
inductive LockoutReason where
  | flameFail | overheat | purgeHot
deriving DecidableEq, Repr

/-- The stored lockout (R111). -/
inductive StoredLockout where
  | none
  | pending (r : LockoutReason)
  | inForce (r : LockoutReason)
deriving DecidableEq, Repr

/-- The whole content of the configuration store (R191). -/
structure Settings where
  capacity : Nat
  fullVoltage : Nat
  thresholds : PerThreshold
  debounce : PerThreshold
  voltageGain : Nat
  currentGain : Nat
  zeroOffset : Int
  floor : Nat
  protectedSet : PerLane Bool
  shedOrder : ShedOrder
  horizon : Nat
  restoreMargin : Nat
  currents : Currents
  slotLength : Nat
  deferralLimit : Nat
  fadeRate : Nat
  rest : RestParams
  stations : PerStation StationSettings
  idBase : Nat
  tables : PerTable Schedule
  active : TableId
  combustionMark : Bool
  lockout : StoredLockout
deriving DecidableEq, Repr

/-! ## Factory values -/

namespace Config

def allRights : Rights := ⟨true, true, true, true, true⟩
def ownRights : Rights := ⟨true, true, false, true, false⟩

/-- The factory entries of both tables (R93). -/
def factoryEntries : List LaneSet :=
  List.replicate 4 ⟨true, true, false, false⟩ ++ (List.replicate 8 ⟨true, false, true, false⟩ ++
    (List.replicate 4 ⟨true, false, false, true⟩ ++ List.replicate 48 LaneSet.none))

def factorySchedule : Schedule := ⟨factoryEntries, 16, false⟩

def wholeMap : PerWindow (Option Window) :=
  ⟨some ⟨0, 64, 0, allRights⟩, none, none, none⟩

/-- A bunk panel's four windows; `lamps` is the first of its two lamp functions (R33). -/
def bunkMap (lamps : Nat) : PerWindow (Option Window) :=
  ⟨some ⟨0, 1, 0, ownRights⟩, some ⟨1, 1, 4, ownRights⟩, some ⟨2, 2, lamps, ownRights⟩,
    some ⟨4, 2, 20, ownRights⟩⟩

def spareStation : StationSettings := ⟨⟨none, none, none, none⟩, false, false, .none, 0⟩

/-- The factory station settings (R33). -/
def factoryStations : PerStation StationSettings where
  s1 := ⟨wholeMap, true, true, .cab, 16⟩
  s2 := ⟨bunkMap 8, false, false, .none, 8⟩
  s3 := ⟨bunkMap 10, false, false, .none, 8⟩
  s4 := ⟨wholeMap, true, true, .fleet, 8⟩
  s5 := spareStation
  s6 := spareStation

/-- The factory currents (R90). -/
def factoryCurrents : Currents where
  rHeat := 400
  rHMin := 120
  rGlow := 800
  rCool := 350
  rAux := 800
  peak := 1500
  lamp := ⟨40, 25, 40, 25, 10, 50⟩
  quiescent := 30

/-- The factory set, with the combustion mark clear and no stored lockout (R191). -/
def factory : Settings where
  capacity := 225
  fullVoltage := 28400
  thresholds := ⟨23000, 24000, 30500⟩
  debounce := ⟨3, 4, 1⟩
  voltageGain := 8192
  currentGain := 15000
  zeroOffset := 0
  floor := 70
  protectedSet := ⟨true, false, false⟩
  shedOrder := ⟨.aux, .cool, .heat⟩
  horizon := 10
  restoreMargin := 3600
  currents := factoryCurrents
  slotLength := 15
  deferralLimit := 30
  fadeRate := 20
  rest := ⟨270, 15, 45, 15, 30, 540, 540, 660, 60⟩
  stations := factoryStations
  idBase := 1280
  tables := ⟨factorySchedule, factorySchedule⟩
  active := .a
  combustionMark := false
  lockout := .none

/-! ## Fixed limits and times -/

/-- Entries a pending-notice set holds (R42). -/
def setLimit : Nat := 64
/-- Missed polls that take a station OFFLINE (R30). -/
def missedLimit : Nat := 3
/-- Skip count after a poll of an OFFLINE station (R28). -/
def skipReload : Nat := 7
/-- Slots that stations may occupy (R7). -/
def stationSlots : Nat := 46
/-- Greatest amendment sequence (R20). -/
def sequenceLimit : Nat := 4294967295
/-- Handles one list answer holds (R21). -/
def listLimit : Nat := 8
/-- Hysteresis of the voltage states, mV (R54). -/
def hysteresis : Nat := 200
/-- Least distance between neighbouring thresholds, mV (R54). -/
def thresholdGap : Nat := 400
/-- Samples of the full-anchor timer (R51). -/
def fullAnchorSamples : Nat := 6000
/-- Engine-run time that clears the lock marks, s (R62). -/
def marksClearTime : Nat := 600
/-- Cap on the horizon, s (R76). -/
def horizonCap : Nat := 86400
/-- Glow plug on-time counted in the wake reserve, s (R77). -/
def glowOnTime : Nat := 130
/-- Saturation of Tmin and of minutes in reports (R78, section 6.1). -/
def minutesCap : Nat := 9999
/-- Steps of round 1 of the ladder: the forced minimum in LOW_VOLTAGE (R68). -/
def roundOne : Nat := 4
/-- Saturation of the rest counters, s (R160). -/
def counterCap : Nat := 604800
/-- Unknown time that sets the incomplete flag, s (R164). -/
def unknownLimit : Nat := 601
/-- Length of a dash sounding, s (R173). -/
def dashSounding : Nat := 5
/-- Interval of dash onsets, s (R173). -/
def dashRepeat : Nat := 300
/-- Length of a bunk sounding, s (R183). -/
def bunkSounding : Nat := 3
/-- Interval of bunk onsets, s (R183). -/
def bunkRepeat : Nat := 30
/-- DUE time that ends a plan unanswered, s (R183). -/
def dueLimit : Nat := 1800
/-- 60.0 °C in half degrees (R115, R123, R126). -/
def coolLimit : Int := 120
/-- 150.0 °C in half degrees (R124). -/
def overheatLimit : Int := 300
/-- The 40.0 °C rise of the flame proof, in half degrees (R120). -/
def flameRise : Int := 80
def preglowTime : Nat := 40
def igniteTime : Nat := 90
def stepHoldTime : Nat := 30
def pauseReadings : Nat := 300
def flameLossReadings : Nat := 10
def overheatReadings : Nat := 2
def runProvedTime : Nat := 600
def purgeMinimum : Nat := 120
def purgeMaximum : Nat := 300
def attemptLimit : Nat := 3
def glowFrameLimit : Nat := 2
/-- Compressor guard, s (R145). -/
def guardTime : Nat := 180
/-- Minimum run of the compressor before a thermostat stop, s (R142). -/
def minimumRun : Nat := 60
/-- Consecutive valid samples that clear the sensor fault (R137). -/
def validLimit : Nat := 60
/-- Blind cycle and its cooling window, s (R139). -/
def blindCycle : Nat := 1800
def blindWindow : Nat := 600
/-- Frame-age limits in 100 ms steps (R188). -/
def engineAgeLimit : Nat := 10
def activityAgeLimit : Nat := 30
/-- Transmit error count that enters bus-off (R189). -/
def busOffCount : Nat := 256
/-- One second of bus-off in instants of 10 ms (R189). -/
def rejoinTicks : Nat := 100

/-! ## Free values -/

/-- The type byte of the answer to a request type from 0x80 on, which the spec does not give (R38, R196; DESIGN CHOICE, log
entry 42). -/
opaque freeAnswerType : Byte → Byte

end Config

end Sys2Proof
end

