-- ==== Sys2Proof/Machine/Arith.lean ====
section
/-! DEFINITION. Integer helpers (section 6.2), the byte order of the link (R195) and its CRC (R27). -/

namespace Sys2Proof.Machine
open Sys2Proof

/-- `x` held within `lo` and `hi` (section 6.3). -/
def clampNat (lo hi x : Nat) : Nat := max lo (min x hi)

/-- `x` held within `lo` and `hi` (section 6.3). -/
def clampInt (lo hi x : Int) : Int := max lo (min x hi)

/-- The quotient rounded up, where the text writes ceil. -/
def ceilDiv (a b : Nat) : Nat := (a + (b - 1)) / b

/-- Adds 1 up to a limit. -/
def bump (limit n : Nat) : Nat := min (n + 1) limit

/-! ## Bytes -/

def byte (n : Nat) : Byte := BitVec.ofNat 8 n

/-- Two bytes, high byte first (R195). -/
def be16 (n : Nat) : List Byte := [byte (n / 256), byte n]

/-- Four bytes, high byte first (R195). -/
def be32 (n : Nat) : List Byte := [byte (n / 16777216), byte (n / 65536), byte (n / 256), byte n]

/-- A signed field of two bytes, two's complement (R195). -/
def be16i (i : Int) : List Byte := be16 (BitVec.ofInt 16 i).toNat

/-- A signed field of four bytes, two's complement (R195). -/
def be32i (i : Int) : List Byte := be32 (BitVec.ofInt 32 i).toNat

def word16 (hi lo : Byte) : Word16 := hi ++ lo

def word32 (a b c d : Byte) : Word32 := (a ++ b) ++ (c ++ d)

/-- The flag in bit 0 of a byte, 1 for set (R195). -/
def flagByte (b : Bool) : Byte := if b then 1#8 else 0#8

/-- Several flags sharing one byte, bit 0 for the first (R195). -/
def flagsByte : List Bool → Nat
  | [] => 0
  | b :: bs => (if b then 1 else 0) + 2 * flagsByte bs

/-! ## CRC-16 (R27) -/

/-- One bit step of the register under the generator x^16 + x^12 + x^5 + 1. -/
def crcBit (r : Word16) : Word16 :=
  if r.msb then (r <<< 1) ^^^ 0x1021#16 else r <<< 1

/-- `n` bit steps. -/
def crcBits : Nat → Word16 → Word16
  | 0, r => r
  | n + 1, r => crcBits n (crcBit r)

/-- One byte, most significant bit first. -/
def crcByte (r : Word16) (b : Byte) : Word16 := crcBits 8 (r ^^^ (b ++ 0#8))

/-- The CRC of a run of bytes; the register starts at all ones and no final inversion is applied (R27). -/
def crc16 (bs : List Byte) : Word16 := bs.foldl crcByte 0xFFFF#16

/-! ## Frames (R196) -/

def syncByte : Byte := 0xA5#8

/-- The address/direction byte: bit 7 set for a frame to the SC48 (R196). -/
def addressByte (toPart : Bool) (addr : Nat) : Byte :=
  byte (addr + (if toPart then 128 else 0))

/-- A whole frame: sync, address and direction, length, type, body, CRC high byte first (R27, R196). -/
def frame (toPart : Bool) (addr : Nat) (type : Byte) (body : List Byte) : List Byte :=
  let covered := addressByte toPart addr :: byte body.length :: type :: body
  syncByte :: covered ++ be16 (crc16 covered).toNat

/-- The type of an answer is the request's type plus 0x80 (R196). For a type from 0x80 on that sum is no byte, and the
spec gives none: a free value (DESIGN CHOICE, log entry 42). -/
def answerType (type : Byte) : Byte := if type.msb then Config.freeAnswerType type else type + 0x80#8

end Sys2Proof.Machine
end

