-- ==== Sys2Proof/WellFormed.lean ====
section
/-! DEFINITION. Which commands can come from outside: the shapes that the body layouts of R197 and R201 allow, handles
that a slot of the table can have (R6), the converter's span (R136), and the data length of a CAN frame. -/

namespace Sys2Proof

/-- The kind parameters have the shape of their kind's code; for an unknown kind no layout gives any (R197). -/
def shapeFits (kind : Byte) (f : KindFields) : Bool :=
  match kind.toNat, f with
  | 0, .temp _ => true
  | 1, .temp _ => true
  | 2, .level _ => true
  | 3, .nothing => true
  | 4, .plan _ => true
  | 0, _ | 1, _ | 2, _ | 3, _ | 4, _ => false
  | _, .nothing => true
  | _, _ => false

/-- The type codes of R196 and R197. -/
def knownTypes : List Nat :=
  [0x10, 0x11, 0x12, 0x13, 0x14, 0x15, 0x16, 0x20, 0x21, 0x22, 0x23, 0x24, 0x25, 0x26, 0x27, 0x28, 0x30, 0x31]

/-- The size of a value that CONFIGURE may carry, by parameter number; `none` for an unassigned or read-only one
(R201). -/
def paramSize (n : Nat) : Option Nat :=
  if 0x01 ≤ n ∧ n ≤ 0x05 then some 2
  else if 0x06 ≤ n ∧ n ≤ 0x08 then some 1
  else if 0x09 ≤ n ∧ n ≤ 0x0B then some 2
  else if n = 0x10 then some 3
  else if n = 0x11 then some 1
  else if n = 0x12 then some 4
  else if 0x18 ≤ n ∧ n ≤ 0x24 then some 2
  else if 0x28 ≤ n ∧ n ≤ 0x2A then some 1
  else if 0x30 ≤ n ∧ n ≤ 0x38 then some 2
  else if 0x40 ≤ n ∧ n ≤ 0x5D then some (if (n - 0x40) % 5 = 4 then 3 else 5)
  else if n = 0x60 then some 2
  else none

/-- A handle that a slot of the table can have (R6). -/
def Handle.possible (h : Handle) : Bool := decide (h.slot ≤ 47) && (decide (1 ≤ h.gen) && decide (h.gen ≤ 255))

/-- A CAN frame carries at most 8 data bytes. -/
def canLength (data : List Byte) : Bool := decide (data.length ≤ 8)

/-- A command that can come from outside. -/
def Instr.wf (i : Instr) : Bool :=
  match i with
  | .powerOn _ _ => true
  | .reset => true
  | .storeWriteComplete => true
  | .pollSend => true
  | .cyclePauseEnd => true
  | .idleReply => true
  | .pollMissed => true
  | .unknownRequest type => !knownTypes.contains type.toNat
  | .lookupByHandle _ => true
  | .lookupByFunction _ => true
  | .lookupOwnRecords _ => true
  | .create none => true
  | .create (some b) => shapeFits b.kind b.fields
  | .amend none => true
  | .amend (some b) => shapeFits b.kind b.fields
  | .retire _ => true
  | .status _ => true
  | .ackWarning _ => true
  | .scheduleWrite none => true
  | .scheduleWrite (some r) => decide (r.entries.length = r.count.toNat) && decide (r.entries.length ≤ 37)
  | .scheduleLength _ => true
  | .scheduleCopy _ => true
  | .scheduleSwap _ => true
  | .scheduleSwapCancel => true
  | .setFloor _ => true
  | .setProtect _ => true
  | .lockMark _ => true
  | .clearLockout _ => true
  | .restart _ => true
  | .configureCapacity _ => true
  | .configureFullVoltage _ => true
  | .configureThreshold _ _ => true
  | .configureDebounce _ _ => true
  | .configureSenseScaling _ _ => true
  | .configureShedOrder _ _ _ => true
  | .configureBudgetSetting _ => true
  | .configureCurrents _ _ => true
  | .configureSlotLength _ => true
  | .configureDeferralLimit _ => true
  | .configureFadeRate _ => true
  | .configureRestParameter _ _ => true
  | .configureWindow _ _ _ => true
  | .configureStationLevel _ _ => true
  | .configureIdentifierBase _ => true
  | .configureUnknown none size => size == 0
  | .configureUnknown (some n) size => paramSize n.toNat != some size && decide (size ≤ 39)
  | .readConfig none => true
  | .readConfig (some n) => n != 0x70#8 && n != 0x71#8
  | .readTable _ _ => true
  | .recordStart h => h.possible
  | .recordEnd h => h.possible
  | .deferExpired h => h.possible
  | .batterySample _ _ => true
  | .chargeIntegration => true
  | .fullAnchor => true
  | .voltageStateChange => true
  | .marksClear => true
  | .slotBoundary _ _ => true
  | .heaterReading _ _ => true
  | .glowWaitFailed => true
  | .preglowEnd => true
  | .noFlame => true
  | .stepChange => true
  | .pauseEntry => true
  | .flameLoss => true
  | .overheat => true
  | .runProved => true
  | .purgeEnd => true
  | .purgeHot => true
  | .fridgeSample raw => decide (-200 ≤ raw) && decide (raw ≤ 400)
  | .sensorFaultClear => true
  | .blindWindowChange => true
  | .guardEnd => true
  | .lampFadeStep => true
  | .lampSenseSample _ => true
  | .overCurrent _ => true
  | .engineState _ data => canLength data
  | .engineFrameLost => true
  | .driverActivity _ data => canLength data
  | .activityFrameLost => true
  | .canFrameIgnored _ data => canLength data
  | .cabStatus => true
  | .canTxSuccess => true
  | .canTxError => true
  | .busOffRejoin => true
  | .accrual => true
  | .activitySettled _ => true
  | .incompleteSet _ => true
  | .dashRepeatOnset _ => true
  | .dashSoundingEnd _ => true
  | .bunkSoundingEnd _ => true
  | .planWaking _ => true
  | .planDue _ => true
  | .rampLevelTick _ => true
  | .bunkCallOnset _ => true
  | .wakeUnanswered _ => true

end Sys2Proof
end

