-- ==== Sys2Proof/Decode.lean ====
section
/-! DEFINITION. The reply frames of the cab link (R27, R196, R197, R201): a decoder from the bytes in a reply window to
the command they carry, total and rejecting by name (a bad frame is a missed poll, an unknown type an unknown request,
a bad length a request without a body), and an encoder of the request rows. The table of operations gives no row bits,
so no word spells a command. -/

namespace Sys2Proof
open Sys2Proof.Machine

/-- No row of the table has bits of its own. -/
def decodeTableWord (_nbits _w : Nat) : Option Instr := none

/-! ## Bodies of requests (R197) -/

/-- Kind parameters by kind code; `none` where the length is not the kind's. Of an unknown kind nothing is read. -/
def decodeFields (kind : Byte) (bs : List Byte) : Option KindFields :=
  match kind.toNat, bs with
  | 0, [a, b] => some (.temp (word16 a b))
  | 1, [a, b] => some (.temp (word16 a b))
  | 2, [l] => some (.level l)
  | 3, [] => some .nothing
  | 4, [l1, l2, lead, p1, p2, ch, lv, bz] =>
    some (.plan ⟨word16 l1 l2, lead, word16 p1 p2, ch, lv, bz⟩)
  | 0, _ | 1, _ | 2, _ | 3, _ | 4, _ => none
  | _, _ => some .nothing

def decodeCreate (bs : List Byte) : Option CreateBody :=
  match bs with
  | fn :: kind :: cls :: d1 :: d2 :: u1 :: u2 :: lim :: rest =>
    (decodeFields kind rest).map fun f => ⟨fn, kind, cls, word16 d1 d2, word16 u1 u2, lim, f⟩
  | _ => none

def decodeAmend (bs : List Byte) : Option AmendBody :=
  match bs with
  | h1 :: h2 :: kind :: mask :: cls :: u1 :: u2 :: lim :: rest =>
    (decodeFields kind rest).map fun f => ⟨word16 h1 h2, kind, mask, cls, word16 u1 u2, lim, f⟩
  | _ => none

/-- The forms of LOOKUP (R21, R197). A list body that ends before its first slot gives none, and the first slot is 0
(DEDUCED, log entry 56). -/
def decodeLookup (bs : List Byte) : Instr :=
  match bs with
  | [0x00#8, a, b] => .lookupByHandle (some (word16 a b))
  | [0x01#8, fn, first] => .lookupByFunction (some ⟨fn, first⟩)
  | [0x02#8, first] => .lookupOwnRecords (some first)
  | [0x01#8, fn] => .lookupByFunction (some ⟨fn, 0#8⟩)
  | [0x02#8] => .lookupOwnRecords (some 0#8)
  | 0x01#8 :: _ => .lookupByFunction none
  | 0x02#8 :: _ => .lookupOwnRecords none
  | _ => .lookupByHandle none

def decodeRun (bs : List Byte) : Option ScheduleRun :=
  match bs with
  | t :: first :: count :: es => if es.length = count.toNat then some ⟨t, first, count, es⟩ else none
  | _ => none

def decodeWord (bs : List Byte) : Option Word16 :=
  match bs with
  | [a, b] => some (word16 a b)
  | _ => none

def decodeByte (bs : List Byte) : Option Byte :=
  match bs with
  | [a] => some a
  | _ => none

def decodeLength (bs : List Byte) : Option LengthBody :=
  match bs with
  | [t, n] => some ⟨t, n⟩
  | _ => none

def decodeSwap (bs : List Byte) : Instr :=
  match bs with
  | [c] => if c.getLsbD 0 then .scheduleSwapCancel else .scheduleSwap true
  | _ => .scheduleSwap false

/-! ## Parameters (R201) -/

def stationAt : Nat → Station
  | 0 => .s1 | 1 => .s2 | 2 => .s3 | 3 => .s4 | 4 => .s5 | _ => .s6

def windowAt : Nat → WindowIndex
  | 0 => .w0 | 1 => .w1 | 2 => .w2 | _ => .w3

/-- A two-byte parameter. -/
def decodeParam2 (n : Nat) (w : Word16) : Option Instr :=
  match n with
  | 0x01 => some (.configureCapacity w)
  | 0x02 => some (.configureFullVoltage w)
  | 0x03 => some (.configureThreshold .cutoff w)
  | 0x04 => some (.configureThreshold .low w)
  | 0x05 => some (.configureThreshold .high w)
  | 0x09 => some (.configureSenseScaling .voltageGain w)
  | 0x0A => some (.configureSenseScaling .currentGain w)
  | 0x0B => some (.configureSenseScaling .zeroOffset w)
  | 0x18 => some (.configureCurrents .rHeat w)
  | 0x19 => some (.configureCurrents .rHMin w)
  | 0x1A => some (.configureCurrents .rGlow w)
  | 0x1B => some (.configureCurrents .rCool w)
  | 0x1C => some (.configureCurrents .rAux w)
  | 0x1D => some (.configureCurrents .peak w)
  | 0x1E => some (.configureCurrents (.lamp .c8) w)
  | 0x1F => some (.configureCurrents (.lamp .c9) w)
  | 0x20 => some (.configureCurrents (.lamp .c10) w)
  | 0x21 => some (.configureCurrents (.lamp .c11) w)
  | 0x22 => some (.configureCurrents (.lamp .c12) w)
  | 0x23 => some (.configureCurrents (.lamp .c13) w)
  | 0x24 => some (.configureCurrents .quiescent w)
  | 0x30 => some (.configureRestParameter .ld w)
  | 0x31 => some (.configureRestParameter .lead w)
  | 0x32 => some (.configureRestParameter .b w)
  | 0x33 => some (.configureRestParameter .b1 w)
  | 0x34 => some (.configureRestParameter .b2 w)
  | 0x35 => some (.configureRestParameter .dd w)
  | 0x36 => some (.configureRestParameter .rr w)
  | 0x37 => some (.configureRestParameter .rd w)
  | 0x38 => some (.configureRestParameter .settle w)
  | 0x60 => some (.configureIdentifierBase w)
  | _ => none

/-- A one-byte parameter. -/
def decodeParam1 (n : Nat) (v : Byte) : Option Instr :=
  match n with
  | 0x06 => some (.configureDebounce .cutoff v)
  | 0x07 => some (.configureDebounce .low v)
  | 0x08 => some (.configureDebounce .high v)
  | 0x11 => some (.configureBudgetSetting (.horizon v))
  | 0x28 => some (.configureSlotLength v)
  | 0x29 => some (.configureDeferralLimit v)
  | 0x2A => some (.configureFadeRate v)
  | _ => none

/-- A three-byte parameter: the shed order or a station level. -/
def decodeParam3 (n : Nat) (a b c : Byte) : Option Instr :=
  if n = 0x10 then some (.configureShedOrder a b c)
  else if 0x40 ≤ n ∧ n ≤ 0x5D ∧ (n - 0x40) % 5 = 4 then
    some (.configureStationLevel (stationAt ((n - 0x40) / 5)) ⟨a, b, c⟩)
  else none

/-- A five-byte parameter: a window. -/
def decodeParam5 (n : Nat) (a b c d e : Byte) : Option Instr :=
  if 0x40 ≤ n ∧ n ≤ 0x5D ∧ (n - 0x40) % 5 < 4 then
    some (.configureWindow (stationAt ((n - 0x40) / 5)) (windowAt ((n - 0x40) % 5)) ⟨a, b, c, d, e⟩)
  else none

/-- The command of a CONFIGURE, by number and size of its value. -/
def decodeParam (n : Nat) (bs : List Byte) : Option Instr :=
  match bs with
  | [v] => decodeParam1 n v
  | [a, b] => decodeParam2 n (word16 a b)
  | [a, b, c] => decodeParam3 n a b c
  | [a, b, c, d] => if n = 0x12 then some (.configureBudgetSetting (.margin (word32 a b c d))) else none
  | [a, b, c, d, e] => decodeParam5 n a b c d e
  | _ => none

def decodeConfigure (bs : List Byte) : Instr :=
  match bs with
  | [] => .configureUnknown none 0
  | n :: vs => (decodeParam n.toNat vs).getD (.configureUnknown (some n) vs.length)

def decodeTableRun (bs : List Byte) : Option TableRun :=
  match bs with
  | [first, count] => some ⟨first, count⟩
  | _ => none

def decodeReadConfig (bs : List Byte) : Instr :=
  match bs with
  | [] => .readConfig none
  | n :: rest =>
    if n = 0x70#8 then .readTable .a (decodeTableRun rest)
    else if n = 0x71#8 then .readTable .b (decodeTableRun rest)
    else if rest.isEmpty then .readConfig (some n)
    else .readConfig none

/-! ## Frames (R27, R196) -/

/-- The command that a good reply of a type and body carries. An IDLE reply is one whatever its body holds (DESIGN CHOICE,
log entry 62). -/
def decodeBody (type : Byte) (bs : List Byte) : Instr :=
  match type.toNat with
  | 0x10 => .idleReply
  | 0x11 => decodeLookup bs
  | 0x12 => .create (decodeCreate bs)
  | 0x13 => .amend (decodeAmend bs)
  | 0x14 => .retire (decodeWord bs)
  | 0x15 => .status bs.isEmpty
  | 0x16 => .ackWarning (decodeByte bs)
  | 0x20 => .scheduleWrite (decodeRun bs)
  | 0x21 => .scheduleLength (decodeLength bs)
  | 0x22 => .scheduleCopy bs.isEmpty
  | 0x23 => decodeSwap bs
  | 0x24 => .setFloor (decodeWord bs)
  | 0x25 => .setProtect (decodeByte bs)
  | 0x26 => .clearLockout bs.isEmpty
  | 0x27 => .restart bs.isEmpty
  | 0x28 => .lockMark bs.isEmpty
  | 0x30 => decodeConfigure bs
  | 0x31 => decodeReadConfig bs
  | _ => .unknownRequest type

/-- The bytes in the reply window of a polled address: a good reply's command, or a missed poll (R27). Only the bits of
the address byte that R196 names are read. -/
def decodeReply (addr : Nat) (bs : List Byte) : Instr :=
  match bs with
  | s :: a :: l :: t :: rest =>
    let body := rest.take l.toNat
    if s = syncByte ∧ a.getLsbD 7 = true ∧ (a &&& 7#8).toNat = addr ∧ l.toNat ≤ 40 ∧ l.toNat ≤ rest.length ∧
        (rest.drop l.toNat).take 2 = be16 (crc16 (a :: l :: t :: body)).toNat then
      decodeBody t body
    else .pollMissed
  | _ => .pollMissed

/-! ## The encoder -/

def bytes16 (w : Word16) : List Byte := be16 w.toNat
def bytes32 (w : Word32) : List Byte := be32 w.toNat

def encodeFields : KindFields → List Byte
  | .temp t => bytes16 t
  | .level l => [l]
  | .nothing => []
  | .plan p => bytes16 p.len ++ (p.lead :: (bytes16 p.preheat ++ [p.channels, p.level, p.buzzer]))

def encodeCreate (b : CreateBody) : List Byte :=
  [b.fn, b.kind, b.cls] ++ (bytes16 b.delay ++ (bytes16 b.duration ++ (b.limit :: encodeFields b.fields)))

def encodeAmend (b : AmendBody) : List Byte :=
  bytes16 b.handle ++ ([b.kind, b.mask, b.cls] ++ (bytes16 b.duration ++ (b.limit :: encodeFields b.fields)))

def thresholdNumber : Threshold → Byte
  | .cutoff => 0x03#8 | .low => 0x04#8 | .high => 0x05#8

def debounceNumber : Threshold → Byte
  | .cutoff => 0x06#8 | .low => 0x07#8 | .high => 0x08#8

def scaleNumber : SenseScale → Byte
  | .voltageGain => 0x09#8 | .currentGain => 0x0A#8 | .zeroOffset => 0x0B#8

def currentNumber : CurrentSetting → Byte
  | .rHeat => 0x18#8 | .rHMin => 0x19#8 | .rGlow => 0x1A#8 | .rCool => 0x1B#8 | .rAux => 0x1C#8
  | .peak => 0x1D#8
  | .lamp .c8 => 0x1E#8 | .lamp .c9 => 0x1F#8 | .lamp .c10 => 0x20#8
  | .lamp .c11 => 0x21#8 | .lamp .c12 => 0x22#8 | .lamp .c13 => 0x23#8
  | .quiescent => 0x24#8

def restNumber : RestParam → Byte
  | .ld => 0x30#8 | .lead => 0x31#8 | .b => 0x32#8 | .b1 => 0x33#8 | .b2 => 0x34#8
  | .dd => 0x35#8 | .rr => 0x36#8 | .rd => 0x37#8 | .settle => 0x38#8

def stationNumber : Station → Nat
  | .s1 => 0 | .s2 => 1 | .s3 => 2 | .s4 => 3 | .s5 => 4 | .s6 => 5

def windowNumber : WindowIndex → Nat
  | .w0 => 0 | .w1 => 1 | .w2 => 2 | .w3 => 3

def tableNumber : TableId → Byte
  | .a => 0x70#8 | .b => 0x71#8

/-- The type and body of a request with a body that its layout allows; `none` for every other command. -/
def encodeBody (i : Instr) : Option (Byte × List Byte) :=
  match i with
  | .idleReply => some (0x10#8, [])
  | .lookupByHandle (some h) => some (0x11#8, 0x00#8 :: bytes16 h)
  | .lookupByFunction (some q) => some (0x11#8, [0x01#8, q.fn, q.first])
  | .lookupOwnRecords (some f) => some (0x11#8, [0x02#8, f])
  | .create (some b) => some (0x12#8, encodeCreate b)
  | .amend (some b) => some (0x13#8, encodeAmend b)
  | .retire (some h) => some (0x14#8, bytes16 h)
  | .status true => some (0x15#8, [])
  | .ackWarning (some b) => some (0x16#8, [b])
  | .scheduleWrite (some r) => some (0x20#8, r.table :: r.first :: r.count :: r.entries)
  | .scheduleLength (some b) => some (0x21#8, [b.table, b.length])
  | .scheduleCopy true => some (0x22#8, [])
  | .scheduleSwap true => some (0x23#8, [0#8])
  | .scheduleSwapCancel => some (0x23#8, [1#8])
  | .setFloor (some w) => some (0x24#8, bytes16 w)
  | .setProtect (some b) => some (0x25#8, [b])
  | .clearLockout true => some (0x26#8, [])
  | .restart true => some (0x27#8, [])
  | .lockMark true => some (0x28#8, [])
  | .configureCapacity v => some (0x30#8, 0x01#8 :: bytes16 v)
  | .configureFullVoltage v => some (0x30#8, 0x02#8 :: bytes16 v)
  | .configureThreshold w v => some (0x30#8, thresholdNumber w :: bytes16 v)
  | .configureDebounce w v => some (0x30#8, [debounceNumber w, v])
  | .configureSenseScaling w v => some (0x30#8, scaleNumber w :: bytes16 v)
  | .configureShedOrder a b c => some (0x30#8, [0x10#8, a, b, c])
  | .configureBudgetSetting (.horizon v) => some (0x30#8, [0x11#8, v])
  | .configureBudgetSetting (.margin v) => some (0x30#8, 0x12#8 :: bytes32 v)
  | .configureCurrents w v => some (0x30#8, currentNumber w :: bytes16 v)
  | .configureSlotLength v => some (0x30#8, [0x28#8, v])
  | .configureDeferralLimit v => some (0x30#8, [0x29#8, v])
  | .configureFadeRate v => some (0x30#8, [0x2A#8, v])
  | .configureRestParameter w v => some (0x30#8, restNumber w :: bytes16 v)
  | .configureWindow st i f =>
    some (0x30#8, [byte (0x40 + 5 * stationNumber st + windowNumber i), f.present, f.base, f.size, f.global, f.rights])
  | .configureStationLevel st f => some (0x30#8, [byte (0x44 + 5 * stationNumber st), f.bits, f.role, f.quota])
  | .configureIdentifierBase v => some (0x30#8, 0x60#8 :: bytes16 v)
  | .readConfig (some n) => some (0x31#8, [n])
  | .readTable t (some r) => some (0x31#8, [tableNumber t, r.first, r.count])
  | _ => none

/-- The reply frame of a station that carries a command (R196). -/
def encodeReply (addr : Nat) (i : Instr) : Option (List Byte) :=
  (encodeBody i).map fun tb => frame true addr tb.1 tb.2

end Sys2Proof
end

