-- ==== Sys2Proof/Machine/State.lean ====
section
/-! DEFINITION. Everything the manual has the SC48 hold, as plain data. `Device` is the part itself, one field
per block of the scope file's block overview; `State` adds the queue of commands that wait. A field marked
MODEL is the model's own and not the manual's (log entry 4 lists them). -/

namespace Sys2Proof.Machine
open Sys2Proof

/-! ## Demand table (chapter 1) -/

/-- The assigned functions (R1). -/
inductive Fn where
  | heater
  | fridge
  | lamp (c : Channel)
  | outlet
  | rest (dr : Driver)
deriving DecidableEq, Repr

/-- Record kinds (R1). -/
inductive Kind where
  | heatHold | coolHold | lamp | auxOn | restPlan
deriving DecidableEq, Repr

/-- A record's owner (R2). -/
inductive Owner where
  | station (st : Station)
  | internal
deriving DecidableEq, Repr

/-- A record's class (R3). -/
inductive Class where
  | essential | comfort | leisure
deriving DecidableEq, Repr

/-- A record's state (section 1.4). -/
inductive RecState where
  | scheduled | deferred | granted | suspended
deriving DecidableEq, Repr

/-- State reasons (section 1.4). -/
inductive Reason where
  | awaitStart | noMargin | lowVoltage | immediate | admitted | resumed
  | cutoff | lockout | noGlowSlot | channelFault | budget
deriving DecidableEq, Repr

/-- Retire reasons (R15). -/
inductive RetireReason where
  | request | ended | deferExpired | restart | interrupted | wakeUnanswered | planEnded
deriving DecidableEq, Repr

/-- Plan sub-states (chapter 10). -/
inductive SubState where
  | waiting | active | waking | due
deriving DecidableEq, Repr

/-- A wake light: its channels and its level (R4). -/
structure WakeLight where
  channels : PerChannel Bool
  level : Nat
deriving DecidableEq, Repr

/-- The parameters of a REST_PLAN record and the four fields that the plan unit owns (R4, R177). -/
structure PlanRec where
  len : Nat
  lead : Nat
  preheat : Option Int
  light : Option WakeLight
  buzzer : Bool
  sub : SubState
  plannedEnd : Option Nat
  atRisk : Bool
  internal : Option Handle
deriving DecidableEq, Repr

/-- Kind parameters (R4). Temperatures are in half degrees. A heat record that serves a plan holds its handle. -/
inductive Params where
  | heat (setpoint : Int) (serves : Option Handle)
  | cool (target : Int)
  | lamp (level : Nat)
  | aux
  | plan (p : PlanRec)
deriving DecidableEq, Repr

/-- A demand record (R2); its handle is its slot and the slot's generation. -/
structure Record where
  kind : Kind
  fn : Fn
  owner : Owner
  cls : Class
  state : RecState
  reason : Reason
  seq : Nat
  start : Option Nat
  endAt : Option Nat
  limit : Nat
  deadline : Option Nat
  params : Params
deriving DecidableEq, Repr

/-- A slot of the table: its generation and its record, if occupied (R6). -/
structure Slot where
  gen : Nat
  rcd : Option Record
deriving DecidableEq, Repr

/-- The suspension causes standing on one function (R12). -/
structure CauseSet where
  cutoff : Bool
  lockout : Bool
  noGlowSlot : Bool
  channelFault : Bool
  budget : Bool
deriving DecidableEq, Repr

def CauseSet.none : CauseSet := ⟨false, false, false, false, false⟩

/-- The availability map: the cause set of every assigned function (R12). -/
structure CauseMap where
  heater : CauseSet
  fridge : CauseSet
  lamps : PerChannel CauseSet
  outlet : CauseSet
  rest : PerDriver CauseSet
deriving DecidableEq, Repr

/-- The demand table (R6, R12, R20, R23). `quiet` (MODEL) is the record whose changes the answer being formed
reports, so that they are not marked (R13), and `leaving` (MODEL) is the plan being retired, with its owner, whose
INTERNAL record is still to follow it (R13, R26); both are `none` between commands. -/
structure Table where
  slots : List Slot
  counter : Nat
  queue : List Handle
  causes : CauseMap
  quiet : Option Handle
  leaving : Option (Handle × Station)
deriving DecidableEq, Repr

/-! ## Cab link port (chapter 2) -/

/-- Link states (section 2.2). -/
inductive LinkState where
  | disabled | offline | online
deriving DecidableEq, Repr

/-- An entry of a pending-notice set (R42). -/
inductive Entry where
  | live (h : Handle)
  | retired (h : Handle) (fn : Fn) (r : RetireReason)
deriving DecidableEq, Repr

/-- The general flags of a station (R44). -/
structure Flags where
  resync : Bool
  restarted : Bool
  warning : PerDriver Bool
  heater : Bool
  budget : Bool
deriving DecidableEq, Repr

def Flags.none : Flags := ⟨false, false, ⟨false, false⟩, false, false⟩

/-- Failure kinds (R44, R200). -/
inductive FailureKind where
  | none | noFlame | flameLoss | overheat | purgeHot | noGlowSlot
deriving DecidableEq, Repr

/-- The link side of a station record (section 2.2, R42, R44). Its windows, rights, quota and lock role are settings. -/
structure StationLink where
  link : LinkState
  missed : Nat
  skip : Nat
  entries : List Entry
  flags : Flags
  failure : FailureKind
deriving DecidableEq, Repr

/-- What the port is doing: ready to poll, waiting for a reply (the flag says whether the poll carried a
notice), carrying out a request whose answer waits for a store write (R192), or in the pause of R28. -/
inductive LinkPhase where
  | ready
  | awaiting (st : Station) (carried : Bool)
  | serving (st : Station)
  | pausing
deriving DecidableEq, Repr

/-- Answer codes (R38). -/
inductive AnswerCode where
  | ok | okClamped | notMapped | noRight | badHandle | wrongKind | badValue | tableFull | quota | functionFull
  | activeTable | peak | busy | locked | tooEarly | unknownRequest
deriving DecidableEq, Repr

/-- What an answer carries after its code, as it is read when the answer is sent: known bytes, the floor or the protected
set with the marks, or a record's block with its clamp mask. `left` is that block as the request left it, for a record
that has since been retired. -/
inductive AnswerSpec where
  | bytes (l : List Byte)
  | floorAndMarks
  | protectAndMarks
  | block (h : Handle) (mask : Nat) (left : List Byte)
deriving DecidableEq, Repr

/-- An answer that waits for its request's effects (R29). -/
structure HeldAnswer where
  station : Station
  type : Byte
  code : AnswerCode
  spec : AnswerSpec
deriving DecidableEq, Repr

/-- The cab link port. `pos` is the address next due, 7 at a cycle's end; `polled` says that the present cycle
has polled a station; `ticks` (MODEL) counts tens of milliseconds in the present phase. The two frames are
the last poll frame and the answer frame of the present exchange (empty while none is sent). `heldAnswer` (MODEL) is
an answer that waits until a heater sequencer which waits for the store has made the request's effects (R29, R191). -/
structure Link where
  stations : PerStation StationLink
  pos : Nat
  polled : Bool
  phase : LinkPhase
  ticks : Nat
  pollFrame : List Byte
  answerFrame : List Byte
  heldAnswer : Option HeldAnswer
deriving DecidableEq, Repr

/-! ## Battery monitor (chapter 3) -/

/-- Voltage states (section 3.4). -/
inductive VState where
  | normal | low | cutoff | high
deriving DecidableEq, Repr

/-- The six debounce timers, in samples (R55). -/
structure Debounce where
  belowCutoff : Nat
  riseCutoff : Nat
  belowLow : Nat
  riseLow : Nat
  aboveHigh : Nat
  fallHigh : Nat
deriving DecidableEq, Repr

def Debounce.zero : Debounce := ⟨0, 0, 0, 0, 0, 0⟩

/-- The battery monitor (R49, R51, R55, R58, R62). `r` is in hundredths of an ampere-second. `sum` is the sum of
the present second's current samples. `due` (MODEL) is the move of R56 that the last sample called for and that has not
been made yet, and `runCleared` (MODEL) says that the present engine run has cleared the marks. -/
structure Bank where
  q : Nat
  r : Int
  uncalibrated : Bool
  vstate : VState
  timers : Debounce
  due : Option VState
  fullAnchor : Nat
  sum : Int
  engineRun : Nat
  runCleared : Bool
  cabMark : Bool
  fleetMark : Bool
deriving DecidableEq, Repr

/-! ## Budget unit (chapter 4) -/

/-- Lane modes. -/
inductive LaneMode where
  | full | alternate | off
deriving DecidableEq, Repr

/-- A step of the shed ladder (R70). -/
inductive LadderStep where
  | slow (l : Lane)
  | stop (l : Lane)
  | cap (c : Nat)
deriving DecidableEq, Repr

/-- Budget modes (R65). -/
inductive BudgetMode where
  | nominal | curtailed | short | lowVoltage | cutoff | charging
deriving DecidableEq, Repr

/-- A projection (R74 to R78). -/
structure Projection where
  u : Nat
  p : Nat
  h : Nat
  w : Nat
  d : Int
  m : Int
  tmin : Nat
deriving DecidableEq, Repr

/-- The budget unit (R64). The forced minimum follows from the mode (R68). -/
structure Budget where
  ladder : List LadderStep
  position : Nat
  modes : PerLane LaneMode
  cap : Nat
  mode : BudgetMode
  proj : Projection
  tminBelow : Bool
deriving DecidableEq, Repr

/-! ## Slot scheduler (chapter 5) -/

/-- The slot scheduler's state beside the tables, the active-table mark and the pending slot length, which the store
holds (section 5). `waiting` (MODEL) says that the rest of a frame boundary waits for the write of a swap (R101, R191), the
permissions being formed meanwhile as at any other time (R102, R103; log entry 15), or that the
scheduler keeps every lane idle until a change of a current is in force (R91, R106); `owed` (MODEL) is a frame boundary
whose write is complete and which waits for such a change, and `late` (MODEL) are the slot boundaries that have arrived
meanwhile, oldest first, each with the two orders that it carries. -/
structure Sched where
  swapPending : Bool
  slotLength : Nat
  slotIndex : Nat
  slotTime : Nat
  frame : Nat
  perm : PerLane Bool
  glowStart : Bool
  claim : Bool
  outletOn : Bool
  outletClosed : Bool
  waiting : Bool
  owed : Option (Bool × Bool)
  late : List (Bool × Bool)
deriving DecidableEq, Repr

/-! ## Heater sequencer (chapter 6) -/

/-- Heater states (R111). -/
inductive HeaterState where
  | off | precheck | waitGlow | preglow | ignite | run | pause | purge | lockout
deriving DecidableEq, Repr

/-- Purge causes (R111). -/
inductive PurgeCause where
  | none | pause | failure | stop
deriving DecidableEq, Repr

/-- The state that a purge's end resolves (R127). -/
inductive PurgeNext where
  | lockout (r : LockoutReason)
  | precheck
  | pause
  | off
deriving DecidableEq, Repr

/-- The heater's own matured timers: the rows of the table that carry no operand. -/
inductive HeaterTimer where
  | glowWaitFailed | preglowEnd | noFlame | stepChange | pauseEntry | flameLoss | overheat | runProved
  | purgeEnd | purgeHot
deriving DecidableEq, Repr

/-- What reaches the heater sequencer. While it waits for a store write these are held and taken after (R119, R191). -/
inductive HeaterMsg where
  | demand
  | stop
  | voltage (v : VState)
  | slot (glow frame swap : Bool)
  | reading (cab hx : Int)
  | timer (t : HeaterTimer)
  | clear (st : Station)
deriving DecidableEq, Repr

/-- The heater sequencer (R111), but for the combustion mark and the stored lockout, which the store holds. `demand`
is the effective value handed by the table (R22), `target` the thermostat's target step (R121), `plug` and `fuel` the
outputs that a wait can hold back (R118, R119). `cab` and `hx` are the last readings. `stepDue` (MODEL) says that the
last reading found the step hold timer run and the step away from its goal (R121). `waiting`, `held` and `swapHeld`
(MODEL) belong to a wait for the store and to the split of R116 and R117 over two steps. -/
structure Heater where
  state : HeaterState
  stage : Nat
  startTemp : Option Int
  glowFrames : Nat
  attempts : Nat
  step : Nat
  hold : Nat
  stepDue : Bool
  pauseTimer : Nat
  lossTimer : Nat
  overTimer : Nat
  runTimer : Nat
  lossLimit : Int
  cause : PurgeCause
  claim : Bool
  plug : Bool
  fuel : Bool
  demand : Option Int
  target : Nat
  cab : Option Int
  hx : Option Int
  waiting : Bool
  held : List HeaterMsg
  swapHeld : Bool
deriving DecidableEq, Repr

/-! ## Fridge controller (chapter 7) -/

/-- Compressor states (R135). -/
inductive FridgeState where
  | off | idle | guard | waiting | running
deriving DecidableEq, Repr

/-- The fridge controller (R135); `target` is the effective value handed by the table (R22). `turn` (MODEL) says that the
blind cycle turned at the last sample and that the call has not been formed by it yet (R139). -/
structure Fridge where
  state : FridgeState
  guard : Nat
  run : Nat
  call : Bool
  reading : Option Int
  fault : Bool
  valid : Nat
  blind : Nat
  turn : Bool
  target : Option Int
deriving DecidableEq, Repr

/-! ## Lamp controller (chapter 8) -/

/-- One lamp channel (R148); `out` is in tenths of a percent. -/
structure Lamp where
  effective : Nat
  ramp : PerDriver (Option Nat)
  before : Nat
  target : Nat
  out : Nat
  trip : Nat
  fault : Bool
deriving DecidableEq, Repr

/-! ## Rest accounts unit (chapter 9) -/

/-- Activities (R160). -/
inductive Activity where
  | driving | work | available | rest | unknown
deriving DecidableEq, Repr

/-- The active warnings of a driver (R169). -/
structure Warnings where
  restDone : Bool
  restInterrupted : Bool
  drivePre : Bool
  dailyPre : Bool
  driveDue : Bool
  dailyDue : Bool
deriving DecidableEq, Repr

def Warnings.none : Warnings := ⟨false, false, false, false, false, false⟩

/-- Acknowledgement states (R171). -/
inductive AckState where
  | none | unacknowledged | acknowledged
deriving DecidableEq, Repr

/-- One driver's account (R160). The warning level and the dash alarm follow from the warnings and the acknowledgement
state; `subject` and `sounding` are the dash alarm's schedule (R172, R173), `bunkUntil` the second at which a bunk
sounding ends (R174). `settled` (MODEL) says that the settle timer has reached the settle time at the end of a second. -/
structure Account where
  reported : Activity
  effective : Activity
  lastKnown : Option Activity
  candidate : Option Activity
  settleTimer : Nat
  settled : Bool
  unknownTimer : Nat
  restStart : Option Nat
  cd : Nat
  dd : Nat
  bl : Nat
  rl : Nat
  partOne : Bool
  breakDone : Bool
  incomplete : Bool
  warnings : Warnings
  ack : AckState
  subject : Bool
  sounding : Bool
  lastOnset : Option Nat
  lastDash : Option Nat
  bunkUntil : Option Nat
deriving DecidableEq, Repr

/-! ## Rest plan unit (chapter 10) -/

/-- The wake ramp of a plan (R177). -/
inductive Ramp where
  | none
  | rising (level : Nat)
  | held (level : Nat)
deriving DecidableEq, Repr

/-- The call of a plan (R177, R183). -/
inductive Call where
  | none | calling | silent
deriving DecidableEq, Repr

/-- One driver's side of the rest plan unit (R177). The sub-state, the planned end and the INTERNAL handle are fields
of the plan record (R4) and stand there. `nextCall` is the second of the next bunk onset. -/
structure PlanUnit where
  plan : Option Handle
  binding : Option Nat
  ramp : Ramp
  dueTimer : Nat
  call : Call
  nextCall : Nat
deriving DecidableEq, Repr

def PlanUnit.empty : PlanUnit := ⟨none, none, .none, 0, .none, 0⟩

/-! ## Vehicle port and configuration store (chapter 11) -/

/-- A frame of the vehicle port: its identifier and its data (R188, R199). -/
structure CanFrame where
  id : CanId
  data : List Byte
deriving DecidableEq, Repr

/-- The vehicle port (R188, R189). Ages are in 100 ms steps. `lostHanded` says that UNKNOWN has been handed since the
last activity frame; `busOffTicks` (MODEL) counts tens of milliseconds of bus-off. -/
structure Vehicle where
  running : Bool
  engineAge : Nat
  activityAge : Nat
  lostHanded : Bool
  txErrors : Nat
  busOff : Bool
  busOffTicks : Nat
  waiting : Option CanFrame
deriving DecidableEq, Repr

/-- The numeric parameters of the store that a CONFIGURE may write. -/
inductive Param where
  | capacity | fullVoltage
  | threshold (t : Threshold)
  | debounce (t : Threshold)
  | scale (s : SenseScale)
  | horizon | margin
  | current (c : CurrentSetting)
  | slotLength | deferralLimit | fadeRate
  | rest (r : RestParam)
  | idBase
deriving DecidableEq, Repr

/-- What one store write was asked to write (R191, R192). -/
inductive Change where
  | num (p : Param) (v : Int)
  | shedOrder (o : ShedOrder)
  | window (st : Station) (i : WindowIndex) (w : Option Window)
  | level (st : Station) (control configure : Bool) (role : LockRole) (quota : Nat)
  | floor (v : Nat)
  | protectedSet (s : PerLane Bool)
  | entries (t : TableId) (first : Nat) (es : List LaneSet)
  | length (t : TableId) (n : Nat)
  | copy (t : TableId)
  | active (t : TableId)
  | mark (b : Bool)
  | lockout (l : StoredLockout)
  | markAndLockout (b : Bool) (l : StoredLockout)
deriving DecidableEq, Repr

/-- How the block or request that asked for a write goes on when the write is complete (R191). -/
inductive Cont where
  | answer (st : Station) (type : Byte) (code : AnswerCode) (spec : AnswerSpec)
  | ignite
  | overheat
  | attemptFailed
  | purgeHot
  | purgeEnd (next : PurgeNext)
  | lockoutCleared (st : Station)
  | boundary (workFirst heaterFirst : Bool)
  | nothing
deriving DecidableEq, Repr

/-- One write asked of the store. -/
structure Job where
  change : Change
  cont : Cont
deriving DecidableEq, Repr

/-- One image of the store: whether its check value holds, its write count and its content (R191). -/
structure Image where
  valid : Bool
  count : Nat
  content : Settings
deriving DecidableEq, Repr

/-- The two images. -/
inductive ImageId where
  | a | b
deriving DecidableEq, Repr

/-- The configuration store: two images, the writes asked for in order (the head is in progress while `writing` names
its image) and STORE_DEFAULTED (R191). `ticks` (MODEL) counts tens of milliseconds of the write in progress. -/
structure Store where
  a : Image
  b : Image
  jobs : List Job
  writing : Option ImageId
  defaulted : Bool
  ticks : Nat
deriving DecidableEq, Repr

/-- The cab clock: the second, the hundredth of the second, and (MODEL) whether the events of this instant have
joined the queue. -/
structure Clock where
  sec : Nat
  cs : Nat
  begun : Bool
deriving DecidableEq, Repr

/-- MODEL: what the analogue and sense leads last showed, which the model's own clock goes on sampling. -/
structure Leads where
  rawV : BitVec 12
  rawI : BitVec 12
  cab : Int
  hx : Int
  fridge : Int
  trips : PerChannel Bool
deriving DecidableEq, Repr

/-! ## The part and the machine -/

/-- The part: every block of the block overview, the settings in force and the store. -/
structure Device where
  inReset : Bool
  clock : Clock
  settings : Settings
  store : Store
  link : Link
  table : Table
  bank : Bank
  budget : Budget
  sched : Sched
  heater : Heater
  fridge : Fridge
  lamps : PerChannel Lamp
  accounts : PerDriver Account
  plans : PerDriver PlanUnit
  vehicle : Vehicle
  leads : Leads
deriving DecidableEq, Repr

/-- The machine: the part and the queue of commands that wait, first in, first out. -/
structure State where
  dev : Device
  pending : List Instr
deriving DecidableEq, Repr

/-- The part raises no fault: the manual gives every command its effect in every state (log entry 1). -/
inductive Fault where
deriving DecidableEq, Repr

/-- Reasons for refusing a command. -/
inductive Refusal where
  /-- Raised by an arm of `exec` that has no meaning yet; safe. No arm raises it. -/
  | notModelled (mnemonic : String)
deriving DecidableEq, Repr

/-! ## Start-up state -/

/-- An enabled station starts OFFLINE with its counts 0, another DISABLED; every set and flag is empty (R32). The counts of
a DISABLED one are 0 too (DESIGN CHOICE, log entry 77). -/
def startStation (c : StationSettings) : StationLink where
  link := if c.windows.toList.all Option.isNone && c.quota == 0 then .disabled else .offline
  missed := 0
  skip := 0
  entries := []
  flags := Flags.none
  failure := .none

/-- A lamp channel after power-on (R148). -/
def startLamp : Lamp := ⟨0, ⟨none, none⟩, 0, 0, 0, 0, false⟩

/-- A driver's account after power-on (R160). -/
def startAccount : Account where
  reported := .unknown
  effective := .unknown
  lastKnown := none
  candidate := none
  settleTimer := 0
  settled := false
  unknownTimer := 0
  restStart := none
  cd := 0
  dd := 0
  bl := 0
  rl := 0
  partOne := false
  breakDone := false
  incomplete := true
  warnings := Warnings.none
  ack := .none
  subject := false
  sounding := false
  lastOnset := none
  lastDash := none
  bunkUntil := none

/-- An empty table of 48 slots, every generation 1 (R25). -/
def emptyTable : Table where
  slots := List.replicate 48 ⟨1, none⟩
  counter := 0
  queue := []
  causes := ⟨CauseSet.none, CauseSet.none,
    ⟨CauseSet.none, CauseSet.none, CauseSet.none, CauseSet.none, CauseSet.none, CauseSet.none⟩,
    CauseSet.none, ⟨CauseSet.none, CauseSet.none⟩⟩
  quiet := none
  leaving := none

/-- The heater in OFF, as power-on leaves it with no mark and no lockout (R111, R131). -/
def startHeater : Heater where
  state := .off
  stage := 0
  startTemp := none
  glowFrames := 0
  attempts := 0
  step := 0
  hold := 0
  stepDue := false
  pauseTimer := 0
  lossTimer := 0
  overTimer := 0
  runTimer := 0
  lossLimit := Config.coolLimit
  cause := .none
  claim := false
  plug := false
  fuel := false
  demand := none
  target := 0
  cab := none
  hx := none
  waiting := false
  held := []
  swapHeld := false

/-- The blocks' start-up state from a loaded set (R193), before the heater reads its mark and lockout and before the
budget unit's first recomputation. -/
def startDevice (c : Settings) (st : Store) (l : Leads) : Device where
  inReset := false
  clock := ⟨0, 0, false⟩
  settings := c
  store := st
  link := {
    stations := c.stations.map startStation
    pos := 1
    polled := false
    phase := .ready
    ticks := 0
    pollFrame := []
    answerFrame := []
    heldAnswer := none }
  table := emptyTable
  bank := {
    q := c.capacity * 3600 / 2
    r := 0
    uncalibrated := true
    vstate := .normal
    timers := Debounce.zero
    due := none
    fullAnchor := 0
    sum := 0
    engineRun := 0
    runCleared := false
    cabMark := false
    fleetMark := false }
  budget := {
    ladder := []
    position := 0
    modes := ⟨.full, .full, .full⟩
    cap := 100
    mode := .nominal
    proj := ⟨0, 0, 0, 0, 0, 0, 0⟩
    tminBelow := false }
  sched := {
    swapPending := false
    slotLength := c.slotLength
    slotIndex := 0
    slotTime := 0
    frame := 0
    perm := ⟨false, false, false⟩
    glowStart := false
    claim := false
    outletOn := false
    outletClosed := false
    waiting := false
    owed := none
    late := [] }
  heater := startHeater
  fridge := ⟨.guard, 0, 0, false, none, false, 0, 0, false, none⟩
  lamps := ⟨startLamp, startLamp, startLamp, startLamp, startLamp, startLamp⟩
  accounts := ⟨startAccount, startAccount⟩
  plans := ⟨PlanUnit.empty, PlanUnit.empty⟩
  vehicle := ⟨false, 0, 0, false, 0, false, 0, none⟩
  leads := l

/-- A store whose images both fail their check (log entry 5). -/
def blankStore : Store where
  a := ⟨false, 0, Config.factory⟩
  b := ⟨false, 0, Config.factory⟩
  jobs := []
  writing := none
  defaulted := true
  ticks := 0

/-- What the leads show before any sample (log entry 6). -/
def quietLeads : Leads := ⟨3100#12, 0#12, 40, 40, 10, ⟨false, false, false, false, false, false⟩⟩

/-- The factory ladder (R70). -/
def factoryLadder : List LadderStep :=
  [.slow .aux, .slow .cool, .slow .heat, .cap 50, .stop .aux, .stop .cool, .cap 25]

/-- The part right after a power-on with a blank store: the factory set, STORE_DEFAULTED, and the first recomputation
that R64 works out (R193, R194). Slot 0, whose factory entry bears HEAT and GLOW, permits HEAT, and a glow start
too (DESIGN CHOICE, log entry 81). -/
def resetDevice : Device :=
  let d := startDevice Config.factory blankStore quietLeads
  { d with
    budget := { d.budget with
      ladder := factoryLadder
      proj := ⟨51750, 30, 36000, 0, 10800, 40950, 2875⟩ }
    sched := { d.sched with perm := ⟨true, false, false⟩, glowStart := true } }

/-- The machine right after power-on, with nothing waiting (R193; log entries 4 to 6). -/
def State.reset : State := ⟨resetDevice, []⟩

end Sys2Proof.Machine
end

