-- ==== Sys2Proof/Machine/Ops.lean ====
section
/-! DEFINITION. The shared readings and writings of the part's state: functions and their numbers (R1), handles and
records (R6, R20), effective values (R22), the cause map (R12), windows and rights (R33 to R36). -/

namespace Sys2Proof.Machine
open Sys2Proof

/-! ## Function map (R1) -/

def channelNumber : Channel → Nat
  | .c8 => 8 | .c9 => 9 | .c10 => 10 | .c11 => 11 | .c12 => 12 | .c13 => 13

def driverNumber : Driver → Nat
  | .one => 1 | .two => 2

def stationAddress : Station → Nat
  | .s1 => 1 | .s2 => 2 | .s3 => 3 | .s4 => 4 | .s5 => 5 | .s6 => 6

/-- The global number of an assigned function. -/
def fnNumber : Fn → Nat
  | .heater => 0
  | .fridge => 4
  | .lamp c => channelNumber c
  | .outlet => 16
  | .rest .one => 20
  | .rest .two => 21

/-- The assigned function of a global number, if it has one. -/
def fnOfNumber : Nat → Option Fn
  | 0 => some .heater
  | 4 => some .fridge
  | 8 => some (.lamp .c8)
  | 9 => some (.lamp .c9)
  | 10 => some (.lamp .c10)
  | 11 => some (.lamp .c11)
  | 12 => some (.lamp .c12)
  | 13 => some (.lamp .c13)
  | 16 => some .outlet
  | 20 => some (.rest .one)
  | 21 => some (.rest .two)
  | _ => none

def fnKind : Fn → Kind
  | .heater => .heatHold
  | .fridge => .coolHold
  | .lamp _ => .lamp
  | .outlet => .auxOn
  | .rest _ => .restPlan

/-- Station records allowed on a function at one time. -/
def fnLimit : Fn → Nat
  | .heater => 8
  | .fridge => 8
  | .lamp _ => 4
  | .outlet => 4
  | .rest _ => 1

/-- The lane of a lane function. -/
def fnLane : Fn → Option Lane
  | .heater => some .heat
  | .fridge => some .cool
  | .outlet => some .aux
  | _ => none

def laneFn : Lane → Fn
  | .heat => .heater
  | .cool => .fridge
  | .aux => .outlet

/-! ## Records and slots (R6, R7) -/

/-- The live records of a run of slots, with their handles, in slot order. -/
def recordsFrom : Nat → List Slot → List (Handle × Record)
  | _, [] => []
  | i, s :: ss =>
    match s.rcd with
    | some r => (⟨i, s.gen⟩, r) :: recordsFrom (i + 1) ss
    | none => recordsFrom (i + 1) ss

/-- The live records of the table, in ascending slot order. -/
def records (d : Device) : List (Handle × Record) := recordsFrom 0 d.table.slots

/-- The record a handle names; `none` for a stale handle (R6). -/
def lookup (d : Device) (h : Handle) : Option Record :=
  if h.slot ≤ 47 ∧ h.gen ≠ 0 then
    match d.table.slots[h.slot]? with
    | some s => if s.gen = h.gen then s.rcd else none
    | none => none
  else none

/-- The generation after `g`: 255 is followed by 1 (R6). -/
def nextGen (g : Nat) : Nat := if g ≥ 255 then 1 else g + 1

/-- Writes a record into the slot its handle names. -/
def putRecord (h : Handle) (r : Record) (d : Device) : Device :=
  { d with table := { d.table with slots := d.table.slots.set h.slot ⟨h.gen, some r⟩ } }

/-- Frees a slot and advances its generation (R6). -/
def freeSlot (i : Nat) (d : Device) : Device :=
  let s := d.table.slots.getD i ⟨1, none⟩
  { d with table := { d.table with slots := d.table.slots.set i ⟨nextGen s.gen, none⟩ } }

/-- The lowest free slot of a run of slots that begins with number `i`. -/
def firstFree : Nat → List Slot → Option Handle
  | _, [] => none
  | i, s :: ss => if s.rcd.isNone then some ⟨i, s.gen⟩ else firstFree (i + 1) ss

/-- The slot that the next station record takes (R7). -/
def freeStationSlot (d : Device) : Option Handle :=
  firstFree 0 (d.table.slots.take Config.stationSlots)

/-- The reserved slot of a driver's INTERNAL record (R7, R26). -/
def internalSlot : Driver → Nat
  | .one => 46 | .two => 47

def ownerStation : Owner → Option Station
  | .station st => some st
  | .internal => none

/-- A station's live records (R8). -/
def stationRecords (d : Device) (st : Station) : List (Handle × Record) :=
  (records d).filter fun hr => hr.2.owner = .station st

/-- The live station records that name a function (R8). -/
def fnStationRecords (d : Device) (fn : Fn) : List (Handle × Record) :=
  (records d).filter fun hr => hr.2.fn = fn ∧ hr.2.owner ≠ .internal

/-- A record's place in the deferral queue, 1 for the head and 0 when it is not in it (R21, R23). -/
def queuePosition (h : Handle) : List Handle → Nat
  | [] => 0
  | x :: xs => if x = h then 1 else if xs.contains h then queuePosition h xs + 1 else 0

/-- Takes a handle out of the deferral queue; the others keep their order (R23). -/
def leaveQueue (h : Handle) (d : Device) : Device :=
  { d with table := { d.table with queue := d.table.queue.filter fun x => x ≠ h } }

/-- A handle joins the tail of the deferral queue unless it is in it (R10, R23). -/
def joinQueue (h : Handle) (d : Device) : Device :=
  if d.table.queue.contains h then d
  else { d with table := { d.table with queue := d.table.queue ++ [h] } }

/-! ## Amendment sequence (R20) -/

/-- The place of a sequence among the live ones: 1 for the smallest. -/
def seqRank (d : Device) (n : Nat) : Nat :=
  ((records d).filter fun hr => hr.2.seq < n).length + 1

/-- Renumbers the live sequences 1, 2, 3 in their order and sets the counter to their number. -/
def renumber (d : Device) : Device :=
  { d with table := { d.table with
      slots := d.table.slots.map fun s =>
        ⟨s.gen, s.rcd.map fun r => { r with seq := seqRank d r.seq }⟩
      counter := (records d).length } }

/-- Takes the next amendment sequence: the table's counter after it is the new value. -/
def takeSequence (d : Device) : Device :=
  let d := if d.table.counter ≥ Config.sequenceLimit then renumber d else d
  { d with table := { d.table with counter := d.table.counter + 1 } }

/-! ## Effective values (R22) -/

/-- The GRANTED records of a function. -/
def grantedOf (d : Device) (fn : Fn) : List Record :=
  ((records d).filter fun hr => hr.2.fn = fn ∧ hr.2.state = .granted).map Prod.snd

/-- The greatest of a list by a key that may be absent. -/
def greatest (key : Record → Option Int) : List Record → Option Int
  | [] => none
  | r :: rs =>
    match key r, greatest key rs with
    | some x, some y => some (max x y)
    | some x, none => some x
    | none, y => y

def setpointOf (r : Record) : Option Int :=
  match r.params with
  | .heat s _ => some s
  | _ => none

def targetOf (r : Record) : Option Int :=
  match r.params with
  | .cool t => some t
  | _ => none

def levelOf (r : Record) : Nat :=
  match r.params with
  | .lamp l => l
  | _ => 0

/-- The highest setpoint among the GRANTED heat records, or no demand. -/
def heatValue (d : Device) : Option Int := greatest setpointOf (grantedOf d .heater)

/-- The lowest target among the GRANTED cool records, or no demand. -/
def coolValue (d : Device) : Option Int :=
  (greatest (fun r => (targetOf r).map Neg.neg) (grantedOf d .fridge)).map Neg.neg

/-- The record with the largest amendment sequence. -/
def latest : List Record → Option Record
  | [] => none
  | r :: rs =>
    match latest rs with
    | some x => if x.seq ≤ r.seq then some r else some x
    | none => some r

/-- The level of the latest GRANTED record of a channel, or 0 (R150). -/
def lampValue (d : Device) (c : Channel) : Nat :=
  match latest (grantedOf d (.lamp c)) with
  | some r => levelOf r
  | none => 0

def outletValue (d : Device) : Bool := !(grantedOf d .outlet).isEmpty

/-! ## Availability map (R12) -/

def causesOf (m : CauseMap) : Fn → CauseSet
  | .heater => m.heater
  | .fridge => m.fridge
  | .lamp c => m.lamps.get c
  | .outlet => m.outlet
  | .rest dr => m.rest.get dr

def setCauses (m : CauseMap) (s : CauseSet) : Fn → CauseMap
  | .heater => { m with heater := s }
  | .fridge => { m with fridge := s }
  | .lamp c => { m with lamps := m.lamps.set s c }
  | .outlet => { m with outlet := s }
  | .rest dr => { m with rest := m.rest.set s dr }

/-- The first standing cause in the order of report. -/
def firstCause (s : CauseSet) : Option Reason :=
  if s.cutoff then some .cutoff
  else if s.lockout then some .lockout
  else if s.noGlowSlot then some .noGlowSlot
  else if s.channelFault then some .channelFault
  else if s.budget then some .budget
  else none

/-- What the map makes of a record: a GRANTED one is suspended for the first cause, a SUSPENDED one takes the first
cause as its reason or resumes; the others are not affected. -/
def mapRecord (s : CauseSet) (r : Record) : Record :=
  match r.state, firstCause s with
  | .granted, some c => { r with state := .suspended, reason := c }
  | .suspended, some c => { r with reason := c }
  | .suspended, none => { r with state := .granted, reason := .resumed }
  | _, _ => r

/-! ## Windows (R33 to R36) -/

/-- A station is enabled while it has a window or a quota above 0 (section 2.2). -/
def stationEnabled (c : StationSettings) : Bool :=
  !(c.windows.toList.all Option.isNone && c.quota == 0)

/-- The windows a station holds, in window order. -/
def windowList (d : Device) (st : Station) : List Window :=
  (d.settings.stations.get st).windows.toList.filterMap id

/-- A window covers local numbers from its base, not above 63. -/
def coversLocal (w : Window) (n : Nat) : Bool := w.base ≤ n && n < w.base + w.size && n ≤ 63

/-- A window reaches global numbers over the count of the local numbers it covers, not above 63. -/
def reachesGlobal (w : Window) (g : Nat) : Bool :=
  w.global ≤ g && g < w.global + min w.size (64 - w.base) && g ≤ 63

/-- Translation of a local number: the global number and the rights window (R34). -/
def translate (d : Device) (st : Station) (n : Nat) : Option (Nat × Window) :=
  match (windowList d st).find? (coversLocal · n) with
  | some w =>
    let g := w.global + (n - w.base)
    if n ≤ 63 ∧ g ≤ 63 then some (g, w) else none
  | none => none

/-- The first window whose global range holds a function (R35, R36). -/
def windowOf (d : Device) (st : Station) (fn : Fn) : Option Window :=
  (windowList d st).find? (reachesGlobal · (fnNumber fn))

/-- The local number reported for a function, 255 where no window reaches it (R36). -/
def localNumber (d : Device) (st : Station) (fn : Fn) : Nat :=
  match windowOf d st fn with
  | some w => w.base + (fnNumber fn - w.global)
  | none => 255

/-! ## Schedule tables (R93) -/

def activeTable (d : Device) : Schedule := d.settings.tables.get d.settings.active

def otherTable : TableId → TableId
  | .a => .b | .b => .a

/-- The entry that governs the present slot. While a swap's mark is being written the last slot of the old frame still
runs, and the table that the swap has replaced governs it (R101, R102; DEDUCED, log entry 15). -/
def currentEntry (d : Device) : LaneSet :=
  let t := if d.sched.waiting then d.settings.tables.get (otherTable d.settings.active) else activeTable d
  t.entries.getD d.sched.slotIndex LaneSet.none

/-- A change of a current waits for its write (R91). -/
def currentsPending (d : Device) : Bool :=
  d.store.jobs.any fun j =>
    match j.change with
    | .num (.current _) _ => true
    | _ => false

/-- The scheduler keeps the loads idle for a change of a current (R91; DEDUCED, log entry 52). -/
def keptIdle (d : Device) : Bool := d.sched.waiting && currentsPending d

def bears (e : LaneSet) : Lane → Bool
  | .heat => e.heat | .cool => e.cool | .aux => e.aux

/-- The number of entries among the first Lf of the active table that bear a lane: pl of R73. -/
def laneCount (d : Device) (l : Lane) : Nat :=
  (((activeTable d).entries.take (activeTable d).length).filter (bears · l)).length

/-- The sum of the rated currents of an entry's lanes (R94). -/
def entryCurrent (c : Currents) (e : LaneSet) : Nat :=
  (if e.heat then c.rHeat else 0) + (if e.glow then c.rGlow else 0) +
    (if e.cool then c.rCool else 0) + (if e.aux then c.rAux else 0)

/-- The heavy loads are idle (R91). -/
def loadsIdle (d : Device) : Bool :=
  (match d.heater.state with
    | .off | .precheck | .waitGlow | .pause | .lockout => true
    | _ => false) &&
  (d.fridge.state != .running) && !d.sched.outletClosed

/-! ## Meanings over the part -/

/-- A command's effect on the part; in reset only power-on acts (R193). -/
def onPart (f : Device → Device) (s : State) : Host.Outcome State Fault Refusal :=
  .next { s with dev := if s.dev.inReset then s.dev else f s.dev }

end Sys2Proof.Machine
end

