-- ==== Sys2Proof/Machine/Lamps.lean ====
section
/-! DEFINITION. The lamp controller's targets, cap and ramps (R149 to R153). -/

namespace Sys2Proof.Machine
open Sys2Proof

/-- The greatest of the effective level and the covering ramps, 0 while faulted (R149). -/
def targetBefore (l : Lamp) : Nat :=
  if l.fault then 0 else max l.effective (max (l.ramp.one.getD 0) (l.ramp.two.getD 0))

/-- Forms a channel's target (R149). -/
def formLamp (cap : Nat) (l : Lamp) : Lamp :=
  { l with before := targetBefore l, target := min (targetBefore l) cap }

/-- Changes one channel and forms its target. -/
def changeLamp (c : Channel) (f : Lamp → Lamp) (d : Device) : Device :=
  { d with lamps := d.lamps.set (formLamp d.budget.cap (f (d.lamps.get c))) c }

/-- The table hands a channel's effective level (R150). -/
def handLevel (c : Channel) (n : Nat) (d : Device) : Device :=
  changeLamp c (fun l => { l with effective := n }) d

/-- A new cap: the target is formed, and an output above the cap comes down at once (R153). -/
def capLamp (cap : Nat) (l : Lamp) : Lamp :=
  let l := formLamp cap l
  { l with out := min l.out (cap * 10) }

/-- The budget unit hands the lamp cap in force (R153). -/
def applyCap (d : Device) : Device :=
  { d with lamps := d.lamps.imap fun _ l => capLamp d.budget.cap l }

/-- A ramp start: each covered channel takes the level (R152). -/
def rampStart (dr : Driver) (chans : PerChannel Bool) (level : Nat) (d : Device) : Device :=
  { d with lamps := d.lamps.imap fun c l =>
      if chans.get c then formLamp d.budget.cap { l with ramp := l.ramp.set (some level) dr } else l }

/-- A ramp level: each covered channel takes it (R152). -/
def rampLevel (dr : Driver) (level : Nat) (d : Device) : Device :=
  { d with lamps := d.lamps.imap fun _ l =>
      if (l.ramp.get dr).isSome then formLamp d.budget.cap { l with ramp := l.ramp.set (some level) dr } else l }

/-- A ramp end: no channel is covered for the driver (R152). -/
def rampEnd (dr : Driver) (d : Device) : Device :=
  { d with lamps := d.lamps.imap fun _ l =>
      if (l.ramp.get dr).isSome then formLamp d.budget.cap { l with ramp := l.ramp.set none dr } else l }

end Sys2Proof.Machine
end

