-- ==== Sys2Proof/Machine/Flags.lean ====
section
/-! DEFINITION. The pending-notice sets and the general flags (R13, R42 to R44): how a mark joins a set, how a
retirement turns into a retired entry, and how a block's flag is raised in every ONLINE station. -/

namespace Sys2Proof.Machine
open Sys2Proof

def Entry.isRetired : Entry → Bool
  | .retired _ _ _ => true
  | .live _ => false

/-- Takes the oldest retired entry out of a set (R43). -/
def dropOldestRetired : List Entry → List Entry
  | [] => []
  | e :: es => if e.isRetired then es else e :: dropOldestRetired es

/-- Room for one more entry: the oldest retired entry leaves. A full set has one, since at most 48 entries are live
(R42); were there none, the oldest entry would leave. -/
def makeRoom (es : List Entry) : List Entry :=
  if es.any Entry.isRetired then dropOldestRetired es else es.drop 1

/-- An entry joins the tail; a full set first loses its oldest retired entry and sets RESYNC (R43). -/
def joinEntry (e : Entry) (p : StationLink) : StationLink :=
  if p.entries.length ≥ Config.setLimit then
    { p with entries := makeRoom p.entries ++ [e], flags := { p.flags with resync := true } }
  else { p with entries := p.entries ++ [e] }

/-- A mark for a record: a live entry joins unless the set has one (R42); only ONLINE stations are filled (R30). -/
def markEntry (h : Handle) (p : StationLink) : StationLink :=
  if p.link ≠ .online then p
  else if p.entries.contains (.live h) then p
  else joinEntry (.live h) p

/-- Turns the live entry of a handle into a retired one, in its place. -/
def convertEntry (h : Handle) (e : Entry) : List Entry → List Entry
  | [] => []
  | x :: xs => if x = .live h then e :: xs else x :: convertEntry h e xs

/-- A retirement that no answer reports (R42). -/
def retireEntry (h : Handle) (fn : Fn) (r : RetireReason) (p : StationLink) : StationLink :=
  if p.link ≠ .online then p
  else if p.entries.contains (.live h) then
    { p with entries := convertEntry h (.retired h fn r) p.entries }
  else joinEntry (.retired h fn r) p

/-- A retirement by the owner's own RETIRE: its live entry leaves the set (R42). -/
def dropEntry (h : Handle) (p : StationLink) : StationLink :=
  { p with entries := p.entries.filter fun e => e ≠ .live h }

/-- Changes one station's link record. -/
def updateStation (st : Station) (f : StationLink → StationLink) (d : Device) : Device :=
  { d with link := { d.link with stations := d.link.stations.set (f (d.link.stations.get st)) st } }

/-- The owner of the plan with a handle: a live plan, or the one that is being retired (R13, R26). -/
def planOwner (d : Device) (ph : Handle) : Option Station :=
  match lookup d ph with
  | some p => ownerStation p.owner
  | none => (d.table.leaving.filter fun l => l.1 = ph).map Prod.snd

/-- The station whose set a record marks: its owner, or the owner of the plan an INTERNAL record serves (R13). -/
def noticeStation (d : Device) (r : Record) : Option Station :=
  match r.owner with
  | .station st => some st
  | .internal =>
    match r.params with
    | .heat _ (some ph) => planOwner d ph
    | _ => none

/-- Marks a record in its station's set, unless the answer being formed reports it (R13). -/
def mark (h : Handle) (d : Device) : Device :=
  if d.table.quiet = some h then d
  else
    match lookup d h with
    | some r =>
      match noticeStation d r with
      | some st => updateStation st (markEntry h) d
      | none => d
    | none => d

/-- Changes a record, marking it where the change alters it (R13). -/
def revise (h : Handle) (f : Record → Record) (d : Device) : Device :=
  match lookup d h with
  | some r => if f r = r then d else mark h (putRecord h (f r) d)
  | none => d

/-- Sets a general flag in a station that is ONLINE (R44). -/
def flagStation (f : Flags → Flags) (p : StationLink) : StationLink :=
  if p.link = .online then { p with flags := f p.flags } else p

/-- Sets a general flag in every ONLINE station (R44). -/
def raiseFlag (f : Flags → Flags) (d : Device) : Device :=
  { d with link := { d.link with stations := d.link.stations.map (flagStation f) } }

def heaterFlag (f : Flags) : Flags := { f with heater := true }
def budgetFlag (f : Flags) : Flags := { f with budget := true }
def warningFlag (dr : Driver) (f : Flags) : Flags := { f with warning := f.warning.set true dr }

/-- A failure's kind becomes the pending failure kind of a station that is ONLINE (R44). -/
def noteFailure (k : FailureKind) (p : StationLink) : StationLink :=
  if p.link = .online then { p with failure := k } else p

/-- A failure's kind becomes the pending failure kind of every ONLINE station (R44, R133). -/
def setFailure (k : FailureKind) (d : Device) : Device :=
  { d with link := { d.link with stations := d.link.stations.map (noteFailure k) } }

/-- A failure: the pending failure kind and HEATER in every ONLINE station (R44, R133). -/
def reportFailure (k : FailureKind) (d : Device) : Device := raiseFlag heaterFlag (setFailure k d)

end Sys2Proof.Machine
end

