-- ==== Sys2Proof/Machine/Lanes.lean ====
section
/-! DEFINITION. Permissions and the glow claim (R102 to R106), the outlet switch (R109), and what reaches the heater
sequencer and the fridge controller from their neighbours: demand, stop events, voltage states (R114, R116, R128),
cooling demand and COOL permission (R140 to R144). -/

namespace Sys2Proof.Machine
open Sys2Proof

/-! ## The scheduler's own part -/

/-- A lane is withheld by the claim, by HIGH or by CUTOFF (R103). -/
def withheld (d : Device) : Lane → Bool
  | .heat => d.bank.vstate == .cutoff
  | _ => d.sched.claim || d.bank.vstate == .high || d.bank.vstate == .cutoff

/-- An odd frame (R99). -/
def oddFrame (d : Device) : Bool := d.sched.frame % 2 == 1

/-- The mode of a lane lets it draw in the present frame (R102). -/
def modeAllows (d : Device) (l : Lane) : Bool :=
  match d.budget.modes.get l with
  | .full => true
  | .alternate => oddFrame d
  | .off => false

/-- The permission that the inputs call for (R102); none while the loads are kept idle for a change of a current (R91;
DEDUCED, log entry 52). -/
def formed (d : Device) (l : Lane) : Bool :=
  bears (currentEntry d) l && modeAllows d l && !withheld d l && !keptIdle d

/-- The switch is CLOSED while AUX is permitted and the outlet's effective value is on (R109). -/
def setOutlet (d : Device) : Device :=
  { d with sched := { d.sched with outletClosed := d.sched.perm.aux && d.sched.outletOn } }

/-- The heater's cap on its power step (R121). -/
def stepCap (d : Device) : Nat :=
  if !d.sched.perm.heat || d.bank.vstate == .high then 1 else 4

/-- A step above the cap drops to it at once, and the hold timer returns to 0 (R107, R121), while the sequencer waits for a
store write too (R106, R112; DEDUCED, log entry 85). -/
def dropStep (d : Device) : Device :=
  if d.heater.state = .run ∧ stepCap d < d.heater.step then
    { d with heater := { d.heater with step := stepCap d, hold := 0, stepDue := false } }
  else d

/-- The compressor starts (R141). -/
def startCompressor (d : Device) : Device :=
  { d with fridge := { d.fridge with state := .running, run := 0 } }

/-- Every stop of the compressor enters GUARD (R145). -/
def stopCompressor (d : Device) : Device :=
  { d with fridge := { d.fridge with state := .guard, guard := 0 } }

/-- A loss of COOL permission forces the compressor off (R143). -/
def forceStop (d : Device) : Device :=
  if d.fridge.state = .running then stopCompressor d else d

/-- A grant of COOL starts a compressor that waits (R141). -/
def grantCool (d : Device) : Device :=
  if d.fridge.state = .waiting then startCompressor d else d

/-- First half of a formation: the permissions that end go to their loads (R106). -/
def withdraw (new : PerLane Bool) (d : Device) : Device :=
  let old := d.sched.perm
  let d := { d with sched := { d.sched with
    perm := ⟨old.heat && new.heat, old.cool && new.cool, old.aux && new.aux⟩ } }
  let d := if old.heat && !new.heat then dropStep d else d
  let d := if old.cool && !new.cool then forceStop d else d
  setOutlet d

/-- Second half: the permissions that begin go to their loads (R106). -/
def bestow (new : PerLane Bool) (d : Device) : Device :=
  let old := d.sched.perm
  let d := { d with sched := { d.sched with perm := new } }
  let d := if new.cool && !old.cool then grantCool d else d
  setOutlet d

/-- Forms the permissions anew (R102, R106), while a swap's mark is being written too (R103, R106, R109; DEDUCED, log
entry 15). -/
def formPermissions (d : Device) : Device :=
  let new : PerLane Bool := ⟨formed d .heat, formed d .cool, formed d .aux⟩
  bestow new (withdraw new d)

/-- The new slot permits a glow start (R105). -/
def glowStartOf (d : Device) : Bool :=
  (currentEntry d).glow && d.bank.vstate == .normal && d.budget.modes.heat != .off

/-- The outlet's effective value is handed to the switch (R22, R109). -/
def handOutlet (on : Bool) (d : Device) : Device :=
  setOutlet { d with sched := { d.sched with outletOn := on } }

/-! ## The glow claim (R104, R118) -/

/-- The scheduler reports the claim held, once: on the report the heater in PREGLOW switches the plug on, and its stage
timer starts (R104, R118). -/
def reportClaim (d : Device) : Device :=
  if d.sched.claim && d.heater.state == .preglow && !d.heater.plug then
    { d with heater := { d.heater with plug := true, stage := 0 } }
  else d

/-- The heater takes the claim: COOL and AUX lose permission, and the scheduler reports it held (R104). -/
def takeClaim (d : Device) : Device :=
  reportClaim (formPermissions { d with
    heater := { d.heater with claim := true }
    sched := { d.sched with claim := true } })

/-- The plug goes off, then the claim is released. -/
def releaseClaim (d : Device) : Device :=
  formPermissions { d with
    heater := { d.heater with plug := false, claim := false }
    sched := { d.sched with claim := false } }

/-! ## Heater states (R111, R112, R133) -/

/-- The power step that a state holds (R112). -/
def heldStep : HeaterState → Nat
  | .ignite => 1
  | .run => 1
  | _ => 0

/-- Enters a state: the stage timer is 0, the power step is the state's, fuel runs only in RUN (and in IGNITE after its
write, R119), the plug stays on at most from PREGLOW into IGNITE (R112), and the HEATER flag is set (R133). The start
temperature and the flame-loss limit keep their last values after a burn (R111; DESIGN CHOICE, log entry 74), the glow frame
count its last one after a start (log entry 80). -/
def setHeater (st : HeaterState) (d : Device) : Device :=
  raiseFlag heaterFlag { d with heater := { d.heater with
    state := st
    stage := 0
    step := heldStep st
    stepDue := false
    fuel := st == .run
    plug := d.heater.plug && (st == .preglow || st == .ignite)
    swapHeld := false } }

/-- Entry to PRECHECK (R115). -/
def enterPrecheck (d : Device) : Device :=
  setHeater .precheck { d with heater := { d.heater with glowFrames := 0 } }

/-- Entry to PURGE with a cause (R126). The burn's start temperature and flame-loss limit keep their last values (DESIGN
CHOICE, log entry 74). -/
def enterPurge (c : PurgeCause) (d : Device) : Device :=
  setHeater .purge { d with heater := { d.heater with cause := c } }

/-- A start given up in PRECHECK or WAIT_GLOW loses its start temperature and glow frame count (R116, R128). -/
def discardStart (d : Device) : Device :=
  { d with heater := { d.heater with startTemp := none, glowFrames := 0 } }

/-- A stop event, by the state it finds (R128). -/
def stopHeater (d : Device) : Device :=
  match d.heater.state with
  | .off => d
  | .lockout => d
  | .purge => d
  | .precheck => setHeater .off (discardStart d)
  | .waitGlow => setHeater .off (discardStart d)
  | .preglow => setHeater .off (releaseClaim d)
  | .ignite => enterPurge .stop (releaseClaim d)
  | .run => enterPurge .stop d
  | .pause => setHeater .off d

/-- The arrival of heat demand (R114). -/
def demandHeat (d : Device) : Device :=
  if d.heater.state = .off then enterPrecheck d else d

/-- A new voltage state reaches the sequencer (R116, R121, R128). -/
def voltageHeater (v : VState) (d : Device) : Device :=
  match v with
  | .cutoff => stopHeater d
  | .high => if d.heater.state = .waitGlow then enterPrecheck (discardStart d) else dropStep d
  | .low => if d.heater.state = .waitGlow then enterPrecheck (discardStart d) else d
  | .normal => d

/-- A message for the sequencer is held while it waits for a store write (R119, R191). -/
def holdMsg (m : HeaterMsg) (d : Device) : Device :=
  { d with heater := { d.heater with held := d.heater.held ++ [m] } }

/-- A stop event reaches the sequencer. -/
def sendStop (d : Device) : Device :=
  if d.heater.waiting then holdMsg .stop d else stopHeater d

/-- Heat demand reaches the sequencer. -/
def sendDemand (d : Device) : Device :=
  if d.heater.waiting then holdMsg .demand d else demandHeat d

/-- A new voltage state reaches the sequencer. While it waits for a store write the message is held, but HIGH caps the step
at once, as a loss of HEAT permission does: no step above 1 stands in HIGH (R112, R121; DEDUCED, log entry 85). -/
def sendVoltage (v : VState) (d : Device) : Device :=
  if d.heater.waiting then holdMsg (.voltage v) (if v = .high then dropStep d else d) else voltageHeater v d

/-! ## Fridge demand (R140, R144) -/

/-- Cooling demand goes (R144). -/
def coolGone (d : Device) : Device :=
  let d := { d with fridge := { d.fridge with call := false, turn := false } }
  match d.fridge.state with
  | .off => d
  | .guard => d
  | .idle => { d with fridge := { d.fridge with state := .off } }
  | .waiting => { d with fridge := { d.fridge with state := .off } }
  | .running => stopCompressor d

/-- Cooling demand arrives (R140). -/
def coolArrives (d : Device) : Device :=
  if d.fridge.state = .off then { d with fridge := { d.fridge with state := .idle } } else d

end Sys2Proof.Machine
end

