-- ==== Sys2Proof/Machine/Values.lean ====
section
/-! DEFINITION. Effective values handed to the loads at each change (R22), and the availability map applied to the
records of a function (R12). -/

namespace Sys2Proof.Machine
open Sys2Proof

/-- The heater's effective value: its arrival and its loss reach the sequencer, a change of setpoint only the field (R114). -/
def pushHeat (d : Device) : Device :=
  let old := d.heater.demand
  let new := heatValue d
  let d := { d with heater := { d.heater with demand := new } }
  match old, new with
  | none, some _ => sendDemand d
  | some _, none => sendStop d
  | _, _ => d

/-- The fridge's effective value (R140, R144). -/
def pushCool (d : Device) : Device :=
  let old := d.fridge.target
  let new := coolValue d
  let d := { d with fridge := { d.fridge with target := new } }
  match old, new with
  | none, some _ => coolArrives d
  | some _, none => coolGone d
  | _, _ => d

/-- The effective value of a function goes at once to its load (R22); a plan has none. -/
def pushValue : Fn → Device → Device
  | .heater, d => pushHeat d
  | .fridge, d => pushCool d
  | .lamp c, d => handLevel c (lampValue d c) d
  | .outlet, d => handOutlet (outletValue d) d
  | .rest _, d => d

/-- Applies a function's causes to one of its records. -/
def remap (fn : Fn) (d : Device) (h : Handle) : Device :=
  revise h (mapRecord (causesOf d.table.causes fn)) d

/-- Applies a function's causes to its records and hands the value that results (R12, R22). The manual gives the records
no order; the model takes them in ascending slot order, which the order of marks shows (DESIGN CHOICE, log entry 66). -/
def applyMap (fn : Fn) (d : Device) : Device :=
  let hs := ((records d).filter fun hr => hr.2.fn = fn).map Prod.fst
  pushValue fn (hs.foldl (remap fn) d)

/-- A raising block changes a function's causes; a change that changes nothing has no effect (R12). -/
def setCause (fn : Fn) (f : CauseSet → CauseSet) (d : Device) : Device :=
  let old := causesOf d.table.causes fn
  if f old = old then d
  else applyMap fn { d with table := { d.table with causes := setCauses d.table.causes (f old) fn } }

def causeCutoff (b : Bool) (s : CauseSet) : CauseSet := { s with cutoff := b }
def causeLockout (b : Bool) (s : CauseSet) : CauseSet := { s with lockout := b }
def causeNoGlowSlot (b : Bool) (s : CauseSet) : CauseSet := { s with noGlowSlot := b }
def causeChannelFault (b : Bool) (s : CauseSet) : CauseSet := { s with channelFault := b }
def causeBudget (b : Bool) (s : CauseSet) : CauseSet := { s with budget := b }

end Sys2Proof.Machine
end

