-- ==== Sys2Proof/Machine/Budget.lean ====
section
/-! DEFINITION. The budget unit (chapter 4): the shed ladder, the projection, the regimes, the recomputation,
admission and the work of a frame boundary. -/

namespace Sys2Proof.Machine
open Sys2Proof

/-! ## The shed ladder (R70, R72) -/

/-- The ladder of a shed order and a protected set (R70). -/
def buildLadder (o : ShedOrder) (prot : PerLane Bool) : List LadderStep :=
  (o.toList.map LadderStep.slow ++ [.cap 50]) ++
    ((o.toList.filter fun l => !prot.get l).map LadderStep.stop ++ [.cap 25])

/-- A lane's mode when the steps given are taken (R72). -/
def laneModeAt (taken : List LadderStep) (l : Lane) : LaneMode :=
  if taken.contains (.stop l) then .off
  else if taken.contains (.slow l) then .alternate
  else .full

def modesAt (ladder : List LadderStep) (pos : Nat) : PerLane LaneMode :=
  let taken := ladder.take pos
  ⟨laneModeAt taken .heat, laneModeAt taken .cool, laneModeAt taken .aux⟩

/-- The lamp cap when the first `pos` steps are taken (R72). -/
def capAt (ladder : List LadderStep) (pos : Nat) : Nat :=
  let taken := ladder.take pos
  if taken.contains (.cap 25) then 25 else if taken.contains (.cap 50) then 50 else 100

def allOff : PerLane LaneMode := ⟨.off, .off, .off⟩

/-- The cap in CUTOFF (R66). -/
def cutoffCap : Nat := 10

/-! ## The projection (R73 to R78) -/

/-- A record keeps its lane engaged while GRANTED, or SUSPENDED for BUDGET (R73). -/
def engages (r : Record) : Bool :=
  r.state == .granted || (r.state == .suspended && r.reason == .budget)

/-- A lane is engaged by some record other than `except` (R73, R83). -/
def engaged (d : Device) (l : Lane) (except : Option Handle) : Bool :=
  (records d).any fun hr => hr.2.fn == laneFn l && engages hr.2 && some hr.1 != except

/-- Qeff (R53). -/
def effectiveCharge (b : Bank) : Nat := if b.uncalibrated then b.q * 3 / 4 else b.q

def usableCharge (d : Device) : Nat := effectiveCharge d.bank - d.settings.floor * 3600

def lampTermOf (cap rc : Nat) (l : Lamp) : Nat := ceilDiv (rc * min l.before cap) 100

/-- The lamp term under a cap (R74). -/
def lampTerm (d : Device) (cap : Nat) : Nat :=
  let rc := d.settings.currents.lamp
  let p := d.lamps
  lampTermOf cap rc.c8 p.c8 + lampTermOf cap rc.c9 p.c9 + lampTermOf cap rc.c10 p.c10 +
    lampTermOf cap rc.c11 p.c11 + lampTermOf cap rc.c12 p.c12 + lampTermOf cap rc.c13 p.c13

def modeFactor : LaneMode → Nat
  | .full => 2 | .alternate => 1 | .off => 0

/-- The term of a lane that is engaged with a factor above 0 (R75). -/
def laneCost (d : Device) (l : Lane) (k : Nat) : Nat :=
  let c := d.settings.currents
  let lf := (activeTable d).length
  let p := laneCount d l
  match l with
  | .heat => ceilDiv (k * p * c.rHeat + (2 * lf - k * p) * c.rHMin) (2 * lf)
  | .cool => ceilDiv (c.rCool * p * k) (2 * lf)
  | .aux => ceilDiv (c.rAux * p * k) (2 * lf)

/-- A lane's term; `extra` is the lane that a test counts as engaged (R73, R75). -/
def laneTerm (d : Device) (modes : PerLane LaneMode) (extra : Option Lane) (l : Lane) : Nat :=
  let k := modeFactor (modes.get l)
  if k > 0 ∧ (engaged d l none ∨ extra = some l) then laneCost d l k else 0

/-- The REST_PLAN records of the table. -/
def planRecords (d : Device) : List PlanRec :=
  (records d).filterMap fun hr =>
    match hr.2.params with
    | .plan p => some p
    | _ => none

/-- The time that a plan gives to the horizon, if it counts (R76); 0 for an end that has passed while the plan is still
ACTIVE or WAKING (DESIGN CHOICE, log entry 68). -/
def planHorizon (now : Nat) (p : PlanRec) : Option Nat :=
  match p.sub with
  | .waiting => some (p.len * 60)
  | .active => some (p.plannedEnd.getD now - now)
  | .waking => some (p.plannedEnd.getD now - now)
  | .due => none

/-- H (R76). -/
def horizonOf (d : Device) : Nat :=
  let hs := (planRecords d).filterMap (planHorizon d.clock.sec)
  min Config.horizonCap (if hs.isEmpty then d.settings.horizon * 3600 else hs.foldl max 0)

/-- The reserve of one plan (R77). -/
def planReserve (c : Currents) (p : PlanRec) : Nat :=
  if p.preheat.isSome ∧ (p.sub = .waiting ∨ p.sub = .active) then
    ceilDiv (c.rHeat * p.lead * 60 + c.rGlow * Config.glowOnTime) 100
  else 0

/-- W (R77). -/
def reserveOf (d : Device) : Nat :=
  ((planRecords d).map (planReserve d.settings.currents)).foldl (· + ·) 0

/-- Tmin (R78). -/
def timeToFloor (u p : Nat) : Nat :=
  if u = 0 then 0
  else if p = 0 then Config.minutesCap
  else min Config.minutesCap (u * 100 / (p * 60))

/-- The range in which U, D and M are held (R78). -/
def hold32 (x : Int) : Int := clampInt (-2147483648) 2147483647 x

/-- A computation at given modes and cap, with one more lane counted as engaged in a test (R73 to R78). -/
def project (d : Device) (modes : PerLane LaneMode) (cap : Nat) (extra : Option Lane) : Projection :=
  let u := min (usableCharge d) 2147483647
  let p := d.settings.currents.quiescent + lampTerm d cap + laneTerm d modes extra .heat +
    laneTerm d modes extra .cool + laneTerm d modes extra .aux
  let h := horizonOf d
  let w := reserveOf d
  let need : Int := hold32 ((ceilDiv (p * h) 100 + w : Nat) : Int)
  ⟨u, p, h, w, need, hold32 ((u : Int) - need), timeToFloor u p⟩

/-- A computation at a position of the ladder. -/
def projectAt (d : Device) (pos : Nat) (extra : Option Lane) : Projection :=
  project d (modesAt d.budget.ladder pos) (capAt d.budget.ladder pos) extra

/-! ## Regimes (R65 to R69) -/

def setBudget (f : Budget → Budget) (d : Device) : Device := { d with budget := f d.budget }

/-- The regime of a recomputation; `none` stands for the projection modes (R65). -/
def regimeOf (d : Device) : Option BudgetMode :=
  match d.bank.vstate with
  | .cutoff => some .cutoff
  | .low => some .lowVoltage
  | _ => if d.vehicle.running then some .charging else none

/-- Each lane in turn. The order HEAT, COOL, AUX, in which causes are raised and cleared, is the model's (DESIGN CHOICE,
log entry 44). -/
def onLanes (f : Lane → Device → Device) (d : Device) : Device := f .aux (f .cool (f .heat d))

/-- BUDGET stands on the function of each lane whose mode is OFF, and on no other lane function (R72). -/
def syncBudgetCause (modes : PerLane LaneMode) (d : Device) : Device :=
  onLanes (fun l => setCause (laneFn l) (causeBudget (modes.get l == .off))) d

/-- Entry to CUTOFF: CUTOFF raised, lanes OFF and cap 10 (handed on by `handOn`), BUDGET cleared, position kept (R66). -/
def enterCutoff (d : Device) : Device :=
  let d := onLanes (fun l => setCause (laneFn l) (causeCutoff true)) d
  let d := onLanes (fun l => setCause (laneFn l) (causeBudget false)) d
  setBudget (fun b => { b with mode := .cutoff }) d

/-- Leaving CUTOFF: the last step, BUDGET on the lanes held OFF, CUTOFF cleared (R67). -/
def leaveCutoff (d : Device) : Device :=
  let last := d.budget.ladder.length
  let d := setBudget (fun b => { b with position := last }) d
  let d := syncBudgetCause (modesAt d.budget.ladder last) d
  onLanes (fun l => setCause (laneFn l) (causeCutoff false)) d

/-- Entry to CHARGING: every BUDGET cause clears (R69); the position is `regimePosition`'s, the modes and the cap are handed on
by `handOn`. -/
def enterCharging (d : Device) : Device := onLanes (fun l => setCause (laneFn l) (causeBudget false)) d

/-- The position that a regime calls for (R68, R69). -/
def regimePosition (g : Option BudgetMode) (pos : Nat) : Nat :=
  match g with
  | some .lowVoltage => max pos Config.roundOne
  | some .charging => 0
  | _ => pos

/-- Step 1 of a recomputation (R79). -/
def takeRegime (g : Option BudgetMode) (d : Device) : Device :=
  match g with
  | some .cutoff => if d.budget.mode = .cutoff then d else enterCutoff d
  | _ =>
    let d := if d.budget.mode = .cutoff then leaveCutoff d else d
    let d := if g = some .charging ∧ d.budget.mode ≠ .charging then enterCharging d else d
    setBudget (fun b => { b with mode := g.getD .nominal, position := regimePosition g b.position }) d

/-! ## Recomputation (R79 to R82) -/

/-- The position that an advance ends with (R80). -/
def advancePosition (d : Device) : Nat → Nat → Nat
  | 0, pos => pos
  | fuel + 1, pos =>
    if (projectAt d pos none).m < 0 ∧ pos < d.budget.ladder.length then
      advancePosition d fuel (pos + 1)
    else pos

/-- The projection mode of a result (R80). -/
def projectionMode (m : Int) (pos : Nat) : BudgetMode :=
  if m < 0 then .short else if pos = 0 then .nominal else .curtailed

def planAtRisk (b : Bool) (r : Record) : Record :=
  match r.params with
  | .plan p => { r with params := .plan { p with atRisk := b && p.preheat.isSome } }
  | _ => r

/-- WAKE_AT_RISK on the plans with a preheat in SHORT, on none in another mode (R81), in ascending slot order (DESIGN
CHOICE, log entry 44). -/
def setAtRisk (d : Device) : Device :=
  (records d).foldl (fun d hr => revise hr.1 (planAtRisk (d.budget.mode == .short)) d) d

/-- Hands on the modes that a recomputation ends with: the scheduler forms the permissions, and HEAT set to OFF stops
the heater (R72, R102, R128). -/
def handModes (modes : PerLane LaneMode) (d : Device) : Device :=
  if d.budget.modes = modes then d
  else
    let heatOff := d.budget.modes.heat != .off && modes.heat == .off
    let d := formPermissions (setBudget (fun b => { b with modes := modes }) d)
    if heatOff then sendStop d else d

/-- Hands on the lamp cap where it changed (R153). -/
def handCap (cap : Nat) (d : Device) : Device :=
  if d.budget.cap = cap then d else applyCap (setBudget (fun b => { b with cap := cap }) d)

/-- Hands on modes, cap and BUDGET causes (R72, R79 step 4). -/
def handOn (d : Device) : Device :=
  if d.budget.mode = .cutoff then handCap cutoffCap (handModes allOff d)
  else
    let modes := modesAt d.budget.ladder d.budget.position
    syncBudgetCause modes (handCap (capAt d.budget.ladder d.budget.position) (handModes modes d))

/-- The projection at the position held, in the regime held (R66, R73). -/
def projectHere (d : Device) : Projection :=
  if d.budget.mode = .cutoff then project d allOff cutoffCap none else projectAt d d.budget.position none

/-- Steps 2 and 3, and the mode of step 4 (R80). -/
def advance (g : Option BudgetMode) (d : Device) : Device :=
  match g with
  | some .lowVoltage =>
    setBudget (fun b => { b with position := advancePosition d b.ladder.length b.position }) d
  | none =>
    let pos := advancePosition d d.budget.ladder.length d.budget.position
    let m := (projectAt d pos none).m
    setBudget (fun b => { b with position := pos, mode := projectionMode m pos }) d
  | _ => d

/-- Stores the projection and the Tmin side (R79 step 5, R82). -/
def storeProjection (p : Projection) (d : Device) : Device :=
  setBudget (fun b => { b with proj := p, tminBelow := p.tmin < 60 }) d

/-- A recomputation without the notice test of R82. -/
def recomputeCore (d : Device) : Device :=
  let g := regimeOf d
  let d := advance g (takeRegime g d)
  let p := projectHere d
  storeProjection p (handOn (setAtRisk d))

/-- What R82 compares. -/
def budgetView (d : Device) : BudgetMode × Nat × Nat × Bool :=
  (d.budget.mode, d.budget.position, d.budget.cap, d.budget.tminBelow)

/-- BUDGET is set once where the work leaves mode, position, cap or Tmin side changed (R82, R85). -/
def withBudgetNotice (f : Device → Device) (d : Device) : Device :=
  let d' := f d
  if budgetView d' = budgetView d then d' else raiseFlag budgetFlag d'

/-- A recomputation (R79). -/
def recompute (d : Device) : Device := withBudgetNotice recomputeCore d

/-- A cause change by a block other than the budget unit, with the recomputation that its suspensions and resumptions
trigger (R12, R79): one, after all records of the function, and also where a SUSPENDED record changes its reason alone
(DESIGN CHOICE, log entry 45). -/
def setCauseAndRecompute (fn : Fn) (f : CauseSet → CauseSet) (d : Device) : Device :=
  let d' := setCause fn f d
  if d'.table.slots = d.table.slots then d' else recompute d'

/-- Rebuilds the ladder; the position is kept as a count of steps (R71). -/
def rebuildLadder (d : Device) : Device :=
  let ladder := buildLadder d.settings.shedOrder d.settings.protectedSet
  setBudget (fun b => { b with ladder := ladder, position := min b.position ladder.length }) d

/-! ## Admission (R10, R83, R84) -/

/-- The outcome of an admission. -/
inductive Admission where
  | granted
  | deferred (why : Reason)
deriving DecidableEq, Repr

/-- A test computation at the modes and cap in force with a lane counted as engaged (R73). -/
def testMargin (d : Device) (l : Lane) : Int :=
  (project d d.budget.modes d.budget.cap (some l)).m

/-- The table of R83. -/
def decide83 (d : Device) (h : Handle) (l : Lane) (c : Class) : Admission :=
  if engaged d l (some h) then .granted
  else
    match c, d.budget.mode with
    | .leisure, .charging => .granted
    | .leisure, .lowVoltage => .deferred .lowVoltage
    | .leisure, .cutoff => .deferred .lowVoltage
    | .leisure, _ => if testMargin d l ≥ 0 then .granted else .deferred .noMargin
    | _, _ => .granted

def grantAs (why : Reason) (causes : CauseSet) (r : Record) : Record :=
  mapRecord causes { r with state := .granted, reason := why, deadline := none }

/-- A record becomes GRANTED and at once meets the map; it leaves the deferral queue (R9, R10, R12). -/
def grant (h : Handle) (why : Reason) (d : Device) : Device :=
  match lookup d h with
  | some r => pushValue r.fn (revise h (grantAs why (causesOf d.table.causes r.fn)) (leaveQueue h d))
  | none => d

/-- A record becomes DEFERRED; its deadline is set as it joins the queue (R10). -/
def defer (h : Handle) (why : Reason) (d : Device) : Device :=
  match lookup d h with
  | some r =>
    let deadline := if d.table.queue.contains h then r.deadline else some (d.clock.sec + 60 * r.limit)
    joinQueue h (revise h (fun r => { r with state := .deferred, reason := why, deadline := deadline }) d)
  | none => d

/-- A lane record is handed to admission; a grant is a recomputation trigger (R10, R83). -/
def admission (h : Handle) (l : Lane) (c : Class) (d : Device) : Device :=
  match decide83 d h l c with
  | .granted => recompute (grant h .admitted d)
  | .deferred why => defer h why d

/-- A record starts: a lane record goes to admission, another is GRANTED IMMEDIATE (R9, R11). -/
def startRecord (h : Handle) (d : Device) : Device :=
  match lookup d h with
  | some r =>
    match fnLane r.fn with
    | some l => admission h l r.cls d
    | none => grant h .immediate d
  | none => d

/-! ## The frame boundary (R85 to R87) -/

def isProjectionMode : BudgetMode → Bool
  | .nominal | .curtailed | .short => true
  | _ => false

/-- Step 2: at most one step is given back (R86). -/
def restore (d : Device) : Device :=
  let least := if d.budget.mode = .lowVoltage then Config.roundOne else 0
  let pos := d.budget.position
  if (isProjectionMode d.budget.mode || d.budget.mode == .lowVoltage) && decide (pos > least) &&
      decide ((projectAt d (pos - 1) none).m ≥ (d.settings.restoreMargin : Int)) then
    recomputeCore (setBudget (fun b => { b with position := pos - 1 }) d)
  else d

/-- Step 3: the admission pass over the queue as it stood (R24, R87). -/
def admissionPass : List Handle → Device → Device
  | [], d => d
  | h :: hs, d =>
    match lookup d h with
    | some r =>
      match fnLane r.fn with
      | some l =>
        if r.state ≠ .deferred then admissionPass hs d
        else if d.budget.mode = .charging ∨
            (isProjectionMode d.budget.mode ∧ testMargin d l ≥ (d.settings.restoreMargin : Int)) then
          admissionPass hs (recomputeCore (grant h .admitted d))
        else d
      | none => admissionPass hs d
    | none => admissionPass hs d

/-- The unit's work at a frame boundary (R85). -/
def frameWork (d : Device) : Device :=
  withBudgetNotice (fun d =>
    let d := restore (recomputeCore d)
    admissionPass d.table.queue d) d

end Sys2Proof.Machine
end

