-- ==== Sys2Proof/Machine/Plans.lean ====
section
/-! DEFINITION. Retirement of records (R14 to R17), the INTERNAL heat record (R26), and the rest plan unit
(chapter 10): binding, the entries of the sub-states, the wake ramp, the call, amendment and the end of a plan. -/

namespace Sys2Proof.Machine
open Sys2Proof

/-! ## Leaving the table (R14) -/

/-- How a retirement reaches the owner's pending-notice set (R13, R42): as a retired entry, as the owner's own request,
or not at all (RESTART). -/
inductive Report where
  | entered
  | own
  | silent
deriving DecidableEq, Repr

/-- Puts a retirement into a station's set. -/
def reportRetired (st : Option Station) (h : Handle) (fn : Fn) (why : RetireReason) (how : Report) (d : Device) : Device :=
  match st, how with
  | some st, .entered => updateStation st (retireEntry h fn why) d
  | some st, .own => updateStation st (dropEntry h) d
  | _, _ => d

/-- A record leaves the table: the slot is freed, the queue loses it, the value is formed anew, and the set of the
station named is told (R14). -/
def dropRecord (h : Handle) (st : Option Station) (why : RetireReason) (how : Report) (d : Device) : Device :=
  match lookup d h with
  | some r => pushValue r.fn (reportRetired st h r.fn why how (leaveQueue h (freeSlot h.slot d)))
  | none => d

/-! ## Reading a plan -/

def setUnit (dr : Driver) (f : PlanUnit → PlanUnit) (d : Device) : Device :=
  { d with plans := d.plans.set (f (d.plans.get dr)) dr }

def setAccount (dr : Driver) (f : Account → Account) (d : Device) : Device :=
  { d with accounts := d.accounts.set (f (d.accounts.get dr)) dr }

def planOf (r : Record) : Option PlanRec :=
  match r.params with
  | .plan p => some p
  | _ => none

/-- The driver's live plan. -/
def livePlan (d : Device) (dr : Driver) : Option (Handle × Record × PlanRec) :=
  match (d.plans.get dr).plan with
  | some h =>
    match lookup d h with
    | some r => (planOf r).map fun p => (h, r, p)
    | none => none
  | none => none

def onPlan (f : PlanRec → PlanRec) (r : Record) : Record :=
  match r.params with
  | .plan p => { r with params := .plan (f p) }
  | _ => r

/-- The cab clock has reached end − lead × 60 (R180). -/
def leadReached (now : Nat) (p : PlanRec) : Bool :=
  match p.plannedEnd with
  | some e => decide (e ≤ now + p.lead * 60)
  | none => false

/-- The cab clock has reached the planned end (R180). -/
def endReached (now : Nat) (p : PlanRec) : Bool :=
  match p.plannedEnd with
  | some e => decide (e ≤ now)
  | none => false

/-- The sub-state that the instants call for (R178). -/
def calledSub (now : Nat) (p : PlanRec) : SubState :=
  if endReached now p then .due else if leadReached now p then .waking else .active

/-! ## The INTERNAL heat record (R26, R181) -/

def internalRecord (ph : Handle) (setpoint : Int) (seq limit : Nat) : Record where
  kind := .heatHold
  fn := .heater
  owner := .internal
  cls := .essential
  state := .scheduled
  reason := .awaitStart
  seq := seq
  start := none
  endAt := none
  limit := limit
  deadline := none
  params := .heat setpoint (some ph)

def setInternal (h : Option Handle) (p : PlanRec) : PlanRec := { p with internal := h }

/-- Writes the INTERNAL handle into the plan record; R13 names no mark for it. -/
def storeInternal (ph : Handle) (h : Option Handle) (d : Device) : Device :=
  match lookup d ph with
  | some r => putRecord ph (onPlan (setInternal h) r) d
  | none => d

/-- The INTERNAL record is created and admitted, or amended where it exists (R26). -/
def preheat (dr : Driver) (ph : Handle) (setpoint : Int) (d : Device) : Device :=
  let i := internalSlot dr
  match d.table.slots[i]? with
  | some s =>
    let h : Handle := ⟨i, s.gen⟩
    match s.rcd with
    | none =>
      let d := takeSequence d
      let d := putRecord h (internalRecord ph setpoint d.table.counter d.settings.deferralLimit) d
      admission h .heat .essential (storeInternal ph (some h) d)
    | some _ =>
      let d := takeSequence d
      let n := d.table.counter
      let d := revise h (fun r => { r with seq := n, params := .heat setpoint (some ph) }) d
      recompute (pushValue .heater d)
  | none => d

/-! ## The wake ramp (R182) -/

/-- The ramp that a plan calls for at a second: HELD in DUE or with a lead of 0, RISING otherwise. -/
def rampFor (now : Nat) (p : PlanRec) (w : WakeLight) : Ramp :=
  if p.sub = .due ∨ p.lead = 0 then .held w.level
  else
    let since : Int := (now : Int) + ((p.lead * 60 : Nat) : Int) - ((p.plannedEnd.getD now : Nat) : Int)
    .rising (min w.level (((w.level : Int) * since / ((p.lead * 60 : Nat) : Int)).toNat))

def rampLevelOf : Ramp → Nat
  | .none => 0
  | .rising n => n
  | .held n => n

/-- Hands the ramp level of the present second (R182). -/
def handRamp (dr : Driver) (p : PlanRec) (w : WakeLight) (d : Device) : Device :=
  let r := rampFor d.clock.sec p w
  rampLevel dr (rampLevelOf r) (setUnit dr (fun u => { u with ramp := r }) d)

/-- A ramp start with level 0, then the level of the present second (R182). -/
def beginRamp (dr : Driver) (p : PlanRec) (w : WakeLight) (d : Device) : Device :=
  handRamp dr p w (rampStart dr w.channels 0 d)

/-- A running ramp ends (R182, R186). -/
def endRamp (dr : Driver) (d : Device) : Device :=
  if (d.plans.get dr).ramp = .none then d
  else rampEnd dr (setUnit dr (fun u => { u with ramp := .none }) d)

/-! ## The call (R174, R183) -/

/-- A bunk sounding of 3 s, which run from the start of the onset second (R174; DESIGN CHOICE, log entry 79). -/
def soundBunk (dr : Driver) (d : Device) : Device :=
  setAccount dr (fun a => { a with
    lastOnset := some d.clock.sec
    bunkUntil := some (d.clock.sec + Config.bunkSounding) }) d

def stopBunk (dr : Driver) (d : Device) : Device :=
  setAccount dr (fun a => { a with bunkUntil := none }) d

/-- An onset of the call; the next follows 30 s after it (R183). -/
def callOnset (dr : Driver) (d : Device) : Device :=
  soundBunk dr (setUnit dr (fun u => { u with nextCall := d.clock.sec + Config.bunkRepeat }) d)

def beginCall (dr : Driver) (d : Device) : Device :=
  callOnset dr (setUnit dr (fun u => { u with call := .calling }) d)

/-- A call that sounds falls silent (R183). -/
def silenceCall (dr : Driver) (d : Device) : Device :=
  if (d.plans.get dr).call = .calling then
    stopBunk dr (setUnit dr (fun u => { u with call := .silent }) d)
  else d

/-! ## Entries of the sub-states (R180) -/

def setSub (s : SubState) (p : PlanRec) : PlanRec := { p with sub := s }

/-- A change of sub-state: marked, and a recomputation trigger (R13, R79). -/
def enterSub (h : Handle) (s : SubState) (d : Device) : Device :=
  recompute (revise h (onPlan (setSub s)) d)

/-- Entry to WAKING (R180). -/
def enterWaking (dr : Driver) (d : Device) : Device :=
  match livePlan d dr with
  | some (h, _, p) =>
    let d := enterSub h .waking d
    let d := match p.preheat with
      | some t => preheat dr h t d
      | none => d
    match p.light with
    | some w => beginRamp dr (setSub .waking p) w d
    | none => d
  | none => d

/-- Entry to DUE (R180). -/
def enterDue (dr : Driver) (d : Device) : Device :=
  match livePlan d dr with
  | some (h, _, p) =>
    let d := enterSub h .due d
    let d := match p.light with
      | some w => handRamp dr (setSub .due p) w d
      | none => d
    let d := setUnit dr (fun u => { u with dueTimer := 0 }) d
    if p.buzzer then beginCall dr d else d
  | none => d

/-- Moves a plan forward to a later sub-state with the entry of each one passed (R178, R185). -/
def moveForward (dr : Driver) (present called : SubState) (d : Device) : Device :=
  match called, present with
  | .waking, .waiting | .waking, .active => enterWaking dr d
  | .due, .waiting | .due, .active => enterDue dr (enterWaking dr d)
  | .due, .waking => enterDue dr d
  | _, _ => d

/-! ## Binding (R178, R179) -/

def setEnd (e : Nat) (p : PlanRec) : PlanRec := { p with plannedEnd := some e }

/-- Binds the driver's plan to a rest (R178, R179). -/
def bindPlan (dr : Driver) (restStart : Option Nat) (d : Device) : Device :=
  match livePlan d dr with
  | some (h, _, p) =>
    let b := restStart.getD d.clock.sec
    let d := setUnit dr (fun u => { u with binding := some b }) d
    let p := setEnd (b + p.len * 60) p
    let d := revise h (onPlan (setEnd (b + p.len * 60))) d
    match calledSub d.clock.sec p with
    | .active => enterSub h .active d
    | s => moveForward dr .waiting s d
  | none => d

/-- The table hands over a plan that it has created (R178). -/
def takePlan (dr : Driver) (h : Handle) (d : Device) : Device :=
  let d := setUnit dr (fun _ => { PlanUnit.empty with plan := some h }) d
  let a := d.accounts.get dr
  recompute (if a.effective = .rest then bindPlan dr a.restStart d else d)

/-! ## The end of a plan (R186) -/

/-- The unit's work when the table reports the retirement of a plan; `st` is the plan's owner. -/
def endPlan (dr : Driver) (st : Option Station) (how : Report) (d : Device) : Device :=
  let d := if (d.plans.get dr).call = .calling then stopBunk dr d else d
  let d := endRamp dr d
  let i := internalSlot dr
  let d := match d.table.slots[i]? with
    | some s =>
      if s.rcd.isSome then
        let d := dropRecord ⟨i, s.gen⟩ st .planEnded (if how = .silent then .silent else .entered) d
        if how = .silent then d else recompute d
      else d
    | none => d
  setUnit dr (fun _ => PlanUnit.empty) d

/-- The driver whose plan a function is. -/
def restDriver : Fn → Option Driver
  | .rest dr => some dr
  | _ => none

/-- While a plan is being retired its INTERNAL record's changes still go to its owner `st` (R13, R26). -/
def departing (h : Handle) (st : Option Station) (f : Device → Device) (d : Device) : Device :=
  let d := f { d with table := { d.table with leaving := st.map fun s => (h, s) } }
  { d with table := { d.table with leaving := none } }

/-- A retirement with all that follows from it: the recomputation it triggers, and for a plan the plan unit's work
(R14, R79, R186), in this order (DESIGN CHOICE, log entry 50). An INTERNAL record's marks and
its entry go to the owner of its plan. -/
def retireRecord (h : Handle) (why : RetireReason) (how : Report) (d : Device) : Device :=
  match lookup d h with
  | some r =>
    let st := noticeStation d r
    match restDriver r.fn with
    | some dr => departing h st (fun d => endPlan dr st how (recompute (dropRecord h st why how d))) d
    | none => recompute (dropRecord h st why how d)
  | none => d

/-- Retires the driver's plan, if one is live (R183, R184). -/
def retirePlan (dr : Driver) (why : RetireReason) (d : Device) : Device :=
  match livePlan d dr with
  | some (h, _, _) => retireRecord h why .entered d
  | none => d

/-! ## Handovers of the rest accounts unit (R179, R184) -/

/-- A handover of the effective activity `new`, which follows `old` (R166). -/
def handPlan (dr : Driver) (old new : Activity) (d : Device) : Device :=
  match livePlan d dr with
  | some (_, _, p) =>
    if p.sub = .waiting then
      if new = .rest then bindPlan dr (d.accounts.get dr).restStart d else d
    else if old = .rest ∧ new ≠ .rest ∧ new ≠ .unknown then
      retirePlan dr (if p.sub = .active then .interrupted else .ended) d
    else d
  | none => d

/-! ## Amendment (R181 to R183, R185) -/

/-- The rest length or the lead has changed (R185). An AMEND that gives each the value it has, clamped, changes neither
(DESIGN CHOICE, log entry 71). -/
def timesChanged (old p : PlanRec) : Bool := p.len != old.len || p.lead != old.lead

/-- The amended plan with the end that it is to have: on a change of length or lead a bound plan's end follows the length
from the binding rest start `b`; any other plan keeps its end (R185). -/
def retimed (b : Option Nat) (old p : PlanRec) : PlanRec :=
  match b with
  | some b => if timesChanged old p then setEnd (b + p.len * 60) p else p
  | none => p

/-- The move forward of a bound plan on a change of length or lead; on any other amendment R180's instants alone move it,
so that one which has come and has not been taken waits for the clock (R185). -/
def amendedForward (dr : Driver) (old p : PlanRec) (d : Device) : Device :=
  if old.sub = .waiting ∨ timesChanged old p = false then d else moveForward dr old.sub (calledSub d.clock.sec p) d

/-- The unit takes an amended plan: `old` is the plan before it. The wake light, preheat and buzzer act in WAKING and
DUE; a change of length or lead moves a bound plan's end and the plan forward. A wake light given the values
it has is not amended (R182; DESIGN CHOICE, log entry 71), and the effects follow one another in the order in which they
stand here (DESIGN CHOICE, log entry 72). -/
def planAmended (dr : Driver) (h : Handle) (old : PlanRec) (d : Device) : Device :=
  match lookup d h with
  | some r =>
    match planOf r with
    | some given =>
      let woken := decide (old.sub = .waking) || decide (old.sub = .due)
      -- the new end of a bound plan
      let p := retimed (d.plans.get dr).binding old given
      let d := recompute (revise h (onPlan fun q => { q with plannedEnd := p.plannedEnd }) d)
      -- the preheat of a plan already woken
      let d := match p.preheat with
        | some t => if woken && p.preheat != old.preheat then preheat dr h t d else d
        | none => d
      -- its wake light
      let d := if woken && p.light != old.light then
          match p.light with
          | some w => beginRamp dr p w (endRamp dr d)
          | none => endRamp dr d
        else d
      -- its buzzer
      let d := if old.sub = .due ∧ p.buzzer ≠ old.buzzer then
          if p.buzzer then (if (d.plans.get dr).call = .none then beginCall dr d else d)
          else silenceCall dr d
        else d
      amendedForward dr old p d
    | none => d
  | none => d

/-- An acknowledgement handed to the plan unit (R175, R183). -/
def planAcknowledged (dr : Driver) (d : Device) : Device := silenceCall dr d

end Sys2Proof.Machine
end

