-- ==== Sys2Proof/Machine/Accounts.lean ====
section
/-! DEFINITION. The rest accounts unit (chapter 9): reports and settling, accrual and completion, changes of activity,
warnings, acknowledgement and the dash alarm. Where both drivers are served in one event, driver 1 is served first
(log entry 7). -/

namespace Sys2Proof.Machine
open Sys2Proof

/-! ## Warning levels (R160, R169) -/

/-- The rank of the warning level: 0 for NONE, 6 for DAILY_DUE. -/
def levelRank (w : Warnings) : Nat :=
  if w.dailyDue then 6 else if w.driveDue then 5 else if w.dailyPre then 4
  else if w.drivePre then 3 else if w.restInterrupted then 2 else if w.restDone then 1 else 0

/-- The rank of the dash alarm's level, 0 where the driver has none (R172). -/
def alarmRank (a : Account) : Nat :=
  if a.ack = .unacknowledged ∧ levelRank a.warnings ≥ 3 then levelRank a.warnings else 0

/-! ## The dash alarm (R172, R173) -/

/-- A sounding onset on the dash buzzer. -/
def dashOnset (now : Nat) (a : Account) : Account :=
  { a with sounding := true, lastOnset := some now, lastDash := some now }

/-- What the forming of the subjects makes of one driver. -/
def formSubject (now top : Nat) (raised : Bool) (a : Account) : Account :=
  if alarmRank a > 0 ∧ alarmRank a = top then
    if a.subject && !raised then a else dashOnset now { a with subject := true }
  else if a.subject then { a with subject := false, sounding := false }
  else a

/-- Forms the subjects; `raised` names the driver for whom the event was a raise (R172). -/
def formSubjects (raised : Option Driver) (d : Device) : Device :=
  let top := max (alarmRank d.accounts.one) (alarmRank d.accounts.two)
  { d with accounts := ⟨formSubject d.clock.sec top (raised == some .one) d.accounts.one,
      formSubject d.clock.sec top (raised == some .two) d.accounts.two⟩ }

/-! ## Raises and ends (R169 to R172) -/

def Warnings.toList (w : Warnings) : List Bool :=
  [w.restDone, w.restInterrupted, w.drivePre, w.dailyPre, w.driveDue, w.dailyDue]

/-- Some warning of `new` was not active in `old`. -/
def anyRaised (old new : Warnings) : Bool :=
  (old.toList.zip new.toList).any fun p => p.2 && !p.1

/-- The acknowledgement state after a change of the warnings (R171). -/
def ackAfter (old new : Warnings) (a : AckState) : AckState :=
  if anyRaised old new then .unacknowledged
  else if levelRank new = 0 then .none
  else a

/-- The unit acts on a change of a driver's warnings: acknowledgement state, dash alarm, notice flag (R169 to R172). All that
one evaluation raises and ends is taken as one change (DESIGN CHOICE, log entry 48). -/
def applyWarnings (dr : Driver) (new : Warnings) (d : Device) : Device :=
  let a := d.accounts.get dr
  if new = a.warnings then d
  else
    let raised := if anyRaised a.warnings new then some dr else none
    let d := setAccount dr (fun a => { a with warnings := new, ack := ackAfter a.warnings new a.ack }) d
    raiseFlag (warningFlag dr) (formSubjects raised d)

/-- The warnings that the counters call for; REST_INTERRUPTED follows changes of activity alone (R169). -/
def warningsOf (p : RestParams) (a : Account) : Warnings where
  restDone := decide (a.rl ≥ p.rd * 60)
  restInterrupted := a.warnings.restInterrupted
  drivePre := decide (a.cd ≥ (p.ld - p.lead) * 60)
  dailyPre := decide (a.dd ≥ (p.dd - p.lead) * 60)
  driveDue := decide (a.cd ≥ p.ld * 60)
  dailyDue := decide (a.dd ≥ p.dd * 60)

/-- Evaluates a driver's warnings (R169). -/
def evaluate (dr : Driver) (d : Device) : Device :=
  applyWarnings dr (warningsOf d.settings.rest (d.accounts.get dr)) d

def evaluateBoth (d : Device) : Device := evaluate .two (evaluate .one d)

/-! ## Accrual (R165, R167) -/

/-- One second added by the effective activity (R165). -/
def accrueSecond (a : Account) : Account :=
  let up := bump Config.counterCap
  match a.effective with
  | .driving => { a with cd := up a.cd, dd := up a.dd }
  | .available => { a with bl := up a.bl }
  | .rest => { a with bl := up a.bl, rl := up a.rl }
  | .work => a
  | .unknown => a

/-- The break check (R167). -/
def breakCheck (p : RestParams) (a : Account) : Account :=
  if a.bl ≥ p.b * 60 ∨ (a.partOne ∧ a.bl ≥ p.b2 * 60) then
    { a with cd := 0, partOne := false, breakDone := true }
  else a

/-- The daily rest check (R167). -/
def restCheck (p : RestParams) (a : Account) : Account :=
  if a.rl ≥ p.rr * 60 then { a with cd := 0, dd := 0, partOne := false, incomplete := false } else a

/-- The additions and the completion checks of a known activity (R165, R167). -/
def accrueAccount (p : RestParams) (a : Account) : Account :=
  restCheck p (breakCheck p (accrueSecond a))

/-- The accrual of one driver (R165, R167, R169). Under UNKNOWN no counter moves and no warning changes by it (R163), and the
completion checks are not made (R167; DESIGN CHOICE, log entry 70). -/
def accrue (dr : Driver) (d : Device) : Device :=
  if (d.accounts.get dr).effective = .unknown then d
  else evaluate dr (setAccount dr (accrueAccount d.settings.rest) d)

/-- The settle timer and the unknown timer at the end of a second (R162, R164). A candidate that settles at the end of the
second at which the unknown timer reaches 601 is taken first (DESIGN CHOICE, log entry 49). -/
def advanceTimers (settle : Nat) (a : Account) : Account :=
  let a := if a.candidate.isSome then
      { a with settleTimer := a.settleTimer + 1, settled := decide (a.settleTimer + 1 ≥ settle) }
    else a
  if a.effective = .unknown then { a with unknownTimer := bump Config.unknownLimit a.unknownTimer } else a

/-! ## Changes of activity (R162, R163, R166) -/

def isBreak : Activity → Bool
  | .available | .rest => true
  | _ => false

def isWork : Activity → Bool
  | .work | .driving => true
  | _ => false

/-- Steps 1 to 3 of R166, but for the warnings, and the new effective activity; the candidate is done with, and without one
the settle timer is 0 (R162; DESIGN CHOICE, log entry 76). -/
def takeActivity (p : RestParams) (now : Nat) (old new : Activity) (a : Account) : Account :=
  let a := if isBreak old && isWork new then
      { a with partOne := a.partOne || (!a.breakDone && decide (a.bl ≥ p.b1 * 60)), bl := 0, breakDone := false }
    else a
  let a := if old = .rest ∧ new ≠ .rest then { a with rl := 0 } else a
  let a := if new = .rest then { a with restStart := some now } else a
  { a with effective := new, candidate := none, settleTimer := 0, settled := false, unknownTimer := 0 }

/-- REST_INTERRUPTED after steps 2 and 3 of R166. -/
def interruptedAfter (p : RestParams) (old new : Activity) (a : Account) : Bool :=
  if new = .rest then false
  else if old = .rest ∧ a.rl < p.rr * 60 then true
  else a.warnings.restInterrupted

/-- A change from one known activity to another (R166). -/
def changeActivity (dr : Driver) (old new : Activity) (d : Device) : Device :=
  let p := d.settings.rest
  let a := d.accounts.get dr
  let w := { a.warnings with restInterrupted := interruptedAfter p old new a }
  let d := setAccount dr (takeActivity p d.clock.sec old new) d
  handPlan dr old new (evaluate dr (applyWarnings dr w d))

/-- An activity becomes effective without a change of R166 (R163). The candidate, where there is one, is discarded, and the
settle timer is 0 (DESIGN CHOICE, log entry 76). -/
def resumeActivity (new : Activity) (a : Account) : Account :=
  { a with effective := new, candidate := none, settleTimer := 0, settled := false, unknownTimer := 0 }

/-- A report of UNKNOWN discards the candidate (R162, R163), and the settle timer is 0 (DESIGN CHOICE, log entry 76). -/
def loseActivity (a : Account) : Account :=
  let a := { a with candidate := none, settleTimer := 0, settled := false }
  if a.effective = .unknown then a
  else { a with lastKnown := some a.effective, effective := .unknown, unknownTimer := 0 }

/-- A report that differs settles, or is taken at once with a settle time of 0 (R162). -/
def offerCandidate (dr : Driver) (old new : Activity) (d : Device) : Device :=
  if d.settings.rest.settle = 0 then changeActivity dr old new d
  else if (d.accounts.get dr).candidate = some new then d
  else setAccount dr (fun a => { a with candidate := some new, settleTimer := 0, settled := false }) d

/-- A reported activity, at its arrival (R161 to R163). -/
def report (dr : Driver) (act : Activity) (d : Device) : Device :=
  let d := setAccount dr (fun a => { a with reported := act }) d
  let a := d.accounts.get dr
  if act = .unknown then
    -- a change into UNKNOWN is handed to the plan unit, which holds (R166, R184)
    handPlan dr a.effective .unknown (setAccount dr loseActivity d)
  else if a.effective = .unknown then
    match a.lastKnown with
    | none => handPlan dr act act (setAccount dr (resumeActivity act) d)
    | some k =>
      if act = k then handPlan dr act act (setAccount dr (resumeActivity act) d)
      else offerCandidate dr k act d
  else if act = a.effective then
    setAccount dr (fun a => { a with candidate := none, settleTimer := 0, settled := false }) d
  else offerCandidate dr a.effective act d

/-- A candidate that has settled becomes effective (R162, R163). -/
def settle (dr : Driver) (d : Device) : Device :=
  let a := d.accounts.get dr
  match a.settled, a.candidate with
  | true, some new =>
    let old := if a.effective = .unknown then a.lastKnown.getD .unknown else a.effective
    changeActivity dr old new d
  | _, _ => d

/-! ## Acknowledgement (R175) -/

/-- The driver's last onset lies in the present second or the one before it. -/
def tooEarly (now : Nat) (a : Account) : Bool :=
  match a.lastOnset with
  | some t => decide (now ≤ t + 1)
  | none => false

/-- An acknowledgement that is not too early (R175 steps 3 and 4). -/
def acknowledge (dr : Driver) (d : Device) : Device :=
  let a := d.accounts.get dr
  let d := if levelRank a.warnings > 0 ∧ a.ack = .unacknowledged then
      let d := setAccount dr (fun a => { a with ack := .acknowledged }) d
      raiseFlag (warningFlag dr) (formSubjects none d)
    else d
  planAcknowledged dr d

end Sys2Proof.Machine
end

