-- ==== Sys2Proof/Machine/Codes.lean ====
section
/-! DEFINITION. The codes of every enumerated field (R199, R200) and the bodies of answers and notices (R195, R198). -/

namespace Sys2Proof.Machine
open Sys2Proof

/-! ## Code tables (R200) -/

def kindCode : Kind → Nat
  | .heatHold => 0 | .coolHold => 1 | .lamp => 2 | .auxOn => 3 | .restPlan => 4

def kindOfCode (b : Byte) : Option Kind :=
  match b.toNat with
  | 0 => some .heatHold | 1 => some .coolHold | 2 => some .lamp | 3 => some .auxOn | 4 => some .restPlan
  | _ => none

def stateCode : RecState → Nat
  | .scheduled => 0 | .deferred => 1 | .granted => 2 | .suspended => 3

def classCode : Class → Nat
  | .essential => 0 | .comfort => 1 | .leisure => 2

def classOfCode (b : Byte) : Option Class :=
  match b.toNat with
  | 0 => some .essential | 1 => some .comfort | 2 => some .leisure
  | _ => none

def subCode : SubState → Nat
  | .waiting => 0 | .active => 1 | .waking => 2 | .due => 3

def voltageCode : VState → Nat
  | .normal => 0 | .low => 1 | .cutoff => 2 | .high => 3

def modeCode : BudgetMode → Nat
  | .nominal => 0 | .curtailed => 1 | .short => 2 | .lowVoltage => 3 | .cutoff => 4 | .charging => 5

def reasonCode : Reason → Nat
  | .awaitStart => 0 | .noMargin => 1 | .lowVoltage => 2 | .immediate => 3 | .admitted => 4 | .resumed => 5
  | .cutoff => 6 | .lockout => 7 | .noGlowSlot => 8 | .channelFault => 9 | .budget => 10

def retireCode : RetireReason → Nat
  | .request => 0 | .ended => 1 | .deferExpired => 2 | .restart => 3 | .interrupted => 4
  | .wakeUnanswered => 5 | .planEnded => 6

def answerCode : AnswerCode → Nat
  | .ok => 0 | .okClamped => 1 | .notMapped => 2 | .noRight => 3 | .badHandle => 4 | .wrongKind => 5
  | .badValue => 6 | .tableFull => 7 | .quota => 8 | .functionFull => 9 | .activeTable => 10 | .peak => 11
  | .busy => 12 | .locked => 13 | .tooEarly => 14 | .unknownRequest => 15

def ackCode : AckState → Nat
  | .none => 0 | .unacknowledged => 1 | .acknowledged => 2

def heaterCode : HeaterState → Nat
  | .off => 0 | .precheck => 1 | .waitGlow => 2 | .preglow => 3 | .ignite => 4 | .run => 5
  | .pause => 6 | .purge => 7 | .lockout => 8

def failureCode : FailureKind → Nat
  | .none => 0 | .noFlame => 1 | .flameLoss => 2 | .overheat => 3 | .purgeHot => 4 | .noGlowSlot => 5

def lockoutCode : LockoutReason → Nat
  | .flameFail => 1 | .overheat => 2 | .purgeHot => 3

def fridgeCode : FridgeState → Nat
  | .off => 0 | .idle => 1 | .guard => 2 | .waiting => 3 | .running => 4

def linkCode : LinkState → Nat
  | .disabled => 0 | .offline => 1 | .online => 2

/-- Activity codes (R199), with 7 for UNKNOWN (R200). -/
def activityCode : Activity → Nat
  | .rest => 0 | .available => 1 | .work => 2 | .driving => 3 | .unknown => 7

/-- A received activity code; NO_CARD and every code not named are taken as UNKNOWN (R161, R188, R199). -/
def activityOfCode (b : Byte) : Activity :=
  match b.toNat with
  | 0 => .rest | 1 => .available | 2 => .work | 3 => .driving
  | _ => .unknown

def tableCode : TableId → Nat
  | .a => 0 | .b => 1

def tableOfCode (b : Byte) : Option TableId :=
  match b.toNat with
  | 0 => some .a | 1 => some .b
  | _ => none

def laneCode : Lane → Nat
  | .heat => 0 | .cool => 2 | .aux => 3

def laneOfCode (b : Byte) : Option Lane :=
  match b.toNat with
  | 0 => some .heat | 2 => some .cool | 3 => some .aux
  | _ => none

def roleCode : LockRole → Nat
  | .none => 0 | .cab => 1 | .fleet => 2

def roleOfCode (b : Byte) : Option LockRole :=
  match b.toNat with
  | 0 => some .none | 1 => some .cab | 2 => some .fleet
  | _ => none

/-! ## Field encodings (R195) -/

def handleBytes (h : Handle) : List Byte := [byte h.slot, byte h.gen]

def optHandleBytes (h : Option Handle) : List Byte :=
  match h with
  | some h => handleBytes h
  | none => [0#8, 0#8]

def handleOfWord (w : Word16) : Handle := ⟨w.toNat / 256, w.toNat % 256⟩

/-- The temperature that a field holds, in half degrees; `none` for its absence code. -/
def tempOfWord (w : Word16) : Option Int := if w = 0x7FFF#16 then none else some w.toInt

def minutesAbsent : Word16 := 0xFFFF#16
def byteAbsent : Byte := 0xFF#8

/-- The minutes that a field holds; `none` for its absence code. -/
def minutesOfWord (w : Word16) : Option Nat := if w = minutesAbsent then none else some w.toNat

/-- Minutes remaining to a second: whole minutes, 0 once it has passed, at most 9,999. -/
def minutesLeft (now t : Nat) : Nat := min Config.minutesCap ((t - now) / 60)

def minutesField (now : Nat) (t : Option Nat) : List Byte :=
  match t with
  | some t => be16 (minutesLeft now t)
  | none => be16 minutesAbsent.toNat

def tempField (t : Option Int) : List Byte :=
  match t with
  | some t => be16i t
  | none => be16 0x7FFF

def laneSetByte (e : LaneSet) : Byte := byte (flagsByte [e.heat, e.glow, e.cool, e.aux])

/-- A lane set as received; a bit that no lane has names no lane (R94, R195). -/
def laneSetOfByte (b : Byte) : Option LaneSet :=
  if b.toNat < 16 then some ⟨b.getLsbD 0, b.getLsbD 1, b.getLsbD 2, b.getLsbD 3⟩ else none

def channelSetByte (s : PerChannel Bool) : Byte :=
  byte (flagsByte [s.c8, s.c9, s.c10, s.c11, s.c12, s.c13])

/-- A channel set as received; bits 6 and 7 are not named and are ignored (R195). -/
def channelSetOfByte (b : Byte) : PerChannel Bool :=
  ⟨b.getLsbD 0, b.getLsbD 1, b.getLsbD 2, b.getLsbD 3, b.getLsbD 4, b.getLsbD 5⟩

def noChannels : PerChannel Bool := ⟨false, false, false, false, false, false⟩

def protectByte (s : PerLane Bool) : Byte := laneSetByte ⟨s.heat, false, s.cool, s.aux⟩

def generalFlags (f : Flags) : Nat :=
  flagsByte [f.resync, f.restarted, f.warning.one, f.warning.two, f.heater, f.budget]

def rightsByte (r : Rights) : Byte :=
  byte (flagsByte [r.lookup, r.changeOwn, r.changeAny, r.retireOwn, r.retireAny])

def rightsOfByte (b : Byte) : Rights :=
  ⟨b.getLsbD 0, b.getLsbD 1, b.getLsbD 2, b.getLsbD 3, b.getLsbD 4⟩

/-! ## The record block (R198) -/

/-- An owner's code: the station's address, 7 for INTERNAL (R198). -/
def ownerCode : Owner → Nat
  | .station st => stationAddress st
  | .internal => 7

/-- The reason for which the heater is in LOCKOUT, 0 in another state (R133). -/
def lockoutShown (d : Device) : Nat :=
  if d.heater.state = .lockout then
    match d.settings.lockout with
    | .none => 0
    | .pending r => lockoutCode r
    | .inForce r => lockoutCode r
  else 0

/-- The kind parameters of a plan (R197, R198). Without a wake light the channel set, which has no absence code, is 0 (DESIGN
CHOICE, log entry 64). -/
def planParams (p : PlanRec) : List Byte :=
  be16 p.len ++ ([byte p.lead] ++ (tempField p.preheat ++
    (match p.light with
      | some w => [channelSetByte w.channels, byte w.level]
      | none => [0#8, byteAbsent]) ++ [flagByte p.buzzer]))

def planFields (now : Nat) (p : PlanRec) : List Byte :=
  [byte (subCode p.sub)] ++ (minutesField now p.plannedEnd ++
    ([flagByte p.atRisk] ++ optHandleBytes p.internal))

def kindParams (now : Nat) : Params → List Byte
  | .heat s none => be16i s
  | .heat s (some ph) => be16i s ++ handleBytes ph
  | .cool t => be16i t
  | .lamp l => [byte l]
  | .aux => []
  | .plan p => planParams p ++ planFields now p

/-- The record block as station `st` sees it; `seq` and `mask` are empty in a notice (R36, R198). -/
def recordBlock (d : Device) (st : Station) (h : Handle) (r : Record) (seq mask : List Byte) : List Byte :=
  handleBytes h ++
  ([byte (localNumber d st r.fn), byte (kindCode r.kind), byte (ownerCode r.owner), byte (classCode r.cls),
    byte (stateCode r.state), byte (reasonCode r.reason)] ++
  (seq ++ (minutesField d.clock.sec r.start ++ (minutesField d.clock.sec r.endAt ++
  ([byte r.limit] ++ (minutesField d.clock.sec r.deadline ++
  ([byte (queuePosition h d.table.queue)] ++ (kindParams d.clock.sec r.params ++ mask))))))))

/-- The record block of an answer. -/
def answerBlock (d : Device) (st : Station) (h : Handle) (mask : Nat) : List Byte :=
  match lookup d h with
  | some r => recordBlock d st h r (be32 r.seq) (be16 mask)
  | none => handleBytes h

/-- The record block of a record notice (R45). -/
def noticeBlock (d : Device) (st : Station) (h : Handle) : List Byte :=
  match lookup d h with
  | some r => recordBlock d st h r [] []
  | none => handleBytes h

end Sys2Proof.Machine
end

