-- ==== Sys2Proof/Machine/Link.lean ====
section
/-! DEFINITION. The cab link port: cycles and polls (R28, R29), the choice of a notice (R44, R45), replies (R30, R31),
a station's enabling (R32), answers (R38, R198) and the STATUS answer (R40). -/

namespace Sys2Proof.Machine
open Sys2Proof

def stationLink (d : Device) (st : Station) : StationLink := d.link.stations.get st

def setLink (f : Link → Link) (d : Device) : Device := { d with link := f d.link }

/-! ## Notices (R44, R45, R198) -/

def warningSet (w : Warnings) : Nat := flagsByte w.toList

def warningNotice (d : Device) (dr : Driver) : List Byte :=
  let a := d.accounts.get dr
  [3#8, byte (driverNumber dr), byte (levelRank a.warnings), byte (warningSet a.warnings), byte (ackCode a.ack)]

/-- The notice chosen for an ONLINE station's poll, and the station's record after the sending (R44). -/
def chooseNotice (d : Device) (st : Station) (p : StationLink) : List Byte × StationLink :=
  let f := p.flags
  if p.link ≠ .online then ([], p)
  else if f.restarted then ([2#8], { p with flags := { f with restarted := false, resync := false } })
  else if f.resync then ([1#8], { p with flags := { f with resync := false } })
  else if f.warning.one then
    (warningNotice d .one, { p with flags := { f with warning := f.warning.set false .one } })
  else if f.warning.two then
    (warningNotice d .two, { p with flags := { f with warning := f.warning.set false .two } })
  else if f.heater then
    ([4#8, byte (heaterCode d.heater.state), byte (failureCode p.failure), byte (lockoutShown d)],
      { p with flags := { f with heater := false }, failure := .none })
  else if f.budget then
    ([5#8, byte (modeCode d.budget.mode), byte d.budget.position, byte d.budget.cap] ++
      be16 d.budget.proj.tmin, { p with flags := { f with budget := false } })
  else
    match p.entries with
    | [] => ([], p)
    | .live h :: es => (6#8 :: noticeBlock d st h, { p with entries := es })
    | .retired h fn r :: es =>
      (7#8 :: (handleBytes h ++ [byte (localNumber d st fn), byte (retireCode r)]), { p with entries := es })

/-! ## Polling (R28, R29) -/

/-- Polls a station: the notice leaves its set or flags, and the reply window opens. -/
def pollStation (st : Station) (d : Device) : Device :=
  let (body, p) := chooseNotice d st (stationLink d st)
  let d := updateStation st (fun _ => p) d
  setLink (fun l => { l with
    pos := stationAddress st + 1
    polled := true
    phase := .awaiting st (!body.isEmpty)
    ticks := 0
    pollFrame := frame false (stationAddress st) 0#8 body
    answerFrame := [] }) d

/-- Visits the stations of a list in order until one is polled; the flag says whether one was (R28). -/
def visit : List Station → Device → Bool × Device
  | [], d => (false, d)
  | st :: rest, d =>
    let p := stationLink d st
    match p.link with
    | .online => (true, pollStation st d)
    | .disabled => visit rest d
    | .offline =>
      if p.skip = 0 then
        (true, pollStation st (updateStation st (fun p => { p with skip := Config.skipReload }) d))
      else visit rest (updateStation st (fun p => { p with skip := p.skip - 1 }) d)

/-- A cycle without a poll is followed by the pause (R28). -/
def enterPause (d : Device) : Device :=
  setLink (fun l => { l with phase := .pausing, ticks := 0, pos := 7 }) d

/-- The next cycle begins at address 1 (R28). -/
def beginCycle (d : Device) : Device :=
  setLink (fun l => { l with phase := .ready, ticks := 0, pos := 1, polled := false }) d

/-- The next poll of the present cycle, or of the one that follows it (R28). -/
def nextPoll (d : Device) : Device :=
  let left := Station.all.filter fun st => d.link.pos ≤ stationAddress st
  match visit left d with
  | (true, d) => d
  | (false, d) =>
    if d.link.polled then
      match visit Station.all (beginCycle d) with
      | (true, d) => d
      | (false, d) => enterPause d
    else enterPause d

/-- The next poll falls due when the port is ready (R29). -/
def sendPoll (d : Device) : Device := if d.link.phase = .ready then nextPoll d else d

/-- The pause ends and the next cycle begins (R28). -/
def endPause (d : Device) : Device := if d.link.phase = .pausing then beginCycle d else d

/-! ## Replies (R30, R31) -/

def ready (d : Device) : Device := setLink (fun l => { l with phase := .ready, ticks := 0 }) d

/-- A good reply (R29, R31). -/
def goodReply (p : StationLink) : StationLink :=
  match p.link with
  | .offline => { p with link := .online, missed := 0, flags := { p.flags with resync := true } }
  | .online => { p with missed := 0 }
  | .disabled => p

/-- The station leaves ONLINE (R30). -/
def goOffline (p : StationLink) : StationLink :=
  { p with link := .offline, entries := [], flags := Flags.none, failure := .none, skip := Config.skipReload }

/-- A missed poll (R30). -/
def missPoll (carried : Bool) (p : StationLink) : StationLink :=
  if p.link = .online then
    let p := { p with
      missed := p.missed + 1
      flags := { p.flags with resync := p.flags.resync || carried } }
    if p.missed ≥ Config.missedLimit then goOffline p else p
  else p

/-- A good reply of type IDLE ends the poll (R29). -/
def takeIdle (d : Device) : Device :=
  match d.link.phase with
  | .awaiting st _ => ready (updateStation st goodReply d)
  | _ => d

/-- A missed poll ends the poll (R30). -/
def takeMiss (d : Device) : Device :=
  match d.link.phase with
  | .awaiting st carried => ready (updateStation st (missPoll carried) d)
  | _ => d

/-- A good reply of a request type: the request is served for the polled station (R29, R31). Nothing happens outside a
reply window (R27). -/
def serve (f : Station → Device → Device) (d : Device) : Device :=
  match d.link.phase with
  | .awaiting st _ =>
    f st (setLink (fun l => { l with phase := .serving st, ticks := 0 }) (updateStation st goodReply d))
  | _ => d

/-! ## Answers (R38, R196, R198) -/

/-- The answer frame of a request (R196, R198). -/
def answerOf (st : Station) (type : Byte) (code : AnswerCode) (body : List Byte) : List Byte :=
  frame false (stationAddress st) (answerType type) (byte (answerCode code) :: body)

/-- An answer frame is sent, and the poll ends (R29). -/
def answer (st : Station) (type : Byte) (code : AnswerCode) (body : List Byte) (d : Device) : Device :=
  setLink (fun l => { l with
    phase := .ready
    ticks := 0
    answerFrame := answerOf st type code body
    heldAnswer := none }) d

/-- Work of a request, begun in state `old`, stands with the heater sequencer, which waits for the store: it holds a message
of the request. -/
def workStands (old d : Device) : Bool := d.heater.waiting && d.heater.held != old.heater.held

def marksByte (d : Device) : Byte := byte (flagsByte [d.bank.cabMark, d.bank.fleetMark])

/-- What an answer to station `st` carries after its code, read from the state in which it is sent. -/
def specBytes (d : Device) (st : Station) : AnswerSpec → List Byte
  | .bytes l => l
  | .floorAndMarks => be16 d.settings.floor ++ [marksByte d]
  | .protectAndMarks => [protectByte d.settings.protectedSet, marksByte d]
  | .block h mask left => if (lookup d h).isSome then answerBlock d st h mask else left

/-- The answer of a request begun in state `old`. It is sent when its effects have been made in every block it reaches:
while work of it stands with a heater that waits for the store, it is held (R29, R191; log entry 51). -/
def answerAfter (old : Device) (st : Station) (type : Byte) (code : AnswerCode) (spec : AnswerSpec) (d : Device) :
    Device :=
  if workStands old d then
    setLink (fun l => { l with phase := .serving st, heldAnswer := some ⟨st, type, code, spec⟩ }) d
  else answer st type code (specBytes d st spec) d

/-- A held answer is sent once the heater waits for the store no more, with what it carries as it then stands (R8, R29; log
entry 51). -/
def releaseAnswer (d : Device) : Device :=
  match d.link.heldAnswer with
  | some a =>
    if d.heater.waiting then d else answer a.station a.type a.code (specBytes d a.station a.spec) d
  | none => d

/-- A refusal carries only its code (R198). -/
def refuse (st : Station) (type : Byte) (code : AnswerCode) (d : Device) : Device :=
  answer st type code [] d

def okCode (clamped : Bool) : AnswerCode := if clamped then .okClamped else .ok

def trimmedByte (d : Device) : Byte :=
  byte (flagsByte [d.settings.tables.a.trimmed, d.settings.tables.b.trimmed])

def driverStatus (a : Account) : List Byte :=
  [byte (activityCode a.effective), byte (levelRank a.warnings), flagByte a.incomplete]

/-- The parts of a STATUS answer, in the order of R40. -/
def statusBody (d : Device) (st : Station) : List Byte :=
  let p := stationLink d st
  [byte (linkCode p.link), byte p.entries.length, byte (generalFlags p.flags)] ++
  ([byte (voltageCode d.bank.vstate), flagByte d.bank.uncalibrated, marksByte d] ++
  ([byte (modeCode d.budget.mode), byte d.budget.position, byte d.budget.cap] ++
  (be16 d.budget.proj.tmin ++ (be32i d.budget.proj.m ++
  ([byte (heaterCode d.heater.state), byte (lockoutShown d)] ++
  ([byte (fridgeCode d.fridge.state), flagByte d.fridge.fault] ++
  (driverStatus d.accounts.one ++ (driverStatus d.accounts.two ++
  [byte (tableCode d.settings.active), flagByte d.sched.swapPending, trimmedByte d,
    flagByte d.vehicle.running, flagByte d.store.defaulted]))))))))

/-! ## Enabling and disabling (R32) -/

/-- A station's link record follows a change of its windows or quota (R32). A station that becomes DISABLED keeps its missed
count and skip count, which nothing reads until it is enabled (DESIGN CHOICE, log entry 77). -/
def reviseEnabled (enabled : Bool) (p : StationLink) : StationLink :=
  match enabled, p.link with
  | false, .disabled => p
  | false, _ => { p with link := .disabled, entries := [], flags := Flags.none, failure := .none }
  | true, .disabled => { p with link := .offline, missed := 0, skip := 0 }
  | true, _ => p

end Sys2Proof.Machine
end

