-- ==== Sys2Proof/Machine/Store.lean ====
section
/-! DEFINITION. The configuration store (R191, R192): what a write changes, the two images, the writes asked for in
order, the load at power-on, and the revalidation of the schedule tables (R92). -/

namespace Sys2Proof.Machine
open Sys2Proof

/-! ## Schedule tables (R92 to R96) -/

/-- An entry that the peak limit no longer carries is emptied (R92). -/
def trimEntry (c : Currents) (e : LaneSet) : LaneSet :=
  if entryCurrent c e > c.peak then LaneSet.none else e

/-- Revalidation of one table (R92). -/
def revalidate (c : Currents) (t : Schedule) : Schedule :=
  let es := t.entries.map (trimEntry c)
  { t with entries := es, trimmed := t.trimmed || es != t.entries }

def revalidateBoth (c : Currents) (t : PerTable Schedule) : PerTable Schedule :=
  ⟨revalidate c t.a, revalidate c t.b⟩

/-- Replaces the entries from an index on (R94). -/
def writeEntries (es : List LaneSet) (first : Nat) (new : List LaneSet) : List LaneSet :=
  es.take first ++ (new ++ es.drop (first + new.length))

/-! ## What a write changes -/

/-- Does a current setting enter the check of R94 or the HEAT term's rHMIN, so that R91 has the tables revalidated? -/
def isLaneCurrent : CurrentSetting → Bool
  | .lamp _ => false
  | .quiescent => false
  | _ => true

def setCurrent (c : CurrentSetting) (v : Nat) (s : Settings) : Settings :=
  let cur := s.currents.set v c
  { s with
    currents := cur
    tables := if isLaneCurrent c then revalidateBoth cur s.tables else s.tables }

/-- A numeric parameter takes its value; a capacity below the floor lowers the floor with it (R50). -/
def setParam (p : Param) (v : Int) (s : Settings) : Settings :=
  let n := v.toNat
  match p with
  | .capacity => { s with capacity := n, floor := min s.floor n }
  | .fullVoltage => { s with fullVoltage := n }
  | .threshold t => { s with thresholds := s.thresholds.set n t }
  | .debounce t => { s with debounce := s.debounce.set n t }
  | .scale .voltageGain => { s with voltageGain := n }
  | .scale .currentGain => { s with currentGain := n }
  | .scale .zeroOffset => { s with zeroOffset := v }
  | .horizon => { s with horizon := n }
  | .margin => { s with restoreMargin := n }
  | .current c => setCurrent c n s
  | .slotLength => { s with slotLength := n }
  | .deferralLimit => { s with deferralLimit := n }
  | .fadeRate => { s with fadeRate := n }
  | .rest r => { s with rest := s.rest.set n r }
  | .idBase => { s with idBase := n }

def changeTable (t : TableId) (f : Schedule → Schedule) (s : Settings) : Settings :=
  { s with tables := s.tables.set (f (s.tables.get t)) t }

def changeStation (st : Station) (f : StationSettings → StationSettings) (s : Settings) : Settings :=
  { s with stations := s.stations.set (f (s.stations.get st)) st }

/-- The content after a write (R191, R192). -/
def applyChange (c : Change) (s : Settings) : Settings :=
  match c with
  | .num p v => setParam p v s
  | .shedOrder o => { s with shedOrder := o }
  | .window st i w => changeStation st (fun x => { x with windows := x.windows.set w i }) s
  | .level st control configure role quota =>
    changeStation st (fun x => { x with control := control, configure := configure, role := role, quota := quota }) s
  | .floor v => { s with floor := v }
  | .protectedSet p => { s with protectedSet := p }
  | .entries t first es =>
    changeTable t (fun x => { x with entries := writeEntries x.entries first es, trimmed := false }) s
  | .length t n => changeTable t (fun x => { x with length := n, trimmed := false }) s
  | .copy t => changeTable t (fun _ => { s.tables.get (otherTable t) with trimmed := false }) s
  | .active t => { s with active := t }
  | .mark b => { s with combustionMark := b }
  | .lockout l => { s with lockout := l }
  | .markAndLockout b l => { s with combustionMark := b, lockout := l }

/-! ## Images and writes (R191) -/

/-- The write count that an image can be trusted for: an image that fails its check has none, so that a write cut short
never makes the newest complete image the next target (log entry 12). -/
def imageCount (im : Image) : Nat := if im.valid then im.count else 0

/-- The image with the lower write count, image A where they are equal. -/
def targetImage (s : Store) : ImageId := if imageCount s.a ≤ imageCount s.b then .a else .b

def setImage (i : ImageId) (f : Image → Image) (s : Store) : Store :=
  match i with
  | .a => { s with a := f s.a }
  | .b => { s with b := f s.b }

def otherCount (i : ImageId) (s : Store) : Nat :=
  match i with
  | .a => imageCount s.b
  | .b => imageCount s.a

/-- The write at the head of the queue begins, where none is in progress: the target image fails its check from here
until the write is complete, and takes a count one above the other's. -/
def beginWrite (d : Device) : Device :=
  match d.store.writing, d.store.jobs with
  | none, j :: _ =>
    let i := targetImage d.store
    let n := otherCount i d.store + 1
    let s := setImage i (fun _ => ⟨false, n, applyChange j.change d.settings⟩) d.store
    { d with store := { s with writing := some i, ticks := 0 } }
  | _, _ => d

/-- A write is asked for; writes are served in the order asked (R191). -/
def askWrite (c : Change) (k : Cont) (d : Device) : Device :=
  beginWrite { d with store := { d.store with jobs := d.store.jobs ++ [⟨c, k⟩] } }

/-- The content that power-on loads: the newest image that holds, or the factory set (R191). -/
def loadContent (s : Store) : Option Settings :=
  match s.a.valid, s.b.valid with
  | true, true => some (if s.a.count ≥ s.b.count then s.a.content else s.b.content)
  | true, false => some s.a.content
  | false, true => some s.b.content
  | false, false => none

end Sys2Proof.Machine
end

