-- ==== Sys2Proof/Machine/Heater.lean ====
section
/-! DEFINITION. The heater sequencer (chapter 6): slot reports, readings, matured timers, purge's end, lockout, and what
it does when a store write that it waited for is complete. -/

namespace Sys2Proof.Machine
open Sys2Proof

def setHeat (f : Heater → Heater) (d : Device) : Device := { d with heater := f d.heater }

/-- The sequencer asks for a write and waits for it (R119, R191). -/
def heaterWrite (c : Change) (k : Cont) (d : Device) : Device :=
  askWrite c k (setHeat (fun h => { h with waiting := true }) d)

/-! ## Slot reports (R116, R117) -/

/-- At a reported swap the sequencer clears NO_GLOW_SLOT, in whatever state (R117). -/
def swapReported (d : Device) : Device := setCauseAndRecompute .heater (causeNoGlowSlot false) d

/-- Entry to PREGLOW: the claim is taken, and the plug goes on at the scheduler's report (R118). The glow frame count stands
from here until PRECHECK sets it to 0 (DESIGN CHOICE, log entry 80). -/
def enterPreglow (d : Device) : Device := takeClaim (setHeater .preglow d)

/-- A slot boundary's report: glow-start permission, frame boundary and swap, in that order (R116). A count of 2 has
failed the wait; a swap in the same report is then handled after the failure (R117). -/
def slotReport (glow frame swap : Bool) (d : Device) : Device :=
  if d.heater.state = .waitGlow ∧ d.heater.glowFrames < Config.glowFrameLimit then
    if glow then
      let d := enterPreglow d
      if swap then swapReported d else d
    else if frame then
      let d := setHeat (fun h => { h with glowFrames := h.glowFrames + 1 }) d
      if d.heater.glowFrames ≥ Config.glowFrameLimit then setHeat (fun h => { h with swapHeld := swap }) d
      else if swap then swapReported d else d
    else if swap then swapReported d else d
  else if d.heater.state = .waitGlow then setHeat (fun h => { h with swapHeld := h.swapHeld || swap }) d
  else if swap then swapReported d else d

/-- The glow wait has failed (R117). R117 leaves open what becomes of the start temperature and the glow frame count in OFF:
they are discarded as at a stop, to none and 0 (R128; DESIGN CHOICE, log entry 73). -/
def glowWaitFailed (d : Device) : Device :=
  if d.heater.state = .waitGlow ∧ d.heater.glowFrames ≥ Config.glowFrameLimit then
    let swap := d.heater.swapHeld
    let d := setHeater .off (discardStart d)
    let d := setCauseAndRecompute .heater (causeNoGlowSlot true) d
    let d := reportFailure .noGlowSlot d
    if swap then swapReported d else d
  else d

/-! ## Readings (R113) -/

/-- A condition that must hold for a number of consecutive readings (R113). -/
def countIf (c : Bool) (n : Nat) : Nat := if c then n + 1 else 0

/-- The step that the thermostat moves toward (R121). -/
def goalStep (d : Device) : Nat := min d.heater.target (stepCap d)

/-- The reading finds the step hold timer run and the step away from its goal, so that the step moves at it (R121). -/
def markStep (d : Device) : Device :=
  setHeat (fun h => { h with stepDue := decide (h.hold ≥ Config.stepHoldTime) && h.step != goalStep d }) d

/-- The thermostat's target step; `e` is in half degrees (R121). -/
def targetStep (e : Int) : Nat :=
  if e ≥ 4 then 4 else if e ≥ 2 then 3 else if e = 1 then 2 else 1

/-- A reading in PRECHECK (R115). -/
def readPrecheck (hx : Int) (d : Device) : Device :=
  if d.bank.vstate = .normal ∧ hx ≤ Config.coolLimit then
    setHeater .waitGlow (setHeat (fun h => { h with startTemp := some hx }) d)
  else d

/-- Flame proof: plug off, claim released, RUN at step 1 with its timers at 0 and its flame-loss limit (R120, R123). -/
def proveFlame (start hx : Int) (d : Device) : Device :=
  let d := setHeater .run (releaseClaim d)
  setHeat (fun h => { h with
    hold := 0
    runTimer := 0
    pauseTimer := 0
    lossTimer := 0
    target := 1
    lossLimit := if hx ≥ Config.coolLimit then Config.coolLimit else start + Config.flameRise }) d

/-- A reading in IGNITE: the overheat timer, then the flame proof (R120, R124). -/
def readIgnite (hx : Int) (d : Device) : Device :=
  let d := setHeat (fun h => { h with overTimer := countIf (decide (hx ≥ Config.overheatLimit)) h.overTimer }) d
  match d.heater.startTemp with
  | some start => if hx ≥ start + Config.flameRise then proveFlame start hx d else d
  | none => d

/-- A reading in RUN: the three timers, the flame-loss limit and the thermostat's target (R121 to R124). The pause timer
counts with the step that stands before a step change at the same reading (DESIGN CHOICE, log entry 84). -/
def readRun (cab hx : Int) (h : Heater) : Heater :=
  let limit := if hx ≥ Config.coolLimit then Config.coolLimit else h.lossLimit
  { h with
    overTimer := countIf (decide (hx ≥ Config.overheatLimit)) h.overTimer
    lossLimit := limit
    lossTimer := countIf (decide (hx < limit)) h.lossTimer
    pauseTimer := match h.demand with
      | some s => countIf (decide (h.step = 1) && decide (cab ≥ s + 4)) h.pauseTimer
      | none => 0
    target := match h.demand with
      | some s => targetStep (s - cab)
      | none => 1 }

/-- A reading in PAUSE (R122). -/
def readPause (cab : Int) (d : Device) : Device :=
  match d.heater.demand with
  | some s => if cab ≤ s - 2 then enterPrecheck d else d
  | none => d

/-- The second's readings, saturated (R113). The pause and flame-loss timers count in RUN and the overheat timer in IGNITE and
RUN; in another state each keeps its last value (DESIGN CHOICE, log entry 69). -/
def takeReading (cab hx : Int) (d : Device) : Device :=
  let cab := clampInt (-80) 250 cab
  let hx := clampInt (-80) 500 hx
  let d := setHeat (fun h => { h with cab := some cab, hx := some hx }) d
  match d.heater.state with
  | .precheck => readPrecheck hx d
  | .ignite => readIgnite hx d
  | .run => markStep (setHeat (readRun cab hx) d)
  | .pause => readPause cab d
  | _ => d

/-! ## Ignition and failed attempts (R119, R123 to R125) -/

/-- Entry to IGNITE: the mark is written, and the fuel starts when the write is complete (R119). The overheat timer counts
the readings of this burn from 0 (R113, R124; log entry 69). -/
def preglowEnd (d : Device) : Device :=
  if d.heater.state = .preglow ∧ d.heater.stage ≥ Config.preglowTime then
    heaterWrite (.mark true) .ignite (setHeat (fun h => { h with overTimer := 0 }) (setHeater .ignite d))
  else d

/-- The failure of an attempt, by the state that it fails in (R120, R123, R133). -/
def failureOf (s : HeaterState) : FailureKind := if s = .ignite then .noFlame else .flameLoss

/-- The purge after a failed attempt begins, and the failure is reported (R120, R123, R133). -/
def purgeFailed (d : Device) : Device :=
  let k := failureOf d.heater.state
  reportFailure k (enterPurge .failure d)

/-- A failed attempt is counted; the third leaves a lockout pending before the purge begins (R125). The failure is reported
with the entry to PURGE, which at the third attempt comes after that write (R133; DESIGN CHOICE, log entry 78). -/
def attemptFailed (d : Device) : Device :=
  let d := setHeat (fun h => { h with attempts := bump Config.attemptLimit h.attempts }) d
  if d.heater.attempts ≥ Config.attemptLimit ∧ d.settings.lockout = .none then
    heaterWrite (.lockout (.pending .flameFail)) .attemptFailed d
  else purgeFailed d

/-- 90 s of IGNITE without flame proof (R120). -/
def noFlame (d : Device) : Device :=
  if d.heater.state = .ignite ∧ d.heater.stage ≥ Config.igniteTime then attemptFailed (releaseClaim d) else d

/-- 10 readings below the flame-loss limit in RUN: the fuel stops and the failure is counted (R123). -/
def flameLoss (d : Device) : Device :=
  if d.heater.state = .run ∧ d.heater.lossTimer ≥ Config.flameLossReadings then
    attemptFailed (setHeat (fun h => { h with fuel := false }) d)
  else d

/-- 2 readings at or above 150.0 °C in IGNITE or RUN (R124). -/
def overheat (d : Device) : Device :=
  if (d.heater.state = .ignite ∨ d.heater.state = .run) ∧ d.heater.overTimer ≥ Config.overheatReadings then
    heaterWrite (.lockout (.pending .overheat)) .overheat d
  else d

/-- Steps 2 to 4 of R124. -/
def overheatWritten (d : Device) : Device :=
  let d := reportFailure .overheat d
  enterPurge .failure (if d.heater.state = .ignite then releaseClaim d else d)

/-! ## Run (R121, R122, R125) -/

/-- One step toward the target within the cap, at the first reading 30 s or more after the last change (R121). -/
def stepChange (d : Device) : Device :=
  if d.heater.state = .run ∧ d.heater.stepDue ∧ d.heater.step ≠ goalStep d then
    setHeat (fun h => { h with
      step := if h.step < goalStep d then h.step + 1 else h.step - 1
      hold := 0
      stepDue := false }) d
  else d

/-- 300 readings of the pause condition end the burn (R122). -/
def pauseEntry (d : Device) : Device :=
  if d.heater.state = .run ∧ d.heater.pauseTimer ≥ Config.pauseReadings then enterPurge .pause d else d

/-- 600 s of continuous RUN clear the attempt count (R125). -/
def runProved (d : Device) : Device :=
  if d.heater.state = .run ∧ d.heater.runTimer ≥ Config.runProvedTime then
    setHeat (fun h => { h with attempts := 0 }) d
  else d

/-! ## Purge's end and lockout (R126, R127, R129) -/

/-- The lockout that is pending for a purge's end: a stored IN_FORCE stands with a power-on purge (R131). -/
def pendingLockout (s : Settings) : Option LockoutReason :=
  match s.lockout with
  | .none => none
  | .pending r => some r
  | .inForce r => some r

/-- Heat demand stands, and the HEAT lane is not OFF (R114). -/
def wantsHeat (d : Device) : Bool := d.heater.demand.isSome && d.budget.modes.heat != .off

/-- A heater that has come to OFF sees the demand that stands (R114, R130). -/
def seeDemand (d : Device) : Device := if wantsHeat d then demandHeat d else d

/-- The state that a purge's end resolves (R127). -/
def purgeNext (d : Device) : PurgeNext :=
  match pendingLockout d.settings with
  | some r => .lockout r
  | none =>
    if wantsHeat d then
      match d.heater.cause with
      | .pause => .pause
      | _ => .precheck
    else .off

/-- The lockout that the one write of R127 leaves. -/
def lockoutAfter (n : PurgeNext) (s : Settings) : StoredLockout :=
  match n with
  | .lockout r => .inForce r
  | _ => s.lockout

/-- The end of a purge: the next state is resolved, and mark and lockout go to the store in one write (R127). -/
def endPurge (d : Device) : Device :=
  let n := purgeNext d
  heaterWrite (.markAndLockout false (lockoutAfter n d.settings)) (.purgeEnd n) d

/-- The next state is taken once the write is complete (R127, R129). After a hot purge the flag set with LOCKOUT is that of
the failure too (R133; log entry 47). -/
def purgeWritten (n : PurgeNext) (d : Device) : Device :=
  let d := setHeat (fun h => { h with cause := .none }) d
  match n with
  | .lockout _ => setCauseAndRecompute .heater (causeLockout true) (setHeater .lockout d)
  | .precheck => enterPrecheck d
  | .pause => setHeater .pause d
  | .off => setHeater .off d

/-- The last exchanger reading is at or below 60.0 °C. -/
def isCool (h : Heater) : Bool :=
  match h.hx with
  | some x => decide (x ≤ Config.coolLimit)
  | none => false

/-- The last exchanger reading is above 60.0 °C. -/
def isHot (h : Heater) : Bool :=
  match h.hx with
  | some x => decide (x > Config.coolLimit)
  | none => false

/-- A purge ends cool (R126). -/
def purgeEnd (d : Device) : Device :=
  if d.heater.state = .purge ∧ d.heater.stage ≥ Config.purgeMinimum ∧ isCool d.heater then endPurge d else d

/-- A lockout for OVERHEAT or FLAME_FAIL is pending (R126). -/
def otherPending (s : Settings) : Bool :=
  match pendingLockout s with
  | some .overheat => true
  | some .flameFail => true
  | _ => false

/-- The failure is reported, and the purge ends (R126, R127). A failure and the state change it causes set the HEATER flag
once (R133): the report sets the pending failure kind, and the entry to LOCKOUT, after R127's write, sets the flag (DEDUCED,
log entry 47). -/
def hotWritten (d : Device) : Device := endPurge (setFailure .purgeHot d)

/-- A hot purge (R126). -/
def purgeHot (d : Device) : Device :=
  if d.heater.state = .purge ∧ d.heater.stage ≥ Config.purgeMaximum ∧ isHot d.heater then
    if otherPending d.settings then hotWritten d
    else heaterWrite (.lockout (.pending .purgeHot)) .purgeHot d
  else d

/-- CLEAR_LOCKOUT, answered by the state (R130). -/
def clearLockout (st : Station) (d : Device) : Device :=
  if d.heater.state = .lockout then heaterWrite (.lockout .none) (.lockoutCleared st) d
  else answer st 0x26#8 .ok [byte (heaterCode d.heater.state)] d

/-- The rest of a clear once the write is complete. The answer carries the heater state that these changes leave, whenever
it is sent (R130). -/
def lockoutCleared (st : Station) (d : Device) : Device :=
  let old := d
  let d := setHeater .off (setHeat (fun h => { h with attempts := 0 }) d)
  let d := setCauseAndRecompute .heater (causeLockout false) d
  let d := seeDemand d
  answerAfter old st 0x26#8 .ok (.bytes [byte (heaterCode d.heater.state)]) d

/-! ## Messages -/

/-- A matured timer (R113). -/
def takeTimer (t : HeaterTimer) (d : Device) : Device :=
  match t with
  | .glowWaitFailed => glowWaitFailed d
  | .preglowEnd => preglowEnd d
  | .noFlame => noFlame d
  | .stepChange => stepChange d
  | .pauseEntry => pauseEntry d
  | .flameLoss => flameLoss d
  | .overheat => overheat d
  | .runProved => runProved d
  | .purgeEnd => purgeEnd d
  | .purgeHot => purgeHot d

/-- The sequencer takes a message, or holds it while it waits for a store write (R119, R191). -/
def heaterTake (d : Device) (m : HeaterMsg) : Device :=
  if d.heater.waiting then holdMsg m d
  else
    match m with
    | .demand => demandHeat d
    | .stop => stopHeater d
    | .voltage v => voltageHeater v d
    | .slot glow frame swap => slotReport glow frame swap d
    | .reading cab hx => takeReading cab hx d
    | .timer t => takeTimer t d
    | .clear st => clearLockout st d

/-- The sequencer goes on after a write, and takes what it held in order. -/
def heaterResume (f : Device → Device) (d : Device) : Device :=
  let held := d.heater.held
  held.foldl heaterTake (f (setHeat (fun h => { h with waiting := false, held := [] }) d))

/-- The start of the fuel when the mark is written (R119). -/
def fuelOn (d : Device) : Device :=
  setHeat (fun h => if h.state = .ignite then { h with fuel := true } else h) d

/-! ## Power-on (R131) -/

/-- The sequencer's start by the stored mark and lockout; a stored PENDING with the mark clear is written IN_FORCE. -/
def startHeaterFrom (d : Device) : Device :=
  let s := d.settings
  let d := if s.combustionMark then setHeat (fun h => { h with state := .purge }) d
    else if s.lockout = .none then d
    else setHeat (fun h => { h with state := .lockout }) d
  let d := if s.lockout = .none then d else setCause .heater (causeLockout true) d
  match s.combustionMark, s.lockout with
  | false, .pending r => askWrite (.lockout (.inForce r)) .nothing d
  | _, _ => d

end Sys2Proof.Machine
end

