-- ==== Sys2Proof/Machine/Slots.lean ====
section
/-! DEFINITION. Slot and frame boundaries (R99 to R101, R105), and what follows a store write: the effects of the
setting written and the rest of the block or request that waited for it (R191, R192). -/

namespace Sys2Proof.Machine
open Sys2Proof

def setSched (f : Sched → Sched) (d : Device) : Device := { d with sched := f d.sched }

/-! ## Boundaries (R99, R101) -/

/-- The new slot's glow-start permission and lane permissions are formed (R102, R105). -/
def openSlot (d : Device) : Device :=
  formPermissions (setSched (fun s => { s with glowStart := glowStartOf d }) d)

/-- The report to the heater sequencer (R110, R116). -/
def reportSlot (frame swap : Bool) (d : Device) : Device :=
  heaterTake d (.slot d.sched.glowStart frame swap)

/-- A boundary within a frame (R99). -/
def slotWithin (d : Device) : Device :=
  reportSlot false false (openSlot (setSched (fun s => { s with slotIndex := s.slotIndex + 1, slotTime := 0 }) d))

/-- The frame counter follows 4,294,967,295 with 0 (R99). -/
def nextFrame (n : Nat) : Nat := if n ≥ 4294967295 then 0 else n + 1

/-- The report to the budget unit: a swap's own recomputation, and the frame-boundary work where it was not taken
before the swap (R79, R85, R88). -/
def reportBudget (swap workFirst : Bool) (d : Device) : Device :=
  let d := if swap then recompute d else d
  if swap && workFirst then d else frameWork d

/-- Steps 3 to 5 of R101: the frame counter goes on, and slot 0 opens. -/
def openFirst (d : Device) : Device :=
  openSlot (setSched (fun s => { s with
    waiting := false
    owed := none
    frame := nextFrame s.frame
    slotIndex := 0
    slotTime := 0 }) d)

/-- Steps 3 to 6 of R101. -/
def openFrame (swap workFirst heaterFirst : Bool) (d : Device) : Device :=
  let d := openFirst d
  if heaterFirst then reportBudget swap workFirst (reportSlot true swap d)
  else reportSlot true swap (reportBudget swap workFirst d)

/-- The pending slot length comes into force (R101). -/
def takeLength (d : Device) : Device := setSched (fun s => { s with slotLength := d.settings.slotLength }) d

/-- The tables are exchanged, and the rest of the boundary waits for the write of the new mark (R101, R191). -/
def swapTables (workFirst heaterFirst : Bool) (d : Device) : Device :=
  let t := otherTable d.settings.active
  let d := { d with settings := { d.settings with active := t } }
  askWrite (.active t) (.boundary workFirst heaterFirst)
    (setSched (fun s => { s with swapPending := false, waiting := true }) d)

/-- A frame boundary (R101). With a swap the steps from the third on wait for the write of the mark (R191);
`workFirst` takes the budget unit's work before the swap (R88). -/
def frameBoundary (workFirst heaterFirst : Bool) (d : Device) : Device :=
  let d' := takeLength (if d.sched.swapPending && workFirst then frameWork d else d)
  if d.sched.swapPending then swapTables workFirst heaterFirst d' else openFrame false false heaterFirst d'

/-- A slot boundary (R99). One that arrives while the scheduler waits for a store write is taken when the wait ends (R191,
log entry 65). The command acts whatever the slot time is; only the part's own clock keeps the slot length (DESIGN CHOICE,
log entry 46). -/
def slotBoundary (workFirst heaterFirst : Bool) (d : Device) : Device :=
  if d.sched.waiting then setSched (fun s => { s with late := s.late ++ [(workFirst, heaterFirst)] }) d
  else if d.sched.slotIndex + 1 < (activeTable d).length then slotWithin d
  else frameBoundary workFirst heaterFirst d

/-- The boundaries that arrived during a wait are taken in their order; one that the scheduler cannot take yet waits on
(R191, log entry 65). -/
def takeLate (d : Device) : Device :=
  d.sched.late.foldl (fun d b => slotBoundary b.1 b.2 d) (setSched (fun s => { s with late := [] }) d)

/-! ## Effects of a setting once it is written (R192) -/

/-- A capacity that differs (R50). -/
def capacityChanged (cap : Nat) (d : Device) : Device :=
  let b := d.bank
  let b := if b.q > cap * 3600 then { b with q := cap * 3600, r := 0 } else b
  recompute { d with bank := { b with uncalibrated := true } }

/-- The station's enabling follows its settings (R32). -/
def stationChanged (st : Station) (d : Device) : Device :=
  updateStation st (reviseEnabled (stationEnabled (d.settings.stations.get st))) d

/-- The scheduler has been asked whether the loads are idle, and keeps every lane so until the change is in force: it
withdraws every permission, forms none and takes no slot boundary (R91, R106; log entry 52). -/
def keepIdle (d : Device) : Device :=
  setSched (fun s => { s with waiting := true, perm := ⟨false, false, false⟩ }) d

/-- The change of a current is in force: the scheduler goes on, with the frame boundary that it owes or by forming the
permissions anew (R92, R102). -/
def idleEnds (d : Device) : Device :=
  match d.sched.owed with
  | some (workFirst, heaterFirst) => openFrame true workFirst heaterFirst d
  | none => formPermissions (setSched (fun s => { s with waiting := false }) d)

/-- A frame boundary whose mark is written goes on, or waits for a change of a current (R101, R191; log entry 52). -/
def boundaryWritten (workFirst heaterFirst : Bool) (d : Device) : Device :=
  if currentsPending d then setSched (fun s => { s with owed := some (workFirst, heaterFirst) }) d
  else openFrame true workFirst heaterFirst d

/-- What the owning block does with the value that the store has written; `old` are the settings before it. A threshold
written with the value it has counts as a change (DESIGN CHOICE, log entry 43), and the BUDGET test of a rebuilt ladder
compares with the state before the rebuild (R71, R82; DESIGN CHOICE, log entry 67). -/
def changed (c : Change) (old : Settings) (d : Device) : Device :=
  match c with
  | .num .capacity v => if v.toNat = old.capacity then d else capacityChanged v.toNat d
  | .num (.threshold _) _ => { d with bank := { d.bank with timers := Debounce.zero } }
  | .num (.current _) _ => recompute (idleEnds d)
  | .num .horizon _ => recompute d
  | .num .margin _ => recompute d
  | .num (.rest _) _ => evaluateBoth d
  | .num _ _ => d
  | .shedOrder _ => withBudgetNotice (fun d => recomputeCore (rebuildLadder d)) d
  | .protectedSet _ => withBudgetNotice (fun d => recomputeCore (rebuildLadder d)) d
  | .floor _ => recompute d
  | .window st _ _ => stationChanged st d
  | .level st _ _ _ _ => stationChanged st d
  | .entries _ _ _ => d
  | .length _ _ => d
  | .copy _ => d
  | .active _ => d
  | .mark _ => d
  | .lockout _ => d
  | .markAndLockout _ _ => d

/-- The block or request that waited goes on (R191); `old` is the part before the setting written had its effects. An
answered request has been accepted, so it clears STORE_DEFAULTED. -/
def goOn (k : Cont) (old d : Device) : Device :=
  match k with
  | .answer st type code spec =>
    answerAfter old st type code spec { d with store := { d.store with defaulted := false } }
  | .ignite => heaterResume fuelOn d
  | .overheat => heaterResume overheatWritten d
  | .attemptFailed => heaterResume purgeFailed d
  | .purgeHot => heaterResume hotWritten d
  | .purgeEnd n => heaterResume (purgeWritten n) d
  | .lockoutCleared st => heaterResume (lockoutCleared st) d
  | .boundary workFirst heaterFirst => boundaryWritten workFirst heaterFirst d
  | .nothing => d

/-- The write in progress is complete: its image holds, the setting is in force, what waited goes on, an answer held for
it is sent, the boundaries that came while the scheduler waited are taken, and the next write begins (R29, R191, R192). -/
def completeWrite (d : Device) : Device :=
  match d.store.writing, d.store.jobs with
  | some i, j :: rest =>
    let s := setImage i (fun im => { im with valid := true }) d.store
    let old := { d with
      store := { s with jobs := rest, writing := none, ticks := 0 }
      settings := applyChange j.change d.settings }
    let new := releaseAnswer (goOn j.cont old (changed j.change d.settings old))
    beginWrite (if d.sched.waiting then takeLate new else new)
  | _, _ => d

end Sys2Proof.Machine
end

