-- ==== Sys2Proof/Machine/TableRequests.lean ====
section
/-! DEFINITION. Record requests: LOOKUP in its three forms (R21), CREATE (R8, R9), AMEND (R19), RETIRE (R18), STATUS
(R40) and ACK_WARNING (R175), each with the port's checks in the order of R37. -/

namespace Sys2Proof.Machine
open Sys2Proof

/-! ## Checks of the port (R35, R37) -/

/-- Is a record the station's own? An INTERNAL record is nobody's (R37). -/
def isOwn (st : Station) (r : Record) : Bool := r.owner == .station st

/-- A handle resolved for a station: its record and its rights window, or the answer that refuses it (R35). -/
def resolve (d : Device) (st : Station) (w : Word16) : Except AnswerCode (Handle × Record × Window) :=
  let h := handleOfWord w
  match lookup d h with
  | none => .error .badHandle
  | some r =>
    match windowOf d st r.fn with
    | none => .error .notMapped
    | some win => .ok (h, r, win)

/-! ## LOOKUP (R21) -/

/-- The first 8 handles of a list in slots from `first` on, and whether more follow. -/
def listPage (first : Nat) (hs : List Handle) : List Handle × Bool :=
  let hs := hs.filter fun h => decide (first ≤ h.slot)
  (hs.take Config.listLimit, decide (hs.length > Config.listLimit))

/-- A list answer: count, more flag, handles (R198). A first slot above 47 is taken as 47 and
is not echoed, since the list body has no field for it (DEDUCED, log entry 8). -/
def answerList (st : Station) (first : Nat) (hs : List Handle) (d : Device) : Device :=
  let page := listPage (min first 47) hs
  answer st 0x11#8 (okCode (decide (first > 47)))
    ([byte page.1.length, flagByte page.2] ++ page.1.flatMap handleBytes) d

def lookupHandle (w : Option Word16) (st : Station) (d : Device) : Device :=
  match w with
  | none => refuse st 0x11#8 .badValue d
  | some w =>
    match resolve d st w with
    | .error c => refuse st 0x11#8 c d
    | .ok (h, r, win) =>
      if isOwn st r || win.rights.lookup then answer st 0x11#8 .ok (answerBlock d st h 0) d
      else refuse st 0x11#8 .noRight d

def lookupFunction (q : Option FnQuery) (st : Station) (d : Device) : Device :=
  match q with
  | none => refuse st 0x11#8 .badValue d
  | some q =>
    match translate d st q.fn.toNat with
    | none => refuse st 0x11#8 .notMapped d
    | some (g, win) =>
      if !win.rights.lookup then refuse st 0x11#8 .noRight d
      else
        match fnOfNumber g with
        | none => refuse st 0x11#8 .notMapped d
        | some fn =>
          answerList st q.first.toNat (((records d).filter fun hr => hr.2.fn = fn).map Prod.fst) d

def lookupOwn (first : Option Byte) (st : Station) (d : Device) : Device :=
  match first with
  | none => refuse st 0x11#8 .badValue d
  | some first =>
    if (windowList d st).any (fun w => w.rights.lookup) then
      answerList st first.toNat ((stationRecords d st).map Prod.fst) d
    else refuse st 0x11#8 .noRight d

/-! ## Applied values (R3 to R5, R39) -/

/-- A value as applied, and whether that differs from the value sent. -/
structure Applied (α : Type) where
  value : α
  clamped : Bool
deriving DecidableEq, Repr

def applyNat (lo hi n : Nat) : Applied Nat := ⟨clampNat lo hi n, clampNat lo hi n != n⟩
def applyInt (lo hi n : Int) : Applied Int := ⟨clampInt lo hi n, clampInt lo hi n != n⟩

def setpointRange (t : Int) : Applied Int := applyInt 10 60 t
def targetRange (t : Int) : Applied Int := applyInt (-36) 16 t

/-- The class clamp: ESSENTIAL needs CONTROL (R3). -/
def applyClass (control : Bool) (c : Class) : Applied Class :=
  if c = .essential ∧ !control then ⟨.comfort, true⟩ else ⟨c, false⟩

/-- A wake light as sent: a level with its channel set; an empty set is stored as absent (R4, R197). The two flags are
those of the channel set and of the level in the clamp mask. -/
def applyLight (channels level : Byte) : Option WakeLight × Bool × Bool :=
  let set := channelSetOfByte channels
  let l := applyNat 0 100 level.toNat
  if set = noChannels then (none, true, false) else (some ⟨set, l.value⟩, false, l.clamped)

/-- The bits of a clamp mask (R195). -/
def maskOf : List Bool → Nat := flagsByte

/-- The kind parameters as sent have the shape, and so the length, of their kind (R197). An unknown kind has none. -/
def fieldsFit (k : Option Kind) (f : KindFields) : Bool :=
  match k, f with
  | none, _ => true
  | some .heatHold, .temp _ => true
  | some .coolHold, .temp _ => true
  | some .lamp, .level _ => true
  | some .auxOn, .nothing => true
  | some .restPlan, .plan _ => true
  | _, _ => false

/-! ## CREATE (R4, R5, R8, R9) -/

/-- Kind parameters at creation and their clamp flags; `none` where a required one is missing. -/
def createParams (k : Kind) (f : KindFields) : Option (Params × List Bool) :=
  match k, f with
  | .heatHold, .temp w => (tempOfWord w).map fun t => (.heat (setpointRange t).value none, [(setpointRange t).clamped])
  | .coolHold, .temp w => (tempOfWord w).map fun t => (.cool (targetRange t).value, [(targetRange t).clamped])
  | .lamp, .level l =>
    if l = byteAbsent then none
    else some (.lamp (applyNat 0 100 l.toNat).value, [(applyNat 0 100 l.toNat).clamped])
  | .auxOn, .nothing => some (.aux, [])
  | .restPlan, .plan p =>
    if p.len = minutesAbsent then none
    else
      let len := applyNat 30 1440 p.len.toNat
      let lead := applyNat 0 90 (if p.lead = byteAbsent then 0 else p.lead.toNat)
      let pre := (tempOfWord p.preheat).map setpointRange
      let light := if p.level = byteAbsent then (none, false, false) else applyLight p.channels p.level
      some (.plan {
          len := len.value
          lead := lead.value
          preheat := pre.map Applied.value
          light := light.1
          buzzer := p.buzzer.getLsbD 0 && p.buzzer != byteAbsent
          sub := .waiting
          plannedEnd := none
          atRisk := false
          internal := none },
        [len.clamped, lead.clamped, (pre.map Applied.clamped).getD false, light.2.1, light.2.2, false])
  | _, _ => none

/-- The class given at creation: COMFORT where none is given (R3); `none` for a code that names no class, which check 4 of R8
refuses BAD_VALUE (DESIGN CHOICE, log entry 82). -/
def createClass (b : Byte) : Option Class := if b = byteAbsent then some .comfort else classOfCode b

/-- Check 4 of R8 for a REST_PLAN: both time fields hold the absence code. -/
def timesFit (k : Kind) (b : CreateBody) : Bool :=
  k != .restPlan || (b.delay == minutesAbsent && b.duration == minutesAbsent)

/-- The record of a CREATE that has passed its checks, and its clamp mask (R2 to R5). -/
def newRecord (d : Device) (st : Station) (fn : Fn) (b : CreateBody) (cls : Class) (params : Params)
    (flags : List Bool) (seq : Nat) : Record × Nat :=
  let now := d.clock.sec
  let c := applyClass (d.settings.stations.get st).control cls
  let delay := applyNat 0 1440 ((minutesOfWord b.delay).getD 0)
  let start := if delay.value = 0 then none else some (now + 60 * delay.value)
  let dur := (minutesOfWord b.duration).map (applyNat 1 1440)
  let limit := if b.limit = 0#8 then ⟨d.settings.deferralLimit, false⟩ else applyNat 1 240 b.limit.toNat
  ({ kind := fnKind fn
     fn := fn
     owner := .station st
     cls := c.value
     state := .scheduled
     reason := .awaitStart
     seq := seq
     start := start
     endAt := dur.map fun m => start.getD now + 60 * m.value
     limit := limit.value
     deadline := none
     params := params },
   maskOf ([c.clamped, delay.clamped, (dur.map Applied.clamped).getD false, limit.clamped] ++ flags))

/-- Clears a channel's fault on an accepted LAMP creation or amendment (R156). -/
def clearFault (fn : Fn) (d : Device) : Device :=
  match fn with
  | .lamp c =>
    if (d.lamps.get c).fault then
      setCauseAndRecompute fn (causeChannelFault false)
        (changeLamp c (fun l => { l with fault := false, trip := 0 }) d)
    else d
  | _ => d

/-- A record starts (R9, R11): admission for a lane record, GRANTED IMMEDIATE for a LAMP or a plan, which is handed to
the plan unit (R178). -/
def beginRecord (h : Handle) (d : Device) : Device :=
  match lookup d h with
  | some r =>
    match r.fn with
    | .rest dr => takePlan dr h (startRecord h d)
    | .lamp _ => recompute (startRecord h d)
    | _ => startRecord h d
  | none => d

/-- While an answer is formed the requester's own record is not marked (R13). -/
def quietly (h : Option Handle) (f : Device → Device) (d : Device) : Device :=
  let d := f { d with table := { d.table with quiet := h } }
  { d with table := { d.table with quiet := none } }

/-- The creation itself (R8, R9, R156). -/
def createRecord (st : Station) (fn : Fn) (h : Handle) (b : CreateBody) (cls : Class) (params : Params)
    (flags : List Bool) (d : Device) : Device :=
  let old := d
  let d := takeSequence (clearFault fn d)
  let rm := newRecord d st fn b cls params flags d.table.counter
  let d := quietly (some h) (fun d =>
    let d := putRecord h rm.1 d
    if rm.1.start.isNone then beginRecord h d else d) d
  answerAfter old st 0x12#8 (okCode (rm.2 != 0)) (.block h rm.2 (answerBlock d st h rm.2)) d

/-- Checks 4 to 7 of R8, then the creation. -/
def createChecked (st : Station) (fn : Fn) (b : CreateBody) (d : Device) : Device :=
  match createClass b.cls, createParams (fnKind fn) b.fields, timesFit (fnKind fn) b with
  | some cls, some (params, flags), true =>
    if (stationRecords d st).length ≥ (d.settings.stations.get st).quota then refuse st 0x12#8 .quota d
    else if (fnStationRecords d fn).length ≥ fnLimit fn then refuse st 0x12#8 .functionFull d
    else
      match freeStationSlot d with
      | none => refuse st 0x12#8 .tableFull d
      | some h => createRecord st fn h b cls params flags d
  | _, _, _ => refuse st 0x12#8 .badValue d

/-- CREATE: the port's checks, then the table's (R37, R8). -/
def create (body : Option CreateBody) (st : Station) (d : Device) : Device :=
  match body with
  | none => refuse st 0x12#8 .badValue d
  | some b =>
    let k := kindOfCode b.kind
    if !fieldsFit k b.fields then refuse st 0x12#8 .badValue d
    else
      match translate d st b.fn.toNat with
      | none => refuse st 0x12#8 .notMapped d
      | some (g, win) =>
        if !(win.rights.changeOwn || win.rights.changeAny) then refuse st 0x12#8 .noRight d
        else
          match fnOfNumber g with
          | none => refuse st 0x12#8 .notMapped d
          | some fn =>
            match k with
            | none => refuse st 0x12#8 .badValue d
            | some k =>
              if k ≠ fnKind fn then refuse st 0x12#8 .wrongKind d else createChecked st fn b d

/-! ## AMEND (R19) -/

/-- Kind parameters after an amendment, and their clamp flags; an absence code keeps the parameter (R195). -/
def amendParams (p : Params) (f : KindFields) : Params × List Bool :=
  match p, f with
  | .heat s o, .temp w =>
    match tempOfWord w with
    | some t => (.heat (setpointRange t).value o, [(setpointRange t).clamped])
    | none => (.heat s o, [])
  | .cool s, .temp w =>
    match tempOfWord w with
    | some t => (.cool (targetRange t).value, [(targetRange t).clamped])
    | none => (.cool s, [])
  | .lamp l, .level b =>
    if b = byteAbsent then (.lamp l, [])
    else (.lamp (applyNat 0 100 b.toNat).value, [(applyNat 0 100 b.toNat).clamped])
  | .plan p, .plan f =>
    let len := if f.len = minutesAbsent then ⟨p.len, false⟩ else applyNat 30 1440 f.len.toNat
    let lead := if f.lead = byteAbsent then ⟨p.lead, false⟩ else applyNat 0 90 f.lead.toNat
    let pre := (tempOfWord f.preheat).map setpointRange
    let light := if f.level = byteAbsent then (p.light, false, false) else applyLight f.channels f.level
    let buzzer := if f.buzzer = byteAbsent then p.buzzer else f.buzzer.getLsbD 0
    (.plan { p with
        len := len.value
        lead := lead.value
        preheat := match pre with
          | some t => some t.value
          | none => p.preheat
        light := light.1
        buzzer := buzzer },
      [len.clamped, lead.clamped, (pre.map Applied.clamped).getD false, light.2.1, light.2.2, false])
  | p, _ => (p, [])

/-- Which fields an AMEND gives (R197). -/
structure AmendMask where
  cls : Bool
  duration : Bool
  openEnded : Bool
  limit : Bool
  delay : Bool
deriving DecidableEq, Repr

def amendMask (b : AmendBody) : AmendMask where
  cls := b.mask.getLsbD 0
  duration := b.mask.getLsbD 1 && b.duration != minutesAbsent
  openEnded := b.mask.getLsbD 2
  limit := b.mask.getLsbD 3
  delay := b.mask.getLsbD 4

/-- Check 4 of R19. -/
def amendFits (k : Kind) (b : AmendBody) : Bool :=
  let m := amendMask b
  !m.delay && !(m.duration && m.openEnded) && !(k == .restPlan && (m.duration || m.openEnded)) &&
    (!m.cls || (classOfCode b.cls).isSome)

/-- The class asked for, as applied. -/
def amendClass (control : Bool) (b : AmendBody) (r : Record) : Applied Class :=
  if (amendMask b).cls then
    match classOfCode b.cls with
    | some c => applyClass control c
    | none => ⟨r.cls, false⟩
  else ⟨r.cls, false⟩

/-- The record after an accepted amendment, and its clamp mask (R3 to R5, R19). -/
def amendedRecord (now : Nat) (control : Bool) (b : AmendBody) (seq : Nat) (r : Record) : Record × Nat :=
  let m := amendMask b
  let c := amendClass control b r
  let dur := applyNat 1 1440 b.duration.toNat
  let base := if r.state = .scheduled then r.start.getD now else now
  let limit := if m.limit then applyNat 1 240 b.limit.toNat else ⟨r.limit, false⟩
  let pf := amendParams r.params b.fields
  ({ r with
      cls := c.value
      seq := seq
      endAt := if m.openEnded then none else if m.duration then some (base + 60 * dur.value) else r.endAt
      limit := limit.value
      params := pf.1 },
    maskOf ([c.clamped, false, m.duration && dur.clamped, limit.clamped] ++ pf.2))

/-- What follows the new fields: the effective value, the plan unit or the budget unit, and the re-admission of a
DEFERRED record raised to ESSENTIAL (R19, R84, R185). -/
def afterAmend (h : Handle) (old : Record) (d : Device) : Device :=
  match lookup d h with
  | some r =>
    match old.params, r.fn with
    | .plan p, .rest dr => planAmended dr h p d
    | _, fn =>
      let d := recompute (pushValue fn d)
      match fnLane fn with
      | some l =>
        if old.state = .deferred ∧ old.cls ≠ .essential ∧ r.cls = .essential then admission h l .essential d else d
      | none => d
  | none => d

/-- The amendment itself (R19, R156). On a faulted channel the fault's clear, the resumption of its records at their old
levels and the recomputation that follows come first, and then the given fields and the new sequence replace the record's:
R19 and R156 give no order between them (DESIGN CHOICE, log entry 87). -/
def amendRecord (st : Station) (h : Handle) (r : Record) (b : AmendBody) (d : Device) : Device :=
  let before := d
  let d := quietly (if isOwn st r then some h else none) (fun d =>
    let d := takeSequence (clearFault r.fn d)
    let n := d.table.counter
    let old := (lookup d h).getD r
    afterAmend h old (revise h (fun r =>
      (amendedRecord d.clock.sec (d.settings.stations.get st).control b n r).1) d)) d
  let mask := (amendedRecord d.clock.sec (d.settings.stations.get st).control b 0 r).2
  answerAfter before st 0x13#8 (okCode (mask != 0)) (.block h mask (answerBlock d st h mask)) d

/-- AMEND: the port's checks, then the table's (R37, R19). -/
def amend (body : Option AmendBody) (st : Station) (d : Device) : Device :=
  match body with
  | none => refuse st 0x13#8 .badValue d
  | some b =>
    if !fieldsFit (kindOfCode b.kind) b.fields then refuse st 0x13#8 .badValue d
    else
      match resolve d st b.handle with
      | .error c => refuse st 0x13#8 c d
      | .ok (h, r, win) =>
        if !(win.rights.changeAny || (win.rights.changeOwn && isOwn st r)) then refuse st 0x13#8 .noRight d
        else if r.owner = .internal then refuse st 0x13#8 .noRight d
        else if kindOfCode b.kind ≠ some r.kind then refuse st 0x13#8 .wrongKind d
        else if !amendFits r.kind b then refuse st 0x13#8 .badValue d
        else amendRecord st h r b d

/-! ## RETIRE, STATUS, ACK_WARNING -/

/-- RETIRE (R18, R37). -/
def retire (w : Option Word16) (st : Station) (d : Device) : Device :=
  match w with
  | none => refuse st 0x14#8 .badValue d
  | some w =>
    match resolve d st w with
    | .error c => refuse st 0x14#8 c d
    | .ok (h, r, win) =>
      if !(win.rights.retireAny || (win.rights.retireOwn && isOwn st r)) then refuse st 0x14#8 .noRight d
      else if r.owner = .internal then refuse st 0x14#8 .noRight d
      else
        answerAfter d st 0x14#8 .ok (.bytes (handleBytes h))
          (retireRecord h .request (if isOwn st r then .own else .entered) d)

/-- STATUS (R40). -/
def status (bodyOk : Bool) (st : Station) (d : Device) : Device :=
  if bodyOk then answer st 0x15#8 .ok (statusBody d st) d else refuse st 0x15#8 .badValue d

def driverOfByte (b : Byte) : Option Driver :=
  match b.toNat with
  | 1 => some .one | 2 => some .two
  | _ => none

/-- The values that an ACK_WARNING's answer carries (R175). -/
def ackBody (d : Device) (dr : Driver) : List Byte :=
  let a := d.accounts.get dr
  [byte (driverNumber dr), byte (levelRank a.warnings), byte (warningSet a.warnings), byte (ackCode a.ack)]

/-- ACK_WARNING (R175). -/
def ackWarning (b : Option Byte) (st : Station) (d : Device) : Device :=
  match b with
  | none => refuse st 0x16#8 .badValue d
  | some b =>
    match driverOfByte b with
    | none => refuse st 0x16#8 .badValue d
    | some dr =>
      if tooEarly d.clock.sec (d.accounts.get dr) then refuse st 0x16#8 .tooEarly d
      else
        let d := acknowledge dr d
        answer st 0x16#8 .ok (ackBody d dr) d

end Sys2Proof.Machine
end

