-- ==== Sys2Proof/Machine/ControlRequests.lean ====
section
/-! DEFINITION. Requests under the CONTROL right and the lock role: the schedule tables (R94 to R97), the floor, the
protected set and the lock marks (R58 to R61), and RESTART (R46, R47). -/

namespace Sys2Proof.Machine
open Sys2Proof

/-- Checks 2 and 3 of R37 for a request with a station-level right: the body's length, then the right. -/
def gated (st : Station) (type : Byte) (bodyOk right : Bool) (f : Device → Device) (d : Device) : Device :=
  if !bodyOk then refuse st type .badValue d
  else if !right then refuse st type .noRight d
  else f d

def hasControl (d : Device) (st : Station) : Bool := (d.settings.stations.get st).control
def hasConfigure (d : Device) (st : Station) : Bool := (d.settings.stations.get st).configure

/-! ## Schedule requests (R94 to R97) -/

/-- Checks 4 to 6 of R94 on a run of entries; `i` is the index of the first. -/
def checkEntries (c : Currents) : Nat → List Byte → Except (AnswerCode × Nat) (List LaneSet)
  | _, [] => .ok []
  | i, b :: bs =>
    match laneSetOfByte b with
    | none => .error (.badValue, i)
    | some e =>
      if e.glow && !e.heat then .error (.badValue, i)
      else if entryCurrent c e > c.peak then .error (.peak, i)
      else
        match checkEntries c (i + 1) bs with
        | .ok es => .ok (e :: es)
        | .error x => .error x

/-- A run's body has the length that its count gives (R37, R197). -/
def runFits (r : ScheduleRun) : Bool := r.entries.length == r.count.toNat

/-- SCHEDULE_WRITE after the port's checks (R94). -/
def writeRun (st : Station) (r : ScheduleRun) (d : Device) : Device :=
  match tableOfCode r.table with
  | none => refuse st 0x20#8 .badValue d
  | some t =>
    if t = d.settings.active then refuse st 0x20#8 .activeTable d
    else if r.count.toNat = 0 ∨ r.count.toNat > 16 ∨ r.first.toNat + r.count.toNat > 64 then
      refuse st 0x20#8 .badValue d
    else
      match checkEntries d.settings.currents r.first.toNat r.entries with
      | .error (c, i) => answer st 0x20#8 c [byte i] d
      | .ok es =>
        askWrite (.entries t r.first.toNat es)
          (.answer st 0x20#8 .ok (.bytes [r.table, r.first, r.count])) d

def scheduleWrite (run : Option ScheduleRun) (st : Station) (d : Device) : Device :=
  match run with
  | none => refuse st 0x20#8 .badValue d
  | some r => gated st 0x20#8 (runFits r) (hasControl d st) (writeRun st r) d

/-- SCHEDULE_LENGTH after the port's checks (R95). -/
def writeLength (st : Station) (b : LengthBody) (d : Device) : Device :=
  match tableOfCode b.table with
  | none => refuse st 0x21#8 .badValue d
  | some t =>
    if t = d.settings.active then refuse st 0x21#8 .activeTable d
    else
      let n := applyNat 8 64 b.length.toNat
      askWrite (.length t n.value)
        (.answer st 0x21#8 (okCode n.clamped) (.bytes [byte n.value])) d

def scheduleLength (b : Option LengthBody) (st : Station) (d : Device) : Device :=
  match b with
  | none => refuse st 0x21#8 .badValue d
  | some b => gated st 0x21#8 true (hasControl d st) (writeLength st b) d

/-- SCHEDULE_COPY (R96). -/
def scheduleCopy (bodyOk : Bool) (st : Station) (d : Device) : Device :=
  gated st 0x22#8 bodyOk (hasControl d st)
    (fun d => askWrite (.copy (otherTable d.settings.active)) (.answer st 0x22#8 .ok (.bytes [])) d) d

/-- The two marks that an answer to SCHEDULE_SWAP carries (R97). -/
def swapBody (d : Device) : List Byte := [byte (tableCode d.settings.active), flagByte d.sched.swapPending]

/-- SCHEDULE_SWAP; `cancel` is its flag (R97). -/
def scheduleSwap (cancel bodyOk : Bool) (st : Station) (d : Device) : Device :=
  gated st 0x23#8 bodyOk (hasControl d st)
    (fun d =>
      let d := setSched (fun s => { s with swapPending := !cancel }) d
      answer st 0x23#8 .ok (swapBody d) d) d

/-! ## Floor, protected set, marks (R58 to R61) -/

/-- The floor is locked while both marks are set (R58). -/
def floorLocked (d : Device) : Bool := d.bank.cabMark && d.bank.fleetMark

/-- A refusal for the lock on the floor carries the floor and both marks (R59). -/
def refuseFloor (st : Station) (type : Byte) (d : Device) : Device :=
  answer st type .locked (specBytes d st .floorAndMarks) d

/-- SET_FLOOR after the port's checks (R60). -/
def writeFloor (st : Station) (w : Word16) (d : Device) : Device :=
  let v := applyNat 0 d.settings.capacity w.toNat
  if floorLocked d && decide (v.value < d.settings.floor) then refuseFloor st 0x24#8 d
  else askWrite (.floor v.value) (.answer st 0x24#8 (okCode v.clamped) .floorAndMarks) d

def setFloor (w : Option Word16) (st : Station) (d : Device) : Device :=
  match w with
  | none => refuse st 0x24#8 .badValue d
  | some w => gated st 0x24#8 true (hasControl d st) (writeFloor st w) d

/-- Does a new protected set contain every lane of the present one? -/
def keepsLanes (old new : PerLane Bool) : Bool :=
  (!old.heat || new.heat) && (!old.cool || new.cool) && (!old.aux || new.aux)

/-- SET_PROTECT after the port's checks (R61). -/
def writeProtect (st : Station) (b : Byte) (d : Device) : Device :=
  match laneSetOfByte b with
  | none => refuse st 0x25#8 .badValue d
  | some e =>
    if e.glow then refuse st 0x25#8 .badValue d
    else
      let new : PerLane Bool := ⟨e.heat, e.cool, e.aux⟩
      if floorLocked d && !keepsLanes d.settings.protectedSet new then
        answer st 0x25#8 .locked (specBytes d st .protectAndMarks) d
      else askWrite (.protectedSet new) (.answer st 0x25#8 .ok .protectAndMarks) d

def setProtect (b : Option Byte) (st : Station) (d : Device) : Device :=
  match b with
  | none => refuse st 0x25#8 .badValue d
  | some b => gated st 0x25#8 true (hasControl d st) (writeProtect st b) d

/-- Sets the mark of a lock role (R58). -/
def setMark (r : LockRole) (b : Bank) : Bank :=
  match r with
  | .cab => { b with cabMark := true }
  | .fleet => { b with fleetMark := true }
  | .none => b

/-- LOCK_MARK (R58). -/
def lockMark (bodyOk : Bool) (st : Station) (d : Device) : Device :=
  let role := (d.settings.stations.get st).role
  gated st 0x28#8 bodyOk (role != .none)
    (fun d =>
      let d := { d with bank := setMark role d.bank }
      answer st 0x28#8 .ok [marksByte d] d) d

/-- CLEAR_LOCKOUT: the port's checks, then the sequencer (R130). -/
def requestClear (bodyOk : Bool) (st : Station) (d : Device) : Device :=
  gated st 0x26#8 bodyOk (hasControl d st) (fun d => heaterTake d (.clear st)) d

/-! ## RESTART (R25, R46, R47) -/

/-- The table after a RESTART: every record gone, every freed slot's generation advanced, queue and counter at their
start; the availability map is kept (R25, R46). -/
def clearTable (t : Table) : Table :=
  { t with
    slots := t.slots.map fun s => if s.rcd.isSome then ⟨nextGen s.gen, none⟩ else s
    counter := 0
    queue := [] }

/-- A station's set and flags after a RESTART (R46). -/
def restartStation (p : StationLink) : StationLink :=
  { p with
    entries := []
    flags := if p.link = .online then { Flags.none with restarted := true } else Flags.none
    failure := .none }

/-- Every effective value goes to its load (R22, R47). -/
def pushAll (d : Device) : Device :=
  ([Fn.heater, .fridge, .lamp .c8, .lamp .c9, .lamp .c10, .lamp .c11, .lamp .c12, .lamp .c13, .outlet]).foldl
    (fun d fn => pushValue fn d) d

/-- The effects of a RESTART: the table and the link first, then the other blocks (R46, R47). The loads lose their demand
first, the heater before the fridge, and the budget unit recomputes last (DESIGN CHOICE, log entry 57); its BUDGET test
compares with the state before the position is set to 0 (DESIGN CHOICE, log entry 58). -/
def restartDevice (d : Device) : Device :=
  let d := { d with
    table := clearTable d.table
    link := { d.link with stations := d.link.stations.map restartStation } }
  let d := pushAll d
  let d := endPlan .two none .silent (endPlan .one none .silent d)
  let d := setSched (fun s => { s with swapPending := false }) d
  withBudgetNotice (fun d => recomputeCore (setBudget (fun b => { b with position := 0 }) d)) d

def restart (bodyOk : Bool) (st : Station) (d : Device) : Device :=
  gated st 0x27#8 bodyOk (hasControl d st)
    (fun d => answerAfter d st 0x27#8 .ok (.bytes [byte (records d).length]) (restartDevice d)) d

end Sys2Proof.Machine
end

