-- ==== Sys2Proof/Machine/Configuration.lean ====
section
/-! DEFINITION. CONFIGURE and READ_CONFIG (R192, R201): for each parameter the owning block's clamp or refusal, and
the value in force. -/

namespace Sys2Proof.Machine
open Sys2Proof

/-- CONFIGURE's checks by the port, then `f` (R37). -/
def configure (f : Station → Device → Device) (st : Station) (d : Device) : Device :=
  gated st 0x30#8 true (hasConfigure d st) (f st) d

/-- An accepted CONFIGURE: the value is written, and the answer carries it as applied (R192). -/
def acceptChange (c : Change) (clamped : Bool) (body : List Byte) (st : Station) (d : Device) : Device :=
  askWrite c (.answer st 0x30#8 (okCode clamped) (.bytes body)) d

def badValue (st : Station) (d : Device) : Device := refuse st 0x30#8 .badValue d

/-- A two-byte setting clamped to a range, with nothing else to check. -/
def plainNat (p : Param) (lo hi : Nat) (v : Nat) (enc : Nat → List Byte) (st : Station) (d : Device) : Device :=
  let a := applyNat lo hi v
  acceptChange (.num p a.value) a.clamped (enc a.value) st d

def oneByte (n : Nat) : List Byte := [byte n]

/-! ## Battery (R48, R50, R51, R54, R55) -/

def setCapacity (w : Word16) (st : Station) (d : Device) : Device :=
  let a := applyNat 20 1000 w.toNat
  if floorLocked d && decide (a.value < d.settings.floor) then refuseFloor st 0x30#8 d
  else acceptChange (.num .capacity a.value) a.clamped (be16 a.value) st d

def thresholdRange : Threshold → Nat × Nat
  | .cutoff => (18000, 26000)
  | .low => (19000, 28000)
  | .high => (26000, 32000)

/-- The gaps between neighbouring thresholds (R54). -/
def gapsHold (t : PerThreshold) : Bool :=
  decide (t.low ≥ t.cutoff + Config.thresholdGap) && decide (t.high ≥ t.low + Config.thresholdGap)

def setThreshold (which : Threshold) (w : Word16) (st : Station) (d : Device) : Device :=
  let r := thresholdRange which
  let a := applyNat r.1 r.2 w.toNat
  if gapsHold (d.settings.thresholds.set a.value which) then
    acceptChange (.num (.threshold which) a.value) a.clamped (be16 a.value) st d
  else badValue st d

def scaleRange : SenseScale → Int × Int
  | .voltageGain => (1, 16383)
  | .currentGain => (1, 32767)
  | .zeroOffset => (-256, 255)

/-- The value of a scaling field: the zero offset is signed (R201). -/
def scaleValue (which : SenseScale) (w : Word16) : Int :=
  match which with
  | .zeroOffset => w.toInt
  | _ => w.toNat

def setScale (which : SenseScale) (w : Word16) (st : Station) (d : Device) : Device :=
  let r := scaleRange which
  let a := applyInt r.1 r.2 (scaleValue which w)
  acceptChange (.num (.scale which) a.value) a.clamped (be16i a.value) st d

/-! ## Budget (R89) -/

def shedOrderOf (a b c : Byte) : Option ShedOrder :=
  match laneOfCode a, laneOfCode b, laneOfCode c with
  | some x, some y, some z => if x ≠ y ∧ y ≠ z ∧ x ≠ z then some ⟨x, y, z⟩ else none
  | _, _, _ => none

def setShedOrder (a b c : Byte) (st : Station) (d : Device) : Device :=
  match shedOrderOf a b c with
  | some o => acceptChange (.shedOrder o) false [a, b, c] st d
  | none => badValue st d

/-- The restore margin is a charge, a signed field (R195). -/
def setBudgetField (f : BudgetField) (st : Station) (d : Device) : Device :=
  match f with
  | .horizon v => plainNat .horizon 1 24 v.toNat oneByte st d
  | .margin v =>
    let a := applyInt 0 86400 v.toInt
    acceptChange (.num .margin a.value) a.clamped (be32i a.value) st d

/-! ## Currents (R90, R91) -/

def currentRange : CurrentSetting → Int × Int
  | .rHMin => (0, 3000)
  | .peak => (500, 6000)
  | .lamp _ => (0, 300)
  | .quiescent => (0, 500)
  | _ => (10, 3000)

def setCurrentSetting (which : CurrentSetting) (w : Word16) (st : Station) (d : Device) : Device :=
  if !loadsIdle d then refuse st 0x30#8 .busy d
  else
    let r := currentRange which
    let a := applyInt r.1 r.2 w.toInt
    let c := d.settings.currents.set a.value.toNat which
    if c.rHMin > c.rHeat then badValue st d
    else acceptChange (.num (.current which) a.value) a.clamped (be16i a.value) st (keepIdle d)

/-! ## Rest parameters (R168) -/

def restRange : RestParam → Nat × Nat
  | .ld => (60, 600)
  | .lead => (0, 59)
  | .b => (15, 120)
  | .b1 => (5, 119)
  | .b2 => (5, 120)
  | .dd => (60, 900)
  | .rr => (60, 1440)
  | .rd => (60, 1440)
  | .settle => (0, 300)

def restHolds (p : RestParams) : Bool :=
  decide (p.lead < p.ld) && decide (p.lead < p.dd) && decide (p.b1 < p.b) && decide (p.b2 ≤ p.b) &&
    decide (p.rr ≤ p.rd)

def setRestParam (which : RestParam) (w : Word16) (st : Station) (d : Device) : Device :=
  let r := restRange which
  let a := applyNat r.1 r.2 w.toNat
  if restHolds (d.settings.rest.set a.value which) then
    acceptChange (.num (.rest which) a.value) a.clamped (be16 a.value) st d
  else badValue st d

/-! ## Windows and station levels (R33) -/

/-- Some enabled station keeps the CONFIGURE right. -/
def configureKept (s : PerStation StationSettings) : Bool :=
  Station.all.any fun st => (s.get st).configure && stationEnabled (s.get st)

def windowSizes : List Nat := [1, 2, 4, 8, 16, 32, 64]

/-- A window as sent, its clamps made; `none` for a size that is no power of two from 1 to 64. -/
def windowOfFields (f : WindowFields) : Option (Option Window × Bool) :=
  if !f.present.getLsbD 0 then some (none, false)
  else if windowSizes.contains f.size.toNat then
    let b := applyNat 0 63 f.base.toNat
    let g := applyNat 0 63 f.global.toNat
    some (some ⟨b.value, f.size.toNat, g.value, rightsOfByte f.rights⟩, b.clamped || g.clamped)
  else none

/-- A window's five bytes (R201); an absent window has 0 in each (DESIGN CHOICE, log entry 63). -/
def windowBytes (w : Option Window) : List Byte :=
  match w with
  | some w => [1#8, byte w.base, byte w.size, byte w.global, rightsByte w.rights]
  | none => [0#8, 0#8, 0#8, 0#8, 0#8]

def setWindow (st' : Station) (i : WindowIndex) (f : WindowFields) (st : Station) (d : Device) : Device :=
  match windowOfFields f with
  | none => badValue st d
  | some (w, clamped) =>
    let c := Change.window st' i w
    if configureKept (applyChange c d.settings).stations then acceptChange c clamped (windowBytes w) st d
    else badValue st d

def levelBytes (s : StationSettings) : List Byte :=
  [byte (flagsByte [s.control, s.configure]), byte (roleCode s.role), byte s.quota]

/-- CONFIGURE of a station level: the quota is clamped (R39, R201), and a change that leaves no enabled station with CONFIGURE
is refused (R33). A role code that is none of 0, 1 and 2 is refused BAD_VALUE: neither R33, R195 nor R201 says what it is
answered (DESIGN CHOICE, log entry 86). -/
def setLevel (st' : Station) (f : LevelFields) (st : Station) (d : Device) : Device :=
  match roleOfCode f.role with
  | none => badValue st d
  | some role =>
    let q := applyNat 0 46 f.quota.toNat
    let c := Change.level st' (f.bits.getLsbD 0) (f.bits.getLsbD 1) role q.value
    let s := applyChange c d.settings
    if configureKept s.stations then acceptChange c q.clamped (levelBytes (s.stations.get st')) st d
    else badValue st d

/-! ## READ_CONFIG (R98, R192) -/

def chargeBytes (n : Nat) : List Byte := be32 n

/-- A lane current that a number of R201 names. -/
def currentOfNumber : Nat → Option CurrentSetting
  | 0x18 => some .rHeat | 0x19 => some .rHMin | 0x1A => some .rGlow | 0x1B => some .rCool
  | 0x1C => some .rAux | 0x1D => some .peak
  | 0x1E => some (.lamp .c8) | 0x1F => some (.lamp .c9) | 0x20 => some (.lamp .c10)
  | 0x21 => some (.lamp .c11) | 0x22 => some (.lamp .c12) | 0x23 => some (.lamp .c13)
  | 0x24 => some .quiescent
  | _ => none

def restOfNumber : Nat → Option RestParam
  | 0x30 => some .ld | 0x31 => some .lead | 0x32 => some .b | 0x33 => some .b1 | 0x34 => some .b2
  | 0x35 => some .dd | 0x36 => some .rr | 0x37 => some .rd | 0x38 => some .settle
  | _ => none

def stationOfIndex : Nat → Option Station
  | 0 => some .s1 | 1 => some .s2 | 2 => some .s3 | 3 => some .s4 | 4 => some .s5 | 5 => some .s6
  | _ => none

/-- The station and window (4 for the station level) of a number from 0x40 to 0x5D. -/
def stationOfNumber (n : Nat) : Option (Station × Nat) :=
  if n < 0x40 then none else (stationOfIndex ((n - 0x40) / 5)).map fun st => (st, (n - 0x40) % 5)

def stationBytes (s : StationSettings) : Nat → List Byte
  | 0 => windowBytes s.windows.w0
  | 1 => windowBytes s.windows.w1
  | 2 => windowBytes s.windows.w2
  | 3 => windowBytes s.windows.w3
  | _ => levelBytes s

/-- The value in force of a numbered parameter other than a table; `none` for an unassigned number (R201). -/
def paramBytes (s : Settings) (n : Nat) : Option (List Byte) :=
  match n with
  | 0x01 => some (be16 s.capacity)
  | 0x02 => some (be16 s.fullVoltage)
  | 0x03 => some (be16 s.thresholds.cutoff)
  | 0x04 => some (be16 s.thresholds.low)
  | 0x05 => some (be16 s.thresholds.high)
  | 0x06 => some (oneByte s.debounce.cutoff)
  | 0x07 => some (oneByte s.debounce.low)
  | 0x08 => some (oneByte s.debounce.high)
  | 0x09 => some (be16 s.voltageGain)
  | 0x0A => some (be16 s.currentGain)
  | 0x0B => some (be16i s.zeroOffset)
  | 0x0C => some (be16 s.floor)
  | 0x0D => some [protectByte s.protectedSet]
  | 0x10 => some (s.shedOrder.toList.map fun l => byte (laneCode l))
  | 0x11 => some (oneByte s.horizon)
  | 0x12 => some (chargeBytes s.restoreMargin)
  | 0x28 => some (oneByte s.slotLength)
  | 0x29 => some (oneByte s.deferralLimit)
  | 0x2A => some (oneByte s.fadeRate)
  | 0x60 => some (be16 s.idBase)
  | n =>
    match currentOfNumber n, restOfNumber n, stationOfNumber n with
    | some c, _, _ => some (be16 (s.currents.get c))
    | _, some r, _ => some (be16 (s.rest.get r))
    | _, _, some (st, w) => some (stationBytes (s.stations.get st) w)
    | _, _, _ => none

/-- READ_CONFIG of a parameter (R192). -/
def readParam (number : Option Byte) (st : Station) (d : Device) : Device :=
  match number with
  | none => refuse st 0x31#8 .badValue d
  | some n =>
    gated st 0x31#8 true (hasConfigure d st)
      (fun d =>
        match paramBytes d.settings n.toNat with
        | some bs => answer st 0x31#8 .ok bs d
        | none => refuse st 0x31#8 .badValue d) d

/-- The values that the answer to a table's READ_CONFIG carries: entries, length, and one byte of flags (R98, R195). -/
def tableBytes (d : Device) (t : TableId) (first count : Nat) : List Byte :=
  let tab := d.settings.tables.get t
  (((tab.entries.drop first).take count).map laneSetByte) ++
    [byte tab.length, byte (flagsByte [tab.trimmed, t == d.settings.active, d.sched.swapPending])]

/-- READ_CONFIG of a table (R98). A count of 0 or above 16 is clamped (R39), and the run that may not pass index 63 is that
of the count applied, which the number of entries shows (DEDUCED, log entry 59). -/
def readTableRun (t : TableId) (run : Option TableRun) (st : Station) (d : Device) : Device :=
  match run with
  | none => refuse st 0x31#8 .badValue d
  | some r =>
    gated st 0x31#8 true (hasConfigure d st)
      (fun d =>
        let n := applyNat 1 16 r.count.toNat
        if r.first.toNat + n.value > 64 then refuse st 0x31#8 .badValue d
        else answer st 0x31#8 (okCode n.clamped) (tableBytes d t r.first.toNat n.value) d) d

/-- A CONFIGURE of a number that is unassigned or read-only, or with a value of the wrong size. With no number, or with
an assigned number and a size that is not its own, the body's length is refused before the right is looked at; the
sizes of unassigned and read-only numbers are no layout's (R37, R201). -/
def configureRefused (number : Option Byte) (assigned : Bool) (st : Station) (d : Device) : Device :=
  gated st 0x30#8 (number.isSome && !assigned) (hasConfigure d st) (badValue st) d

/-- The numbers that a CONFIGURE may write. -/
def writable (n : Nat) : Bool :=
  (paramBytes Config.factory n).isSome && n != 0x0C && n != 0x0D

end Sys2Proof.Machine
end

