-- ==== Sys2Proof/Machine/Events.lean ====
section
/-! DEFINITION. The part's own events: battery samples and voltage states (chapter 3), fridge samples (chapter 7), lamp
fades and trips (chapter 8), record and plan timers, the vehicle port (chapter 11), power-on and reset (R193). An event
that falls due by a timer acts only when that timer has run (log entry 9). -/

namespace Sys2Proof.Machine
open Sys2Proof

/-! ## Battery monitor (R48 to R57, R62) -/

def setBank (f : Bank → Bank) (d : Device) : Device := { d with bank := f d.bank }

/-- The bank voltage of a raw code, mV (R48). -/
def voltageOf (s : Settings) (raw : BitVec 12) : Nat := min 32767 (raw.toNat * s.voltageGain / 1024)

/-- The bank current of a raw code, 10 mA units, positive for discharge (R48). -/
def currentOf (s : Settings) (raw : BitVec 12) : Int :=
  clampInt (-30000) 30000 (Int.tdiv ((raw.toInt - s.zeroOffset) * s.currentGain) 1024)

/-- The debounce time of a code, in samples (R55). -/
def debounceTime (code : Nat) : Nat := 10 * 2 ^ code

/-- A debounce timer at a sample: up to its debounce time while the condition is met; a count already past a
shortened time is kept (R55). -/
def debounceStep (c : Bool) (time n : Nat) : Nat := if c then max n (bump time n) else 0

/-- The six timers at a voltage sample (R55). -/
def debounceAll (s : Settings) (v : Nat) (t : Debounce) : Debounce :=
  let th := s.thresholds
  let k := s.debounce
  { belowCutoff := debounceStep (decide (v < th.cutoff)) (debounceTime k.cutoff) t.belowCutoff
    riseCutoff := debounceStep (decide (v ≥ th.cutoff + Config.hysteresis)) (debounceTime k.cutoff) t.riseCutoff
    belowLow := debounceStep (decide (v < th.low)) (debounceTime k.low) t.belowLow
    riseLow := debounceStep (decide (v ≥ th.low + Config.hysteresis)) (debounceTime k.low) t.riseLow
    aboveHigh := debounceStep (decide (v > th.high)) (debounceTime k.high) t.aboveHigh
    fallHigh := debounceStep (decide (v + Config.hysteresis ≤ th.high)) (debounceTime k.high) t.fallHigh }

/-- The conditions of the full-anchor timer (R51). -/
def anchorHolds (d : Device) (v : Nat) (i : Int) : Bool :=
  d.vehicle.running && decide (v ≥ d.settings.fullVoltage) && decide (-200 ≤ i) && decide (i ≤ 0)

/-- The target of the first matured condition that acts in a state (R55, R56). -/
def voltageTarget (s : Settings) (v : VState) (t : Debounce) : Option VState :=
  let k := s.debounce
  let downCut := decide (t.belowCutoff ≥ debounceTime k.cutoff)
  let upCut := decide (t.riseCutoff ≥ debounceTime k.cutoff)
  let downLow := decide (t.belowLow ≥ debounceTime k.low)
  let upLow := decide (t.riseLow ≥ debounceTime k.low)
  let above := decide (t.aboveHigh ≥ debounceTime k.high)
  let fall := decide (t.fallHigh ≥ debounceTime k.high)
  match v with
  | .normal => if downCut then some .cutoff else if downLow then some .low else if above then some .high else none
  | .low => if downCut then some .cutoff else if above then some .high else if upLow then some .normal else none
  | .high => if downCut then some .cutoff else if downLow then some .low else if fall then some .normal else none
  | .cutoff => if upCut then some .low else none

/-- The monitor's part of a sample (R48, R51, R55). The move that the timers call for is settled here, with the codes in
force at the sample, and made by VOLTAGE_STATE_CHANGE (R55, R56). -/
def sampleBank (d : Device) (v : Nat) (i : Int) (b : Bank) : Bank :=
  let timers := debounceAll d.settings v b.timers
  { b with
    timers := timers
    due := voltageTarget d.settings b.vstate timers
    fullAnchor := if anchorHolds d v i then bump Config.fullAnchorSamples b.fullAnchor else 0
    sum := b.sum + i }

/-- A sample instant: voltage and current, and the frame ages (R48, R188). -/
def takeSample (rawV rawI : BitVec 12) (d : Device) : Device :=
  let b := sampleBank d (voltageOf d.settings rawV) (currentOf d.settings rawI) d.bank
  { d with
    bank := b
    vehicle := { d.vehicle with
      engineAge := bump Config.engineAgeLimit d.vehicle.engineAge
      activityAge := bump Config.activityAgeLimit d.vehicle.activityAge }
    leads := { d.leads with rawV := rawV, rawI := rawI } }

/-- Q and R after a second's integration (R49). -/
def integrate (cmax : Nat) (b : Bank) : Bank :=
  let r := b.r + Int.tdiv b.sum 10
  let whole := Int.tdiv r 100
  let q := (b.q : Int) - whole
  if q < 0 then { b with q := 0, r := 0, sum := 0 }
  else if q > (cmax : Int) then { b with q := cmax, r := 0, sum := 0 }
  else { b with q := q.toNat, r := r - 100 * whole, sum := 0 }

/-- Cmax (R50). -/
def fullCharge (d : Device) : Nat := d.settings.capacity * 3600

/-- The full anchor (R51). -/
def fullAnchor (d : Device) : Device :=
  if d.bank.fullAnchor ≥ Config.fullAnchorSamples then
    setBank (fun b => { b with q := fullCharge d, r := 0, uncalibrated := false, fullAnchor := 0 }) d
  else d

/-- The cutoff anchor (R52). -/
def cutoffAnchor (floor : Nat) (b : Bank) : Bank :=
  if b.q > floor * 3600 then { b with q := floor * 3600, r := 0 } else b

/-- A change of voltage state: the cutoff anchor, then budget unit, scheduler and heater in that order (R57). -/
def moveVoltage (v : VState) (d : Device) : Device :=
  let d := setBank (fun b =>
    let b := { b with vstate := v, due := none }
    if v = .cutoff then cutoffAnchor d.settings.floor b else b) d
  sendVoltage v (formPermissions (recompute d))

/-- The move that the last sample called for, at most one (R56). -/
def voltageChange (d : Device) : Device :=
  match d.bank.due with
  | some v => moveVoltage v d
  | none => d

/-- Ten minutes of one engine run clear the marks, once in the run (R62). -/
def marksClear (d : Device) : Device :=
  if d.vehicle.running ∧ d.bank.engineRun ≥ Config.marksClearTime ∧ d.bank.runCleared = false then
    setBank (fun b => { b with cabMark := false, fleetMark := false, runCleared := true }) d
  else d

/-! ## Fridge controller (R136 to R145) -/

def setFridge (f : Fridge → Fridge) (d : Device) : Device := { d with fridge := f d.fridge }

/-- A valid raw temperature: −50.0 to +90.0 °C (R136). -/
def validRaw (raw : Int) : Bool := decide (-100 ≤ raw) && decide (raw ≤ 180)

/-- The thermostat's verdict (R138). -/
def thermostatCall (f : Fridge) : Bool :=
  match f.target, f.reading with
  | some t, some x => if x ≥ t + 2 then true else if x ≤ t - 2 then false else f.call
  | some _, none => f.call
  | none, _ => false

/-- The blind cycle's verdict (R139). -/
def blindCall (f : Fridge) : Bool :=
  f.target.isSome && decide (f.blind % Config.blindCycle < Config.blindWindow)

/-- The call as the flag has it formed (R138, R139). -/
def formCall (f : Fridge) : Fridge :=
  { f with call := if f.fault then blindCall f else thermostatCall f }

/-- What the compressor makes of the call at a sample (R140 to R142). -/
def followCall (d : Device) : Device :=
  let f := d.fridge
  match f.state with
  | .idle =>
    if f.call then
      let d := setFridge (fun f => { f with state := .waiting }) d
      if d.sched.perm.cool then startCompressor d else d
    else d
  | .waiting => if f.call then d else setFridge (fun f => { f with state := .idle }) d
  | .running => if !f.call && decide (f.run ≥ Config.minimumRun) then stopCompressor d else d
  | _ => d

/-- The flag and its counters at a sample (R137). -/
def countFault (ok : Bool) (f : Fridge) : Fridge :=
  if f.fault then
    { f with blind := f.blind + 1, valid := if ok then bump Config.validLimit f.valid else 0 }
  else if ok then f
  else { f with fault := true, blind := 0, valid := 0 }

/-- The blind cycle turns at this sample (R139). -/
def blindTurns (f : Fridge) : Bool :=
  f.fault && (f.blind % Config.blindCycle == 0 || f.blind % Config.blindCycle == Config.blindWindow)

/-- At a turn of the blind cycle the call is not yet what the cycle calls for. -/
def blindMoves (f : Fridge) : Bool := blindTurns f && f.call != blindCall f

def setTurn (b : Bool) (f : Fridge) : Fridge := { f with turn := b }

/-- Sixty consecutive valid samples have been counted (R137). -/
def faultEnds (f : Fridge) : Bool := f.fault && decide (f.valid ≥ Config.validLimit)

/-- A cabinet sample. The sample that clears the flag and the one at which a blind window turns leave the call to
those events (R136 to R139). -/
def fridgeSample (raw : Int) (d : Device) : Device :=
  let d := { d with leads := { d.leads with fridge := raw } }
  let before := d.fridge.fault
  let d := setFridge (fun f =>
    setTurn false (countFault (validRaw raw) { f with reading := some (clampInt (-80) 250 raw) })) d
  if faultEnds d.fridge then d
  else if before && blindMoves d.fridge then setFridge (setTurn true) d
  else followCall (setFridge formCall d)

/-- The flag clears, and the thermostat forms the call from that sample (R137, R139), with the target held when the flag
clears (DESIGN CHOICE, log entry 61). -/
def sensorFaultClear (d : Device) : Device :=
  if faultEnds d.fridge then
    followCall (setFridge (fun f => formCall { f with fault := false, blind := 0, valid := 0 }) d)
  else d

/-- A blind window begins or ends: the call that the sample at the turn has left to it is formed (R139). -/
def blindWindowChange (d : Device) : Device :=
  if d.fridge.turn then followCall (setFridge (fun f => formCall (setTurn false f)) d) else d

/-- The guard ends (R145). -/
def guardEnd (d : Device) : Device :=
  if d.fridge.state = .guard ∧ d.fridge.guard ≥ Config.guardTime then
    if d.fridge.target.isNone then setFridge (fun f => { f with state := .off }) d
    else if d.fridge.call then
      let d := setFridge (fun f => { f with state := .waiting }) d
      if d.sched.perm.cool then startCompressor d else d
    else setFridge (fun f => { f with state := .idle }) d
  else d

/-! ## Lamps (R154, R155) -/

/-- An output level's fade step toward its target; a dark channel counts no trip (R154, R155). -/
def fadeLamp (rate : Nat) (l : Lamp) : Lamp :=
  let goal := l.target * 10
  let out := if l.out < goal then min goal (l.out + rate) else max goal (l.out - rate)
  { l with out := out, trip := if out = 0 then 0 else l.trip }

def fadeStep (d : Device) : Device :=
  { d with lamps := d.lamps.imap fun _ l => fadeLamp d.settings.fadeRate l }

/-- A sense sample of one channel (R155). -/
def senseLamp (trip : Bool) (l : Lamp) : Lamp :=
  if l.out > 0 ∧ l.fault = false then { l with trip := if trip then bump 2 l.trip else 0 } else { l with trip := 0 }

def senseSample (trips : PerChannel Bool) (d : Device) : Device :=
  { d with
    lamps := d.lamps.imap fun c l => senseLamp (trips.get c) l
    leads := { d.leads with trips := trips } }

/-- An over-current: output 0, flag set, target 0, cause raised (R155). -/
def overCurrent (c : Channel) (d : Device) : Device :=
  if (d.lamps.get c).trip ≥ 2 then
    setCauseAndRecompute (.lamp c) (causeChannelFault true)
      (changeLamp c (fun l => { l with out := 0, fault := true, trip := 0 }) d)
  else d

/-! ## Record timers (R11, R16, R17) -/

def reached (now : Nat) (t : Option Nat) : Bool :=
  match t with
  | some t => decide (t ≤ now)
  | none => false

/-- A SCHEDULED record's start time has come. -/
def startDue (now : Nat) (r : Record) : Bool := r.state == .scheduled && reached now r.start

/-- The end time of a record that is not SCHEDULED has come. -/
def endDue (now : Nat) (r : Record) : Bool := r.state != .scheduled && reached now r.endAt

/-- The deadline of a DEFERRED record has come. -/
def deadlineDue (now : Nat) (r : Record) : Bool := r.state == .deferred && reached now r.deadline

/-- Acts on a record that a timer names, where that timer has come. -/
def onDue (test : Nat → Record → Bool) (h : Handle) (f : Device → Device) (d : Device) : Device :=
  match lookup d h with
  | some r => if test d.clock.sec r then f d else d
  | none => d

/-! ## Rest accounts and plans -/

/-- A dash repeat is due (R173). -/
def dashRepeatDue (now : Nat) (a : Account) : Bool :=
  a.subject && (match a.lastDash with
    | some t => decide (t + Config.dashRepeat ≤ now)
    | none => false)

/-- A dash sounding has run its 5 s, counted from the start of the onset second (R173; DESIGN CHOICE, log entry 79). -/
def dashEndDue (now : Nat) (a : Account) : Bool :=
  a.sounding && (match a.lastDash with
    | some t => decide (t + Config.dashSounding ≤ now)
    | none => true)

/-- A bunk sounding has run its time, counted so too (R174; log entry 79). -/
def bunkEndDue (now : Nat) (a : Account) : Bool := reached now a.bunkUntil

/-- The end of a second for the accounts: accrual of both drivers, then the timers (R162, R164, R165). -/
def accrueBoth (d : Device) : Device :=
  let d := accrue .two (accrue .one d)
  let settle := d.settings.rest.settle
  setAccount .two (advanceTimers settle) (setAccount .one (advanceTimers settle) d)

/-- The unknown timer, at 601, sets the incomplete flag (R164). -/
def incompleteSet (a : Account) : Account :=
  if a.unknownTimer ≥ Config.unknownLimit then { a with incomplete := true } else a

def dashRepeat (dr : Driver) (d : Device) : Device :=
  setAccount dr (fun a => if dashRepeatDue d.clock.sec a then dashOnset d.clock.sec a else a) d

def dashEnd (dr : Driver) (d : Device) : Device :=
  setAccount dr (fun a => if dashEndDue d.clock.sec a then { a with sounding := false } else a) d

def bunkEnd (dr : Driver) (d : Device) : Device :=
  setAccount dr (fun a => if bunkEndDue d.clock.sec a then { a with bunkUntil := none } else a) d

/-- An ACTIVE plan has reached end − lead × 60 (R180). -/
def wakingDue (d : Device) (dr : Driver) : Bool :=
  match livePlan d dr with
  | some (_, _, p) => p.sub == .active && leadReached d.clock.sec p
  | none => false

/-- A WAKING plan has reached its end (R180). -/
def dueDue (d : Device) (dr : Driver) : Bool :=
  match livePlan d dr with
  | some (_, _, p) => p.sub == .waking && endReached d.clock.sec p
  | none => false

/-- A DUE plan has stood for 30 min (R183). -/
def unansweredDue (d : Device) (dr : Driver) : Bool :=
  match livePlan d dr with
  | some (_, _, p) => p.sub == .due && decide ((d.plans.get dr).dueTimer ≥ Config.dueLimit)
  | none => false

/-- A call's next onset is due (R183). -/
def callDue (d : Device) (dr : Driver) : Bool :=
  (d.plans.get dr).call == .calling && decide ((d.plans.get dr).nextCall ≤ d.clock.sec)

/-- The ramp level of the second is handed while a ramp rises or holds (R182). -/
def rampTick (dr : Driver) (d : Device) : Device :=
  match (d.plans.get dr).ramp, livePlan d dr with
  | .none, _ => d
  | _, some (_, _, p) =>
    match p.light with
    | some w => handRamp dr p w d
    | none => d
  | _, none => d

/-! ## Vehicle port (R188 to R190, R199) -/

def setVehicle (f : Vehicle → Vehicle) (d : Device) : Device := { d with vehicle := f d.vehicle }

def identifier (d : Device) (offset : Nat) : CanId := BitVec.ofNat 11 (d.settings.idBase + offset)

/-- The engine state is handed on where it changes: the engine-run timer is 0, a new run starts the full-anchor timer from
0, and the budget unit recomputes (R51, R190). -/
def engineBecomes (run : Bool) (d : Device) : Device :=
  if d.vehicle.running = run then d
  else
    recompute (setBank (fun b => { b with
      engineRun := 0
      runCleared := false
      fullAnchor := if run then 0 else b.fullAnchor })
      (setVehicle (fun v => { v with running := run }) d))

/-- A frame that the port receives at one of its identifiers with enough data (R188). -/
def accepts (d : Device) (offset least : Nat) (id : CanId) (data : List Byte) : Bool :=
  !d.vehicle.busOff && id == identifier d offset && decide (data.length ≥ least)

/-- ENGINE_STATE (R188, R199). -/
def engineFrame (id : CanId) (data : List Byte) (d : Device) : Device :=
  if accepts d 0 1 id data then
    engineBecomes ((data.getD 0 0#8).getLsbD 0) (setVehicle (fun v => { v with engineAge := 0 }) d)
  else d

/-- The engine frame has been missing for 1 s (R188). -/
def engineLost (d : Device) : Device :=
  if d.vehicle.engineAge ≥ Config.engineAgeLimit then engineBecomes false d else d

/-- DRIVER_ACTIVITY (R188, R199). -/
def activityFrame (id : CanId) (data : List Byte) (d : Device) : Device :=
  if accepts d 1 2 id data then
    let d := setVehicle (fun v => { v with activityAge := 0, lostHanded := false }) d
    report .two (activityOfCode (data.getD 1 0#8)) (report .one (activityOfCode (data.getD 0 0#8)) d)
  else d

/-- The activity frame has been missing for 3 s (R188). -/
def activityLost (d : Device) : Device :=
  if d.vehicle.activityAge ≥ Config.activityAgeLimit ∧ d.vehicle.lostHanded = false then
    report .two .unknown (report .one .unknown (setVehicle (fun v => { v with lostHanded := true }) d))
  else d

/-- The data of a CAB_STATUS frame of the present state (R189, R199). -/
def cabStatusFrame (d : Device) : List Byte :=
  [byte (modeCode d.budget.mode)] ++ (be16 d.budget.proj.tmin ++
    [byte (levelRank d.accounts.one.warnings), byte (levelRank d.accounts.two.warnings),
      byte (heaterCode d.heater.state)])

/-- At the end of a second the frame is built, at the identifier base plus 2, and waits for the bus; in bus-off it is
discarded (R188, R189; log entry 54). -/
def buildStatus (d : Device) : Device :=
  setVehicle (fun v =>
    if v.busOff then v else { v with waiting := some ⟨identifier d 2, cabStatusFrame d⟩ }) d

def txSuccess (v : Vehicle) : Vehicle :=
  if v.waiting.isSome ∧ v.busOff = false then { v with waiting := none, txErrors := v.txErrors - 1 } else v

def txError (v : Vehicle) : Vehicle :=
  if v.waiting.isSome ∧ v.busOff = false then
    let n := v.txErrors + 8
    if n ≥ Config.busOffCount then { v with txErrors := n, busOff := true, busOffTicks := 0, waiting := none }
    else { v with txErrors := n }
  else v

/-- One second of bus-off has run (R189). -/
def rejoinDue (v : Vehicle) : Bool := v.busOff && decide (v.busOffTicks ≥ Config.rejoinTicks)

def rejoin (v : Vehicle) : Vehicle :=
  if rejoinDue v then { v with busOff := false, txErrors := 0, busOffTicks := 0 } else v

/-! ## Power-on and reset (R191, R193) -/

/-- The check of both images at power-on; an image keeps failing once a write to it was cut short. -/
def checkImages (okA okB : Bool) (s : Store) : Store :=
  { s with
    a := { s.a with valid := s.a.valid && okA }
    b := { s.b with valid := s.b.valid && okB }
    jobs := []
    writing := none
    ticks := 0 }

/-- Power-on (R193): the store loads, the blocks start, the budget unit recomputes, and slot 0 opens with the
permissions of R102. Its glow-start permission is formed as at a slot boundary (R105; DESIGN CHOICE, log entry 81). -/
def powerUp (okA okB : Bool) (d : Device) : Device :=
  let s := checkImages okA okB d.store
  let c := (loadContent s).getD Config.factory
  let d := startDevice c { s with defaulted := (loadContent s).isNone } d.leads
  let d := startHeaterFrom (rebuildLadder d)
  openSlot (recompute d)

/-- Reset ends every operation where it stands: writes asked for are lost, and an image being written stays incomplete
(R191, R193). -/
def enterReset (d : Device) : Device :=
  { d with
    inReset := true
    store := { d.store with jobs := [], writing := none, ticks := 0 }
    link := { d.link with phase := .ready, ticks := 0, pollFrame := [], answerFrame := [], heldAnswer := none } }

end Sys2Proof.Machine
end

