-- ==== Sys2Proof/Machine/Outputs.lean ====
section
/-! DEFINITION. The leads that the part drives, as functions of its state (R112, R109, R135, R148, R173, R174); in reset
they are held off (R193). -/

namespace Sys2Proof.Machine
open Sys2Proof

/-- A bus lead: quiet (LK_DE off, VP_TX recessive), or live for the frames that the part sends (log entry 55). -/
inductive BusLead where
  | quiet | live
deriving DecidableEq, Repr

/-- The output leads. The pump is in tenths of a hertz, the fan in percent, a lamp's duty in tenths of a percent. -/
structure OutputLeads where
  htGlow : Bool
  htPump : Nat
  htFan : Nat
  frRun : Bool
  axSw : Bool
  lamps : PerChannel Nat
  bzDash : Bool
  bzBunk : Bool
  lkDe : BusLead
  vpTx : BusLead
deriving DecidableEq, Repr

/-- The pump's pulse rate by state and step (R112). -/
def pumpRate (h : Heater) : Nat :=
  if !h.fuel then 0
  else
    match h.state, h.step with
    | .ignite, _ => 10
    | .run, 1 => 10
    | .run, 2 => 18
    | .run, 3 => 26
    | .run, 4 => 34
    | _, _ => 0

/-- The fan's speed by state and step (R112); in IGNITE it starts with the fuel (R119). -/
def fanSpeed (h : Heater) : Nat :=
  match h.state, h.step with
  | .ignite, _ => if h.fuel then 30 else 0
  | .run, 1 => 40
  | .run, 2 => 60
  | .run, 3 => 80
  | .run, 4 => 100
  | .purge, _ => 100
  | _, _ => 0

/-- A driver's dash sounding runs while the driver is a subject (R173). -/
def dashOn (a : Account) : Bool := a.sounding && a.subject

def outputs (d : Device) : OutputLeads :=
  if d.inReset then
    { htGlow := false, htPump := 0, htFan := 0, frRun := false, axSw := false
      lamps := ⟨0, 0, 0, 0, 0, 0⟩, bzDash := false, bzBunk := false
      lkDe := .quiet, vpTx := .quiet }
  else
    { htGlow := d.heater.plug
      htPump := pumpRate d.heater
      htFan := fanSpeed d.heater
      frRun := d.fridge.state == .running
      axSw := d.sched.outletClosed
      lamps := d.lamps.imap fun _ l => l.out
      bzDash := dashOn d.accounts.one || dashOn d.accounts.two
      bzBunk := d.accounts.one.bunkUntil.isSome || d.accounts.two.bunkUntil.isSome
      lkDe := .live
      vpTx := if d.vehicle.busOff then .quiet else .live }

/-- The rated currents of the heavy loads that draw: HEAT above step 1, GLOW with the plug on, COOL with the compressor,
AUX with the outlet closed (R90, R106). -/
def drawn (d : Device) : Nat :=
  let c := d.settings.currents
  (if d.heater.step > 1 then c.rHeat else 0) + (if d.heater.plug then c.rGlow else 0) +
    (if d.fridge.state = .running then c.rCool else 0) + (if d.sched.outletClosed then c.rAux else 0)

end Sys2Proof.Machine
end

