-- ==== Sys2Proof/Machine/Tick.lean ====
section
/-! DEFINITION. The part's clock, as the step on an empty queue (log entry 10): the events of an instant of 10 ms join
the queue in a fixed order, then the events that have fallen due, and then the clock goes on to the next instant. -/

namespace Sys2Proof.Machine
open Sys2Proof

def when (c : Bool) (i : Instr) : List Instr := if c then [i] else []

/-! ## Events of an instant -/

/-- The end of the last second (R49, R165, R189). -/
def secondEnd (d : Device) : List Instr :=
  if d.clock.cs = 0 ∧ d.clock.sec > 0 then [.chargeIntegration, .accrual, .cabStatus] else []

/-- A 100 ms sample instant (R48, R154). -/
def sampleInstant (d : Device) : List Instr :=
  if d.clock.cs % 10 = 0 then [.batterySample d.leads.rawV d.leads.rawI, .lampFadeStep] else []

/-- The readings of a second (R113, R136, R182). -/
def secondReadings (d : Device) : List Instr :=
  if d.clock.cs = 0 then
    [.heaterReading d.leads.cab d.leads.hx, .fridgeSample d.leads.fridge] ++
      (when (d.plans.one.ramp != .none) (.rampLevelTick .one) ++
        when (d.plans.two.ramp != .none) (.rampLevelTick .two))
  else []

/-- Some channel is lit, so that the sense inputs are sampled (R155). At an instant with a fade step the outputs read are those
before the step (DESIGN CHOICE, log entry 75). -/
def anyLit (d : Device) : Bool :=
  let p := d.lamps
  decide (p.c8.out + p.c9.out + p.c10.out + p.c11.out + p.c12.out + p.c13.out > 0)

/-- The events of the present instant. Whether the sense inputs are sampled at it is decided by the outputs before its fade
step, while the sample comes after the step: a channel that the step lights first is sampled at this instant where another
was lit already, and else 10 ms later (R155, R156; DESIGN CHOICE, log entry 75). -/
def instantEvents (d : Device) : List Instr :=
  secondEnd d ++ (sampleInstant d ++ (secondReadings d ++
    when (anyLit d) (.lampSenseSample d.leads.trips)))

/-! ## Events that have fallen due -/

def recordEvents (d : Device) : List Instr :=
  (records d).flatMap fun hr =>
    when (startDue d.clock.sec hr.2) (.recordStart hr.1) ++
      (when (deadlineDue d.clock.sec hr.2) (.deferExpired hr.1) ++
        when (endDue d.clock.sec hr.2) (.recordEnd hr.1))

def bankEvents (d : Device) : List Instr :=
  when (decide (d.bank.fullAnchor ≥ Config.fullAnchorSamples)) .fullAnchor ++
    (when d.bank.due.isSome .voltageStateChange ++
      when (d.vehicle.running && decide (d.bank.engineRun ≥ Config.marksClearTime) && !d.bank.runCleared) .marksClear)

def vehicleEvents (d : Device) : List Instr :=
  when (d.vehicle.running && decide (d.vehicle.engineAge ≥ Config.engineAgeLimit)) .engineFrameLost ++
    (when (decide (d.vehicle.activityAge ≥ Config.activityAgeLimit) && !d.vehicle.lostHanded) .activityFrameLost ++
      when (rejoinDue d.vehicle) .busOffRejoin)

/-- A candidate that settled at the end of the last second is effective from that moment (R162): it is taken before
everything that the second's first sample brings, the loss of the activity frame included, and before the unknown timer
(log entry 49). -/
def settleEvents (d : Device) (dr : Driver) : List Instr :=
  let a := d.accounts.get dr
  when (a.settled && a.candidate.isSome) (.activitySettled dr)

def driverEvents (d : Device) (dr : Driver) : List Instr :=
  let a := d.accounts.get dr
  (when (decide (a.unknownTimer ≥ Config.unknownLimit) && !a.incomplete) (.incompleteSet dr) ++
  (when (dashEndDue d.clock.sec a) (.dashSoundingEnd dr) ++
  (when (dashRepeatDue d.clock.sec a) (.dashRepeatOnset dr) ++
  (when (bunkEndDue d.clock.sec a) (.bunkSoundingEnd dr) ++
  (when (wakingDue d dr) (.planWaking dr) ++
  (when (dueDue d dr) (.planDue dr) ++
  (when (unansweredDue d dr) (.wakeUnanswered dr) ++
    when (callDue d dr) (.bunkCallOnset dr))))))))

/-- A slot has run its time (R99). -/
def slotDue (d : Device) : Bool := !d.sched.waiting && decide (d.sched.slotTime ≥ d.sched.slotLength)

/-- The sequencer's matured timers; none while it waits for a write. -/
def heaterEvents (d : Device) : List Instr :=
  let h := d.heater
  if h.waiting then []
  else
    match h.state with
    | .waitGlow => when (decide (h.glowFrames ≥ Config.glowFrameLimit)) .glowWaitFailed
    | .preglow => when (decide (h.stage ≥ Config.preglowTime)) .preglowEnd
    | .ignite =>
      when (decide (h.overTimer ≥ Config.overheatReadings)) .overheat ++
        when (decide (h.stage ≥ Config.igniteTime)) .noFlame
    | .run =>
      when (decide (h.overTimer ≥ Config.overheatReadings)) .overheat ++
      (when (decide (h.lossTimer ≥ Config.flameLossReadings)) .flameLoss ++
      (when (decide (h.pauseTimer ≥ Config.pauseReadings)) .pauseEntry ++
      (when (decide (h.runTimer ≥ Config.runProvedTime) && decide (h.attempts > 0)) .runProved ++
        when (h.stepDue && h.step != goalStep d) .stepChange)))
    | .purge =>
      when (decide (h.stage ≥ Config.purgeMinimum) && isCool h) .purgeEnd ++
        when (decide (h.stage ≥ Config.purgeMaximum) && isHot h) .purgeHot
    | _ => []

def fridgeEvents (d : Device) : List Instr :=
  when (faultEnds d.fridge) .sensorFaultClear ++
    (when d.fridge.turn .blindWindowChange ++
      when (d.fridge.state == .guard && decide (d.fridge.guard ≥ Config.guardTime)) .guardEnd)

def lampEvents (d : Device) : List Instr :=
  Channel.all.flatMap fun c => when (decide ((d.lamps.get c).trip ≥ 2)) (.overCurrent c)

/-- The link: a poll when the port is ready, a missed poll when the reply window has run out, the pause's end; and the
end of a store write. The model's clock gives each of them whole instants of 10 ms (log entry 11). -/
def linkEvents (d : Device) : List Instr :=
  (match d.link.phase with
    | .ready => [.pollSend]
    | .awaiting _ _ => when (decide (d.link.ticks ≥ 2)) .pollMissed
    | .pausing => when (decide (d.link.ticks ≥ 1)) .cyclePauseEnd
    | .serving _ => []) ++
  when (d.store.writing.isSome && decide (d.store.ticks ≥ 1)) .storeWriteComplete

def dueEvents (d : Device) : List Instr :=
  settleEvents d .one ++ (settleEvents d .two ++ (bankEvents d ++ (vehicleEvents d ++ (driverEvents d .one ++
    (driverEvents d .two ++ (recordEvents d ++ (when (slotDue d) (.slotBoundary false false) ++ (heaterEvents d ++
      (fridgeEvents d ++ (lampEvents d ++ linkEvents d))))))))))

/-! ## The clock -/

/-- A frame boundary waits, for its own write or behind a change of a current (R101, log entry 52). -/
def boundaryWaits (d : Device) : Bool :=
  d.sched.owed.isSome || d.store.jobs.any fun j =>
    match j.cont with
    | .boundary _ _ => true
    | _ => false

/-- What a second adds to the timers that count cab clock seconds (R62, R99, R111, R135, R177). The compressor's guard and
run timers keep their last value outside GUARD and RUNNING (DESIGN CHOICE, log entry 60), and the heater's step hold and
run timers theirs outside RUN (DESIGN CHOICE, log entry 69). Each turn of the clock counts as one second, so the rest of
the second in which a timer starts counts as a whole one, the engine-run timer's too (DESIGN CHOICE, log entry 83). -/
def countSecond (d : Device) : Device :=
  let h := d.heater
  let run := h.state == .run
  let due := fun (dr : Driver) (u : PlanUnit) =>
    match livePlan d dr with
    | some (_, _, p) => if p.sub = .due then { u with dueTimer := bump Config.dueLimit u.dueTimer } else u
    | none => u
  { d with
    heater := { h with
      stage := if h.state = .preglow ∧ h.plug = false then h.stage else h.stage + 1
      hold := if run then h.hold + 1 else h.hold
      runTimer := if run then h.runTimer + 1 else h.runTimer }
    fridge := { d.fridge with
      guard := if d.fridge.state = .guard then bump Config.guardTime d.fridge.guard else d.fridge.guard
      run := if d.fridge.state = .running then d.fridge.run + 1 else d.fridge.run }
    bank := { d.bank with engineRun := if d.vehicle.running then d.bank.engineRun + 1 else 0 }
    plans := ⟨due .one d.plans.one, due .two d.plans.two⟩
    sched := { d.sched with slotTime := if boundaryWaits d then d.sched.slotTime else d.sched.slotTime + 1 } }

/-- The clock reaches the next instant of 10 ms. -/
def advanceClock (d : Device) : Device :=
  let turn := decide (d.clock.cs + 1 ≥ 100)
  let d := if turn then countSecond d else d
  { d with
    clock := if turn then ⟨d.clock.sec + 1, 0, false⟩ else ⟨d.clock.sec, d.clock.cs + 1, false⟩
    link := { d.link with ticks := d.link.ticks + 1 }
    store := { d.store with ticks := if d.store.writing.isSome then d.store.ticks + 1 else 0 }
    vehicle := { d.vehicle with busOffTicks := if d.vehicle.busOff then d.vehicle.busOffTicks + 1 else 0 } }

/-- The step on an empty queue: in reset nothing; else the instant's events, those fallen due, or the next instant. -/
def tick (s : State) : State :=
  if s.dev.inReset then s
  else if !s.dev.clock.begun then
    { dev := { s.dev with clock := { s.dev.clock with begun := true } }, pending := instantEvents s.dev }
  else
    match dueEvents s.dev with
    | [] => { s with dev := advanceClock s.dev }
    | e :: es => { s with pending := e :: es }

end Sys2Proof.Machine
end

