-- ==== Sys2Proof/Machine/Cabinet.lean ====
section
/-! DEFINITION. Meanings: Events of the fridge controller (chapter 7). -/

namespace Sys2Proof.Machine
open Sys2Proof

/-- A cabinet sample (R136 to R142). -/
def execFridgeSample (raw : Int) (s : State) : Host.Outcome State Fault Refusal :=
  onPart (fridgeSample raw) s

/-- The sixtieth valid sample clears the sensor fault (R137). -/
def execSensorFaultClear (s : State) : Host.Outcome State Fault Refusal :=
  onPart sensorFaultClear s

/-- A blind window begins or ends (R139). -/
def execBlindWindowChange (s : State) : Host.Outcome State Fault Refusal :=
  onPart blindWindowChange s

/-- The compressor guard has run 180 s (R145). -/
def execGuardEnd (s : State) : Host.Outcome State Fault Refusal :=
  onPart guardEnd s

end Sys2Proof.Machine
end

