-- ==== Sys2Proof/Machine/Configure.lean ====
section
/-! DEFINITION. Meanings: CONFIGURE and READ_CONFIG (R192, R201). -/

namespace Sys2Proof.Machine
open Sys2Proof

/-- CONFIGURE of the capacity (R50). -/
def execConfigureCapacity (v : Word16) (s : State) : Host.Outcome State Fault Refusal :=
  onPart (serve (configure (setCapacity v))) s

/-- CONFIGURE of the full voltage, 24,000 to 32,000 mV (R51). -/
def execConfigureFullVoltage (v : Word16) (s : State) : Host.Outcome State Fault Refusal :=
  onPart (serve (configure (plainNat .fullVoltage 24000 32000 v.toNat be16))) s

/-- CONFIGURE of a voltage threshold (R54). -/
def execConfigureThreshold (which : Threshold) (v : Word16) (s : State) : Host.Outcome State Fault Refusal :=
  onPart (serve (configure (setThreshold which v))) s

/-- CONFIGURE of a debounce code, 0 to 7 (R55). -/
def execConfigureDebounce (which : Threshold) (v : Byte) (s : State) : Host.Outcome State Fault Refusal :=
  onPart (serve (configure (plainNat (.debounce which) 0 7 v.toNat oneByte))) s

/-- CONFIGURE of a gain or the zero offset (R48). -/
def execConfigureSenseScaling (which : SenseScale) (v : Word16) (s : State) : Host.Outcome State Fault Refusal :=
  onPart (serve (configure (setScale which v))) s

/-- CONFIGURE of the shed order (R89). -/
def execConfigureShedOrder (first second third : Byte) (s : State) : Host.Outcome State Fault Refusal :=
  onPart (serve (configure (setShedOrder first second third))) s

/-- CONFIGURE of the default horizon or the restore margin (R89). -/
def execConfigureBudgetSetting (field : BudgetField) (s : State) : Host.Outcome State Fault Refusal :=
  onPart (serve (configure (setBudgetField field))) s

/-- CONFIGURE of a setting of R90, accepted while the loads are idle (R91). -/
def execConfigureCurrents (which : CurrentSetting) (v : Word16) (s : State) : Host.Outcome State Fault Refusal :=
  onPart (serve (configure (setCurrentSetting which v))) s

/-- CONFIGURE of the slot length, 5 to 60 s (R100). -/
def execConfigureSlotLength (v : Byte) (s : State) : Host.Outcome State Fault Refusal :=
  onPart (serve (configure (plainNat .slotLength 5 60 v.toNat oneByte))) s

/-- CONFIGURE of the default deferral limit, 1 to 240 min (R5). -/
def execConfigureDeferralLimit (v : Byte) (s : State) : Host.Outcome State Fault Refusal :=
  onPart (serve (configure (plainNat .deferralLimit 1 240 v.toNat oneByte))) s

/-- CONFIGURE of the fade rate, 1 to 100 %/s (R154). -/
def execConfigureFadeRate (v : Byte) (s : State) : Host.Outcome State Fault Refusal :=
  onPart (serve (configure (plainNat .fadeRate 1 100 v.toNat oneByte))) s

/-- CONFIGURE of a rest rule parameter (R168). -/
def execConfigureRestParameter (which : RestParam) (v : Word16) (s : State) : Host.Outcome State Fault Refusal :=
  onPart (serve (configure (setRestParam which v))) s

/-- CONFIGURE of one window of a station (R33). -/
def execConfigureWindow (station : Station) (index : WindowIndex) (fields : WindowFields)
    (s : State) : Host.Outcome State Fault Refusal :=
  onPart (serve (configure (setWindow station index fields))) s

/-- CONFIGURE of a station's level settings (R33). -/
def execConfigureStationLevel (station : Station) (fields : LevelFields)
    (s : State) : Host.Outcome State Fault Refusal :=
  onPart (serve (configure (setLevel station fields))) s

/-- CONFIGURE of the identifier base, 0 to 2,044 (R188). -/
def execConfigureIdentifierBase (v : Word16) (s : State) : Host.Outcome State Fault Refusal :=
  onPart (serve (configure (plainNat .idBase 0 2044 v.toNat be16))) s

/-- CONFIGURE of an unassigned or read-only number, or of a wrong size (R201). -/
def execConfigureUnknown (number : Option Byte) (_size : Nat) (s : State) : Host.Outcome State Fault Refusal :=
  onPart (serve (configureRefused number ((number.map fun n => writable n.toNat).getD false))) s

/-- READ_CONFIG of a parameter (R192). -/
def execReadConfig (number : Option Byte) (s : State) : Host.Outcome State Fault Refusal :=
  onPart (serve (readParam number)) s

/-- READ_CONFIG of a table (R98). -/
def execReadTable (table : TableId) (run : Option TableRun) (s : State) : Host.Outcome State Fault Refusal :=
  onPart (serve (readTableRun table run)) s

end Sys2Proof.Machine
end

