-- ==== Sys2Proof/Machine/Control.lean ====
section
/-! DEFINITION. Meanings: Requests under the CONTROL right or the lock role (R46, R58 to R61, R94 to R97, R130). -/

namespace Sys2Proof.Machine
open Sys2Proof

/-- SCHEDULE_WRITE (R94). -/
def execScheduleWrite (run : Option ScheduleRun) (s : State) : Host.Outcome State Fault Refusal :=
  onPart (serve (scheduleWrite run)) s

/-- SCHEDULE_LENGTH (R95). -/
def execScheduleLength (body : Option LengthBody) (s : State) : Host.Outcome State Fault Refusal :=
  onPart (serve (scheduleLength body)) s

/-- SCHEDULE_COPY (R96). -/
def execScheduleCopy (bodyOk : Bool) (s : State) : Host.Outcome State Fault Refusal :=
  onPart (serve (scheduleCopy bodyOk)) s

/-- SCHEDULE_SWAP with the cancel flag clear (R97). -/
def execScheduleSwap (bodyOk : Bool) (s : State) : Host.Outcome State Fault Refusal :=
  onPart (serve (scheduleSwap false bodyOk)) s

/-- SCHEDULE_SWAP with the cancel flag set (R97). -/
def execScheduleSwapCancel (s : State) : Host.Outcome State Fault Refusal :=
  onPart (serve (scheduleSwap true true)) s

/-- SET_FLOOR (R60). -/
def execSetFloor (floor : Option Word16) (s : State) : Host.Outcome State Fault Refusal :=
  onPart (serve (setFloor floor)) s

/-- SET_PROTECT (R61). -/
def execSetProtect (lanes : Option Byte) (s : State) : Host.Outcome State Fault Refusal :=
  onPart (serve (setProtect lanes)) s

/-- LOCK_MARK (R58). -/
def execLockMark (bodyOk : Bool) (s : State) : Host.Outcome State Fault Refusal :=
  onPart (serve (lockMark bodyOk)) s

/-- CLEAR_LOCKOUT (R130). -/
def execClearLockout (bodyOk : Bool) (s : State) : Host.Outcome State Fault Refusal :=
  onPart (serve (requestClear bodyOk)) s

/-- RESTART (R46, R47). -/
def execRestart (bodyOk : Bool) (s : State) : Host.Outcome State Fault Refusal :=
  onPart (serve (restart bodyOk)) s

end Sys2Proof.Machine
end

