-- ==== Sys2Proof/Machine/HeaterEvents.lean ====
section
/-! DEFINITION. Meanings: Events of the heater sequencer (chapter 6). -/

namespace Sys2Proof.Machine
open Sys2Proof

/-- The cab air and exchanger readings of a second (R113). -/
def execHeaterReading (cab hx : Int) (s : State) : Host.Outcome State Fault Refusal :=
  onPart (fun d => heaterTake { d with leads := { d.leads with cab := cab, hx := hx } } (.reading cab hx)) s

/-- The second counted frame boundary without a glow slot (R117). -/
def execGlowWaitFailed (s : State) : Host.Outcome State Fault Refusal :=
  onPart (fun d => heaterTake d (.timer .glowWaitFailed)) s

/-- PREGLOW has run 40 s (R118, R119). -/
def execPreglowEnd (s : State) : Host.Outcome State Fault Refusal :=
  onPart (fun d => heaterTake d (.timer .preglowEnd)) s

/-- IGNITE has run 90 s without flame proof (R120). -/
def execNoFlame (s : State) : Host.Outcome State Fault Refusal :=
  onPart (fun d => heaterTake d (.timer .noFlame)) s

/-- The power step moves one step toward its target (R121). -/
def execStepChange (s : State) : Host.Outcome State Fault Refusal :=
  onPart (fun d => heaterTake d (.timer .stepChange)) s

/-- The pause timer has reached 300 readings (R122). -/
def execPauseEntry (s : State) : Host.Outcome State Fault Refusal :=
  onPart (fun d => heaterTake d (.timer .pauseEntry)) s

/-- The flame-loss timer has reached 10 readings (R123). -/
def execFlameLoss (s : State) : Host.Outcome State Fault Refusal :=
  onPart (fun d => heaterTake d (.timer .flameLoss)) s

/-- The overheat timer has reached 2 readings (R124). -/
def execOverheat (s : State) : Host.Outcome State Fault Refusal :=
  onPart (fun d => heaterTake d (.timer .overheat)) s

/-- The run timer has reached 600 s (R125). -/
def execRunProved (s : State) : Host.Outcome State Fault Refusal :=
  onPart (fun d => heaterTake d (.timer .runProved)) s

/-- A purge of at least 120 s has cooled the exchanger (R126, R127). -/
def execPurgeEnd (s : State) : Host.Outcome State Fault Refusal :=
  onPart (fun d => heaterTake d (.timer .purgeEnd)) s

/-- A purge has run 300 s with the exchanger hot (R126). -/
def execPurgeHot (s : State) : Host.Outcome State Fault Refusal :=
  onPart (fun d => heaterTake d (.timer .purgeHot)) s

end Sys2Proof.Machine
end

