-- ==== Sys2Proof/Machine/Lighting.lean ====
section
/-! DEFINITION. Meanings: Events of the lamp controller (chapter 8). -/

namespace Sys2Proof.Machine
open Sys2Proof

/-- A fade step of every channel (R154). -/
def execLampFadeStep (s : State) : Host.Outcome State Fault Refusal :=
  onPart fadeStep s

/-- A sense sample of every channel (R155). -/
def execLampSenseSample (trips : PerChannel Bool) (s : State) : Host.Outcome State Fault Refusal :=
  onPart (senseSample trips) s

/-- A channel's trip count has reached 2 (R155). -/
def execOverCurrent (c : Channel) (s : State) : Host.Outcome State Fault Refusal :=
  onPart (overCurrent c) s

end Sys2Proof.Machine
end

