-- ==== Sys2Proof/Machine/Monitor.lean ====
section
/-! DEFINITION. Meanings: Events of the battery monitor and the slot scheduler (chapter 3, R99 to R101). -/

namespace Sys2Proof.Machine
open Sys2Proof

/-- A sample instant of the bank (R48, R51, R55, R188). -/
def execBatterySample (rawV rawI : BitVec 12) (s : State) : Host.Outcome State Fault Refusal :=
  onPart (takeSample rawV rawI) s

/-- The end of a second: the ten current samples are integrated (R49). -/
def execChargeIntegration (s : State) : Host.Outcome State Fault Refusal :=
  onPart (fun d => setBank (integrate (fullCharge d)) d) s

/-- The full-anchor timer has reached 6,000 samples (R51). -/
def execFullAnchor (s : State) : Host.Outcome State Fault Refusal :=
  onPart fullAnchor s

/-- A matured condition moves the voltage state (R56, R57). -/
def execVoltageStateChange (s : State) : Host.Outcome State Fault Refusal :=
  onPart voltageChange s

/-- The engine-run timer has reached 600 s (R62). -/
def execMarksClear (s : State) : Host.Outcome State Fault Refusal :=
  onPart marksClear s

/-- A slot boundary, or a frame boundary after the last slot (R99, R101). -/
def execSlotBoundary (workFirst heaterFirst : Bool) (s : State) : Host.Outcome State Fault Refusal :=
  onPart (slotBoundary workFirst heaterFirst) s

end Sys2Proof.Machine
end

