-- ==== Sys2Proof/Machine/Polling.lean ====
section
/-! DEFINITION. Meanings: Polls and replies of the cab link that carry no known request (R28 to R31, R37). -/

namespace Sys2Proof.Machine
open Sys2Proof

/-- The next poll frame is sent, with the notice chosen for it (R28, R29, R44). -/
def execPollSend (s : State) : Host.Outcome State Fault Refusal :=
  onPart sendPoll s

/-- The pause after a cycle without a poll ends (R28). -/
def execCyclePauseEnd (s : State) : Host.Outcome State Fault Refusal :=
  onPart endPause s

/-- A good reply of type IDLE (R29, R31). -/
def execIdleReply (s : State) : Host.Outcome State Fault Refusal :=
  onPart takeIdle s

/-- A missed poll (R30). -/
def execPollMissed (s : State) : Host.Outcome State Fault Refusal :=
  onPart takeMiss s

/-- A good reply of an unknown type is answered UNKNOWN_REQUEST (R37 check 1). -/
def execUnknownRequest (type : Byte) (s : State) : Host.Outcome State Fault Refusal :=
  onPart (serve (fun st => refuse st type .unknownRequest)) s

end Sys2Proof.Machine
end

