-- ==== Sys2Proof/Machine/Power.lean ====
section
/-! DEFINITION. Meanings: Power-on, reset and the completion of a store write (R191 to R193). -/

namespace Sys2Proof.Machine
open Sys2Proof

/-- Power-on, in reset or after a loss of supply: the store loads, the blocks start, the budget unit recomputes (R193). -/
def execPowerOn (okA okB : Bool) (s : State) : Host.Outcome State Fault Refusal :=
  .next { s with dev := powerUp okA okB s.dev }

/-- NRST low or supply below its range: every operation ends where it stands and the outputs are held off (R193). -/
def execReset (s : State) : Host.Outcome State Fault Refusal :=
  .next { s with dev := enterReset s.dev }

/-- The write in progress is complete, and what waited for it goes on (R191). -/
def execStoreWriteComplete (s : State) : Host.Outcome State Fault Refusal :=
  onPart completeWrite s

end Sys2Proof.Machine
end

