-- ==== Sys2Proof/Machine/RecordRequests.lean ====
section
/-! DEFINITION. Meanings: Requests about records, STATUS and ACK_WARNING (R18 to R21, R40, R175). -/

namespace Sys2Proof.Machine
open Sys2Proof

/-- LOOKUP by handle (R21, R35). -/
def execLookupByHandle (handle : Option Word16) (s : State) : Host.Outcome State Fault Refusal :=
  onPart (serve (lookupHandle handle)) s

/-- LOOKUP by function (R21, R34). -/
def execLookupByFunction (query : Option FnQuery) (s : State) : Host.Outcome State Fault Refusal :=
  onPart (serve (lookupFunction query)) s

/-- LOOKUP of own records (R21). -/
def execLookupOwnRecords (first : Option Byte) (s : State) : Host.Outcome State Fault Refusal :=
  onPart (serve (lookupOwn first)) s

/-- CREATE (R8, R9). -/
def execCreate (body : Option CreateBody) (s : State) : Host.Outcome State Fault Refusal :=
  onPart (serve (create body)) s

/-- AMEND (R19). -/
def execAmend (body : Option AmendBody) (s : State) : Host.Outcome State Fault Refusal :=
  onPart (serve (amend body)) s

/-- RETIRE (R18). -/
def execRetire (handle : Option Word16) (s : State) : Host.Outcome State Fault Refusal :=
  onPart (serve (retire handle)) s

/-- STATUS (R40). -/
def execStatus (bodyOk : Bool) (s : State) : Host.Outcome State Fault Refusal :=
  onPart (serve (status bodyOk)) s

/-- ACK_WARNING (R175). -/
def execAckWarning (driver : Option Byte) (s : State) : Host.Outcome State Fault Refusal :=
  onPart (serve (ackWarning driver)) s

end Sys2Proof.Machine
end

