-- ==== Sys2Proof/Machine/RecordTimers.lean ====
section
/-! DEFINITION. Meanings: Times that records carry (R11, R16, R17). -/

namespace Sys2Proof.Machine
open Sys2Proof

/-- A SCHEDULED record's start time arrives (R11). -/
def execRecordStart (h : Handle) (s : State) : Host.Outcome State Fault Refusal :=
  onPart (onDue startDue h (beginRecord h)) s

/-- A record's end time arrives (R16). -/
def execRecordEnd (h : Handle) (s : State) : Host.Outcome State Fault Refusal :=
  onPart (onDue endDue h (retireRecord h .ended .entered)) s

/-- A DEFERRED record's deadline arrives (R17). -/
def execDeferExpired (h : Handle) (s : State) : Host.Outcome State Fault Refusal :=
  onPart (onDue deadlineDue h (retireRecord h .deferExpired .entered)) s

end Sys2Proof.Machine
end

