-- ==== Sys2Proof/Machine/RestEvents.lean ====
section
/-! DEFINITION. Meanings: Events of the rest accounts unit and the rest plan unit (chapters 9 and 10). -/

namespace Sys2Proof.Machine
open Sys2Proof

/-- The end of a second for both accounts (R162, R164, R165, R167). -/
def execAccrual (s : State) : Host.Outcome State Fault Refusal :=
  onPart accrueBoth s

/-- A candidate activity has settled (R162, R166). -/
def execActivitySettled (dr : Driver) (s : State) : Host.Outcome State Fault Refusal :=
  onPart (settle dr) s

/-- The unknown timer has reached 601 (R164). -/
def execIncompleteSet (dr : Driver) (s : State) : Host.Outcome State Fault Refusal :=
  onPart (setAccount dr incompleteSet) s

/-- A dash alarm's next onset (R173). -/
def execDashRepeatOnset (dr : Driver) (s : State) : Host.Outcome State Fault Refusal :=
  onPart (dashRepeat dr) s

/-- A dash sounding has run its 5 s (R173). -/
def execDashSoundingEnd (dr : Driver) (s : State) : Host.Outcome State Fault Refusal :=
  onPart (dashEnd dr) s

/-- A bunk sounding has run its time (R174). -/
def execBunkSoundingEnd (dr : Driver) (s : State) : Host.Outcome State Fault Refusal :=
  onPart (bunkEnd dr) s

/-- An ACTIVE plan reaches end − lead × 60 (R180). -/
def execPlanWaking (dr : Driver) (s : State) : Host.Outcome State Fault Refusal :=
  onPart (fun d => if wakingDue d dr then enterWaking dr d else d) s

/-- A WAKING plan reaches its planned end (R180). -/
def execPlanDue (dr : Driver) (s : State) : Host.Outcome State Fault Refusal :=
  onPart (fun d => if dueDue d dr then enterDue dr d else d) s

/-- The ramp level of a second (R182). -/
def execRampLevelTick (dr : Driver) (s : State) : Host.Outcome State Fault Refusal :=
  onPart (rampTick dr) s

/-- A call's next onset (R183). -/
def execBunkCallOnset (dr : Driver) (s : State) : Host.Outcome State Fault Refusal :=
  onPart (fun d => if callDue d dr then callOnset dr d else d) s

/-- A plan has been DUE for 30 min (R183). -/
def execWakeUnanswered (dr : Driver) (s : State) : Host.Outcome State Fault Refusal :=
  onPart (fun d => if unansweredDue d dr then retirePlan dr .wakeUnanswered d else d) s

end Sys2Proof.Machine
end

