-- ==== Sys2Proof/Machine/VehiclePort.lean ====
section
/-! DEFINITION. Meanings: Frames and events of the vehicle port (R188 to R190). -/

namespace Sys2Proof.Machine
open Sys2Proof

/-- An ENGINE_STATE frame (R188, R190). -/
def execEngineState (id : CanId) (data : List Byte) (s : State) : Host.Outcome State Fault Refusal :=
  onPart (engineFrame id data) s

/-- The engine frame has been missing for 1 s (R188). -/
def execEngineFrameLost (s : State) : Host.Outcome State Fault Refusal :=
  onPart engineLost s

/-- A DRIVER_ACTIVITY frame (R188, R161). -/
def execDriverActivity (id : CanId) (data : List Byte) (s : State) : Host.Outcome State Fault Refusal :=
  onPart (activityFrame id data) s

/-- The activity frame has been missing for 3 s (R188). -/
def execActivityFrameLost (s : State) : Host.Outcome State Fault Refusal :=
  onPart activityLost s

/-- A frame that the port ignores (R188). -/
def execCanFrameIgnored (_id : CanId) (_data : List Byte) (s : State) : Host.Outcome State Fault Refusal :=
  onPart id s

/-- The end of a second: the CAB_STATUS frame is built (R189). -/
def execCabStatus (s : State) : Host.Outcome State Fault Refusal :=
  onPart buildStatus s

/-- The waiting frame is sent and acknowledged (R189). -/
def execCanTxSuccess (s : State) : Host.Outcome State Fault Refusal :=
  onPart (setVehicle txSuccess) s

/-- A transmission of the waiting frame fails (R189). -/
def execCanTxError (s : State) : Host.Outcome State Fault Refusal :=
  onPart (setVehicle txError) s

/-- One second after bus-off the port rejoins the bus (R189). -/
def execBusOffRejoin (s : State) : Host.Outcome State Fault Refusal :=
  onPart (setVehicle rejoin) s

end Sys2Proof.Machine
end

