-- ==== Sys2Proof/Machine/Dispatch.lean ====
section
/-! DEFINITION. One arm per command: the call of its meaning. -/

namespace Sys2Proof.Machine
open Sys2Proof

-- the part's meanings, in the order of the table
def exec (i : Instr) (s : State) : Host.Outcome State Fault Refusal :=
  match i with
  | .powerOn okA okB => Sys2Proof.Machine.execPowerOn okA okB s
  | .reset => Sys2Proof.Machine.execReset s
  | .storeWriteComplete => Sys2Proof.Machine.execStoreWriteComplete s
  | .pollSend => Sys2Proof.Machine.execPollSend s
  | .cyclePauseEnd => Sys2Proof.Machine.execCyclePauseEnd s
  | .idleReply => Sys2Proof.Machine.execIdleReply s
  | .pollMissed => Sys2Proof.Machine.execPollMissed s
  | .unknownRequest type => Sys2Proof.Machine.execUnknownRequest type s
  | .lookupByHandle handle => Sys2Proof.Machine.execLookupByHandle handle s
  | .lookupByFunction query => Sys2Proof.Machine.execLookupByFunction query s
  | .lookupOwnRecords first => Sys2Proof.Machine.execLookupOwnRecords first s
  | .create body => Sys2Proof.Machine.execCreate body s
  | .amend body => Sys2Proof.Machine.execAmend body s
  | .retire handle => Sys2Proof.Machine.execRetire handle s
  | .status bodyOk => Sys2Proof.Machine.execStatus bodyOk s
  | .ackWarning driver => Sys2Proof.Machine.execAckWarning driver s
  | .scheduleWrite run => Sys2Proof.Machine.execScheduleWrite run s
  | .scheduleLength body => Sys2Proof.Machine.execScheduleLength body s
  | .scheduleCopy bodyOk => Sys2Proof.Machine.execScheduleCopy bodyOk s
  | .scheduleSwap bodyOk => Sys2Proof.Machine.execScheduleSwap bodyOk s
  | .scheduleSwapCancel => Sys2Proof.Machine.execScheduleSwapCancel s
  | .setFloor floor => Sys2Proof.Machine.execSetFloor floor s
  | .setProtect lanes => Sys2Proof.Machine.execSetProtect lanes s
  | .lockMark bodyOk => Sys2Proof.Machine.execLockMark bodyOk s
  | .clearLockout bodyOk => Sys2Proof.Machine.execClearLockout bodyOk s
  | .restart bodyOk => Sys2Proof.Machine.execRestart bodyOk s
  | .configureCapacity v => Sys2Proof.Machine.execConfigureCapacity v s
  | .configureFullVoltage v => Sys2Proof.Machine.execConfigureFullVoltage v s
  | .configureThreshold which v => Sys2Proof.Machine.execConfigureThreshold which v s
  | .configureDebounce which v => Sys2Proof.Machine.execConfigureDebounce which v s
  | .configureSenseScaling which v => Sys2Proof.Machine.execConfigureSenseScaling which v s
  | .configureShedOrder first second third => Sys2Proof.Machine.execConfigureShedOrder first second third s
  | .configureBudgetSetting field => Sys2Proof.Machine.execConfigureBudgetSetting field s
  | .configureCurrents which v => Sys2Proof.Machine.execConfigureCurrents which v s
  | .configureSlotLength v => Sys2Proof.Machine.execConfigureSlotLength v s
  | .configureDeferralLimit v => Sys2Proof.Machine.execConfigureDeferralLimit v s
  | .configureFadeRate v => Sys2Proof.Machine.execConfigureFadeRate v s
  | .configureRestParameter which v => Sys2Proof.Machine.execConfigureRestParameter which v s
  | .configureWindow station index fields => Sys2Proof.Machine.execConfigureWindow station index fields s
  | .configureStationLevel station fields => Sys2Proof.Machine.execConfigureStationLevel station fields s
  | .configureIdentifierBase v => Sys2Proof.Machine.execConfigureIdentifierBase v s
  | .configureUnknown number size => Sys2Proof.Machine.execConfigureUnknown number size s
  | .readConfig number => Sys2Proof.Machine.execReadConfig number s
  | .readTable table run => Sys2Proof.Machine.execReadTable table run s
  | .recordStart h => Sys2Proof.Machine.execRecordStart h s
  | .recordEnd h => Sys2Proof.Machine.execRecordEnd h s
  | .deferExpired h => Sys2Proof.Machine.execDeferExpired h s
  | .batterySample rawV rawI => Sys2Proof.Machine.execBatterySample rawV rawI s
  | .chargeIntegration => Sys2Proof.Machine.execChargeIntegration s
  | .fullAnchor => Sys2Proof.Machine.execFullAnchor s
  | .voltageStateChange => Sys2Proof.Machine.execVoltageStateChange s
  | .marksClear => Sys2Proof.Machine.execMarksClear s
  | .slotBoundary workFirst heaterFirst => Sys2Proof.Machine.execSlotBoundary workFirst heaterFirst s
  | .heaterReading cab hx => Sys2Proof.Machine.execHeaterReading cab hx s
  | .glowWaitFailed => Sys2Proof.Machine.execGlowWaitFailed s
  | .preglowEnd => Sys2Proof.Machine.execPreglowEnd s
  | .noFlame => Sys2Proof.Machine.execNoFlame s
  | .stepChange => Sys2Proof.Machine.execStepChange s
  | .pauseEntry => Sys2Proof.Machine.execPauseEntry s
  | .flameLoss => Sys2Proof.Machine.execFlameLoss s
  | .overheat => Sys2Proof.Machine.execOverheat s
  | .runProved => Sys2Proof.Machine.execRunProved s
  | .purgeEnd => Sys2Proof.Machine.execPurgeEnd s
  | .purgeHot => Sys2Proof.Machine.execPurgeHot s
  | .fridgeSample raw => Sys2Proof.Machine.execFridgeSample raw s
  | .sensorFaultClear => Sys2Proof.Machine.execSensorFaultClear s
  | .blindWindowChange => Sys2Proof.Machine.execBlindWindowChange s
  | .guardEnd => Sys2Proof.Machine.execGuardEnd s
  | .lampFadeStep => Sys2Proof.Machine.execLampFadeStep s
  | .lampSenseSample trips => Sys2Proof.Machine.execLampSenseSample trips s
  | .overCurrent c => Sys2Proof.Machine.execOverCurrent c s
  | .engineState id data => Sys2Proof.Machine.execEngineState id data s
  | .engineFrameLost => Sys2Proof.Machine.execEngineFrameLost s
  | .driverActivity id data => Sys2Proof.Machine.execDriverActivity id data s
  | .activityFrameLost => Sys2Proof.Machine.execActivityFrameLost s
  | .canFrameIgnored id data => Sys2Proof.Machine.execCanFrameIgnored id data s
  | .cabStatus => Sys2Proof.Machine.execCabStatus s
  | .canTxSuccess => Sys2Proof.Machine.execCanTxSuccess s
  | .canTxError => Sys2Proof.Machine.execCanTxError s
  | .busOffRejoin => Sys2Proof.Machine.execBusOffRejoin s
  | .accrual => Sys2Proof.Machine.execAccrual s
  | .activitySettled dr => Sys2Proof.Machine.execActivitySettled dr s
  | .incompleteSet dr => Sys2Proof.Machine.execIncompleteSet dr s
  | .dashRepeatOnset dr => Sys2Proof.Machine.execDashRepeatOnset dr s
  | .dashSoundingEnd dr => Sys2Proof.Machine.execDashSoundingEnd dr s
  | .bunkSoundingEnd dr => Sys2Proof.Machine.execBunkSoundingEnd dr s
  | .planWaking dr => Sys2Proof.Machine.execPlanWaking dr s
  | .planDue dr => Sys2Proof.Machine.execPlanDue dr s
  | .rampLevelTick dr => Sys2Proof.Machine.execRampLevelTick dr s
  | .bunkCallOnset dr => Sys2Proof.Machine.execBunkCallOnset dr s
  | .wakeUnanswered dr => Sys2Proof.Machine.execWakeUnanswered dr s

end Sys2Proof.Machine
end

