-- ==== Sys2Proof/Machine/Step.lean ====
section
/-! DEFINITION. One step: the command at the front of the queue, carried out with the queue's rest; on an empty queue
the part's own clock goes on (log entry 10). -/

namespace Sys2Proof.Machine
open Sys2Proof

def step (s : State) : Host.Outcome State Fault Refusal :=
  match s.pending with
  | c :: rest => exec c { s with pending := rest }
  | [] => .next (tick s)

/-- A command put at the front of the queue. -/
def State.front (c : Instr) (s : State) : State := { s with pending := c :: s.pending }

/-- The command that a word spells, at the front of the queue; no word spells one. -/
def State.withFetchWord (s : State) (nbits w : Nat) : State :=
  match decodeTableWord nbits w with
  | some c => s.front c
  | none => s

end Sys2Proof.Machine
end

