-- ==== Sys2Proof/Safety.lean ====
section
/-! DEFINITION. What claims about the part are stated with: its blocks and what a command leaves alone, the outcomes of
a step, the poll that a request answers, and the invariants that every step keeps. -/

namespace Sys2Proof.Machine
open Sys2Proof

/-! ## What a command leaves alone -/

/-- The blocks of the part (section 3 of the scope file), with the reset line, the cab clock and the leads. -/
inductive Block where
  | inReset | clock | settings | store | link | table | bank | budget | sched | heater | fridge | lamps
  | accounts | plans | vehicle | leads
deriving DecidableEq, Repr

/-- A block is the same in two states of the part. -/
def sameOn (b : Block) (d d' : Device) : Prop :=
  match b with
  | .inReset => d'.inReset = d.inReset
  | .clock => d'.clock = d.clock
  | .settings => d'.settings = d.settings
  | .store => d'.store = d.store
  | .link => d'.link = d.link
  | .table => d'.table = d.table
  | .bank => d'.bank = d.bank
  | .budget => d'.budget = d.budget
  | .sched => d'.sched = d.sched
  | .heater => d'.heater = d.heater
  | .fridge => d'.fridge = d.fridge
  | .lamps => d'.lamps = d.lamps
  | .accounts => d'.accounts = d.accounts
  | .plans => d'.plans = d.plans
  | .vehicle => d'.vehicle = d.vehicle
  | .leads => d'.leads = d.leads

/-- Every block but those listed is the same. -/
def sameExcept (bs : List Block) (d d' : Device) : Prop := ∀ b, b ∉ bs → sameOn b d d'

/-- A command answers a next state with the queue as it was, and the part's new state has the property given. -/
def Answers (i : Instr) (s : State) (post : Device → Prop) : Prop :=
  ∃ t : State, exec i s = .next t ∧ t.pending = s.pending ∧ post t.dev

/-! ## The poll that a request answers (R29, R31) -/

/-- The part is out of reset and the reply window of a station is open. -/
def Polled (st : Station) (d : Device) : Prop := d.inReset = false ∧ ∃ c, d.link.phase = .awaiting st c

/-- The stations' records once a good reply has come from the polled one. -/
def afterReply (st : Station) (d : Device) : PerStation StationLink :=
  d.link.stations.set (goodReply (d.link.stations.get st)) st

/-- The poll has ended with an answer frame of a type, a code and a body; the stations' records are those given. -/
def AnsweredFrame (st : Station) (type : Byte) (code : AnswerCode) (body : List Byte) (d' : Device) : Prop :=
  d'.link.phase = .ready ∧
  d'.link.answerFrame = frame false (stationAddress st) (answerType type) (byte (answerCode code) :: body)

/-- The poll has ended with an answer, and beyond it the port has noted nothing but the good reply. -/
def AnsweredOnly (st : Station) (type : Byte) (code : AnswerCode) (body : List Byte) (d d' : Device) : Prop :=
  AnsweredFrame st type code body d' ∧ d'.link.stations = afterReply st d ∧ d'.link.pos = d.link.pos ∧
  d'.link.polled = d.link.polled ∧ d'.link.pollFrame = d.link.pollFrame

/-- A request waits for the store: one write joins those asked for, with the answer that follows it, and the port serves
the station meanwhile (R191, R192). No other block has changed. -/
def AwaitsWrite (st : Station) (c : Change) (k : Cont) (d d' : Device) : Prop :=
  sameExcept [.link, .store] d d' ∧ d'.link.phase = .serving st ∧ d'.link.stations = afterReply st d ∧
  d'.store.jobs = d.store.jobs ++ [⟨c, k⟩] ∧ d'.store.defaulted = d.store.defaulted

/-- No write is in progress and none is asked for. -/
def StoreIdle (d : Device) : Prop := d.store.writing = none ∧ d.store.jobs = []

/-- A request is accepted, no setting changes until its write is complete, and then the part has the property given: the
request and the write's completion are two commands, with nothing taken between them. -/
def WritesThen (i : Instr) (s : State) (post : Device → Prop) : Prop :=
  ∃ t u : State, exec i s = .next t ∧ t.dev.settings = s.dev.settings ∧ (∃ st, t.dev.link.phase = .serving st) ∧
    exec .storeWriteComplete t = .next u ∧ u.pending = s.pending ∧ post u.dev

/-- An event asks for one store write, and what waits for it goes on as the write is complete: two commands, with nothing
taken between them and no setting changed before the second. -/
def EventWrites (i : Instr) (s : State) (post : Device → Prop) : Prop :=
  ∃ t u : State, exec i s = .next t ∧ t.dev.settings = s.dev.settings ∧
    exec .storeWriteComplete t = .next u ∧ u.pending = s.pending ∧ post u.dev

/-- The heater sequencer, whose held messages alone keep an answer back, does not wait for the store, so that an answer is
sent at once (R29). -/
def NoneWaits (d : Device) : Prop := d.heater.waiting = false

/-- A request of the polled station in the state that requests to the store are stated for: the store rests, and so no
block waits for it (`WaitsOk`). -/
def PolledIdle (st : Station) (d : Device) : Prop := Polled st d ∧ StoreIdle d ∧ NoneWaits d ∧ d.sched.waiting = false

/-- The answer of a request whose work stands with a heater sequencer that waits for the store: it is held, and the port
goes on serving the station (R29, R191; log entry 51). -/
def HeldFrame (st : Station) (type : Byte) (code : AnswerCode) (spec : AnswerSpec) (d' : Device) : Prop :=
  d'.link.phase = .serving st ∧ d'.link.heldAnswer = some ⟨st, type, code, spec⟩

/-- The answer of a request: sent where the heater sequencer does not wait for the store, and otherwise sent or held, to
carry what `spec` gives when it is sent (R29; log entry 51). -/
def Replied (st : Station) (type : Byte) (code : AnswerCode) (spec : AnswerSpec) (d d' : Device) : Prop :=
  (NoneWaits d → AnsweredFrame st type code (specBytes d' st spec) d') ∧
  (AnsweredFrame st type code (specBytes d' st spec) d' ∨ HeldFrame st type code spec d')

/-- A record's block as an answer carries it: read when the answer is sent, or as the request left it for a record that
has been retired meanwhile (R8, R198; log entry 51). -/
def blockOf (d : Device) (st : Station) (h : Handle) (mask : Nat) : AnswerSpec := .block h mask (answerBlock d st h mask)

/-- OK, or OK_CLAMPED where the value applied differs from the value sent (R39). -/
def codeFor (sent applied : Int) : AnswerCode := if applied = sent then .ok else .okClamped

/-- The blocks that a recomputation of the budget unit can reach (R72, R79, R82). -/
abbrev budgetReach : List Block := [.link, .table, .budget, .sched, .heater, .fridge, .lamps]

/-- The projection of R73 to R78, written out from their text: the usable charge above the floor, the draw of quiescent load,
lamp channels and engaged lanes at the modes and the cap given, the horizon of the plans that count (an ACTIVE or WAKING
one whose end has passed gives 0: log entry 68), the wake reserve, demand, margin and time to the floor. `extra` is the lane
that a test counts as engaged (R73). -/
def projectionOf (d : Device) (modes : PerLane LaneMode) (cap : Nat) (extra : Option Lane) : Projection :=
  let c := d.settings.currents
  let ceil := fun a b : Nat => (a + (b - 1)) / b
  let hold := fun x : Int => max (-2147483648) (min x 2147483647)
  let charge := if d.bank.uncalibrated then d.bank.q * 3 / 4 else d.bank.q
  let u := min (charge - d.settings.floor * 3600) 2147483647
  let lamp := fun ch : Channel =>
    let l := d.lamps.get ch
    let t := if l.before ≤ cap then l.before else cap
    ceil (c.lamp.get ch * t) 100
  let table := d.settings.tables.get d.settings.active
  let lf := table.length
  let count := fun bears : LaneSet → Bool => ((table.entries.take lf).filter bears).length
  let k := fun l : Lane => match modes.get l with
    | .full => 2
    | .alternate => 1
    | .off => 0
  let engaged := fun (fn : Fn) (l : Lane) => decide (extra = some l) || (records d).any fun hr =>
    decide (hr.2.fn = fn) && (decide (hr.2.state = .granted) || decide (hr.2.state = .suspended ∧ hr.2.reason = .budget))
  let term := fun (fn : Fn) (l : Lane) (n : Nat) => if engaged fn l = true ∧ k l ≠ 0 then ceil n (2 * lf) else 0
  let heatShare := k .heat * count LaneSet.heat
  let p := c.quiescent + (lamp .c8 + lamp .c9 + lamp .c10 + lamp .c11 + lamp .c12 + lamp .c13) +
    term .heater .heat (heatShare * c.rHeat + (2 * lf - heatShare) * c.rHMin) +
    term .fridge .cool (c.rCool * count LaneSet.cool * k .cool) +
    term .outlet .aux (c.rAux * count LaneSet.aux * k .aux)
  let plans := (records d).filterMap fun hr => match hr.2.params with
    | .plan q => some q
    | _ => none
  let counted := plans.filter fun q => q.sub != .due
  let left := fun q : PlanRec => if q.sub = .waiting then q.len * 60 else q.plannedEnd.getD 0 - d.clock.sec
  let h := min 86400 (if counted = [] then d.settings.horizon * 3600 else (counted.map left).foldr max 0)
  let held := plans.filter fun q => q.preheat.isSome && (q.sub == .waiting || q.sub == .active)
  let w := (held.map fun q => ceil (c.rHeat * q.lead * 60 + c.rGlow * 130) 100).sum
  let demand := hold (ceil (p * h) 100 + w : Nat)
  ⟨u, p, h, w, demand, hold (u - demand),
    if u = 0 then 0 else if p = 0 then 9999 else min 9999 (u * 100 / (p * 60))⟩

/-- The ladder of a shed order and a protected set, written out from R70: round 1 slows each lane in shed order and caps
the lamps at 50; round 2 stops each lane in shed order that is not protected and caps the lamps at 25. -/
def ladderOf (o : ShedOrder) (prot : PerLane Bool) : List LadderStep :=
  let stop := fun l : Lane => if prot.get l then [] else [LadderStep.stop l]
  [.slow o.first, .slow o.second, .slow o.third, .cap 50] ++ (stop o.first ++ stop o.second ++ stop o.third ++ [.cap 25])

/-- A kind parameter as sent lies outside its range of R4, so that it is clamped; an absence code is none sent (R195). -/
def fieldPast (k : Kind) : KindFields → Bool
  | .temp w =>
    let t := w.toInt
    w != 0x7FFF#16 && (if k = .heatHold then decide (t < 10) || decide (60 < t) else decide (t < -36) || decide (16 < t))
  | .level l => l != 0xFF#8 && decide (100 < l.toNat)
  | .nothing => false
  | .plan _ => false

/-- The bits of a plan's parameters in a clamp mask: rest length, lead, preheat, an empty channel set and the wake level,
from bit 4 on (R4, R198). -/
def planPast (f : PlanFields) : Nat :=
  let empty := ∀ i : Fin 6, f.channels.getLsbD i = false
  (if f.len ≠ 0xFFFF#16 ∧ (f.len.toNat < 30 ∨ 1440 < f.len.toNat) then 16 else 0) +
    (if f.lead ≠ 0xFF#8 ∧ 90 < f.lead.toNat then 32 else 0) +
    (if f.preheat ≠ 0x7FFF#16 ∧ (f.preheat.toInt < 10 ∨ 60 < f.preheat.toInt) then 64 else 0) +
    (if f.level ≠ 0xFF#8 ∧ empty then 128 else 0) +
    (if f.level ≠ 0xFF#8 ∧ ¬ empty ∧ 100 < f.level.toNat then 256 else 0)

/-- The engine runs in NORMAL or HIGH and the budget unit is in CHARGING, with no cause on a function: a demand on it is
granted and stands (R68, R83). -/
def ChargingFor (fn : Fn) (d : Device) : Prop :=
  d.vehicle.running = true ∧ (d.bank.vstate = .normal ∨ d.bank.vstate = .high) ∧ d.budget.mode = .charging ∧
  causesOf d.table.causes fn = CauseSet.none

/-- The record is the only one on its function. -/
def OnlyOn (fn : Fn) (h : Handle) (d : Device) : Prop := ∀ hr ∈ records d, hr.2.fn = fn → hr.1 = h

/-- A plan bound to a rest that began at `start`: the binding, the planned end and the sub-state that R178 calls for at
second `now`. -/
def BoundAt (dr : Driver) (h : Handle) (p : PlanRec) (start now : Nat) (d : Device) : Prop :=
  let planned := start + p.len * 60
  let called : SubState := if planned ≤ now then .due else if planned ≤ now + p.lead * 60 then .waking else .active
  (d.plans.get dr).plan = some h ∧ (d.plans.get dr).binding = some start ∧
  ∃ r q, lookup d h = some r ∧ r.params = .plan q ∧ q.len = p.len ∧ q.lead = p.lead ∧ q.plannedEnd = some planned ∧
    q.sub = called

/-- An AMEND of a driver's live plan that passes every check of R19 and R37, with the fields given. -/
def AmendsPlan (st : Station) (b : AmendBody) (dr : Driver) (h : Handle) (r : Record) (p : PlanRec) (f : PlanFields)
    (d : Device) : Prop :=
  h = ⟨b.handle.toNat / 256, b.handle.toNat % 256⟩ ∧ livePlan d dr = some (h, r, p) ∧ r.fn = .rest dr ∧ r.kind = .restPlan ∧
  r.owner ≠ .internal ∧ h.slot < 46 ∧ b.kind = 4#8 ∧ b.fields = .plan f ∧
  (∃ win, windowOf d st (.rest dr) = some win ∧
    (win.rights.changeAny = true ∨ (win.rights.changeOwn = true ∧ r.owner = .station st))) ∧
  (b.mask.getLsbD 0 = true → (classOfCode b.cls).isSome = true) ∧
  (b.mask.getLsbD 1 = false ∨ b.duration = 0xFFFF#16) ∧ b.mask.getLsbD 2 = false ∧ b.mask.getLsbD 4 = false

/-! ## Warnings (R169 to R172) -/

/-- Some warning is active that was not (R169). -/
def raisedIn (w w' : Warnings) : Bool :=
  (w'.restDone && !w.restDone) || (w'.restInterrupted && !w.restInterrupted) || (w'.drivePre && !w.drivePre) ||
  (w'.dailyPre && !w.dailyPre) || (w'.driveDue && !w.driveDue) || (w'.dailyDue && !w.dailyDue)

/-- No warning is active. -/
def Warnings.clear (w : Warnings) : Prop := w = ⟨false, false, false, false, false, false⟩

/-- The level of a driver's dash alarm, by the ranks of R169; 0 for none (R172). -/
def dashAlarm (a : Account) : Nat :=
  if a.ack ≠ .unacknowledged then 0
  else if a.warnings.dailyDue then 6
  else if a.warnings.driveDue then 5
  else if a.warnings.dailyPre then 4
  else if a.warnings.drivePre then 3
  else 0

/-- What a command that changes warnings at second `now` does about them. A raise makes its driver UNACKNOWLEDGED, the end of
the last warning makes the state NONE, and no other change moves it (R171). A driver whose warnings change has its WARNING
flag set in every ONLINE station (R170). Where some driver's change, the drivers with the highest alarm are the subjects:
one that becomes a subject or raised a warning sounds at once, one that is a subject no more falls silent, and one that stays
a subject with no raise keeps its schedule while the other driver's warnings stand (R172, R173). -/
def WarningsActed (now : Nat) (d d' : Device) : Prop :=
  let old := fun dr : Driver => d.accounts.get dr
  let new := fun dr : Driver => d'.accounts.get dr
  let changes := fun dr : Driver => (new dr).warnings ≠ (old dr).warnings
  let raises := fun dr : Driver => raisedIn (old dr).warnings (new dr).warnings = true
  let top := max (dashAlarm (new .one)) (dashAlarm (new .two))
  (∀ dr,
    (raises dr → (new dr).ack = .unacknowledged) ∧
    (¬ raises dr → changes dr → (new dr).warnings.clear → (new dr).ack = .none) ∧
    (¬ raises dr → (changes dr → ¬ (new dr).warnings.clear) → (new dr).ack = (old dr).ack) ∧
    (changes dr → ∀ st, (d.link.stations.get st).link = .online →
      (d'.link.stations.get st).flags.warning.get dr = true)) ∧
  ((∃ dr, changes dr) → ∀ dr,
    let subject := 0 < dashAlarm (new dr) ∧ dashAlarm (new dr) = top
    (subject → (new dr).subject = true) ∧ (¬ subject → (new dr).subject = false) ∧
    (subject → raises dr ∨ (old dr).subject = false →
      (new dr).sounding = true ∧ (new dr).lastOnset = some now ∧ (new dr).lastDash = some now) ∧
    (¬ subject → (old dr).subject = true → (new dr).sounding = false) ∧
    (subject → ¬ raises dr → (old dr).subject = true → (∀ x, x ≠ dr → ¬ changes x) →
      (new dr).sounding = (old dr).sounding ∧ (new dr).lastDash = (old dr).lastDash))

/-! ## Invariants -/

/-- Charge never passes full charge (R49, R50). -/
def ChargeOk (d : Device) : Prop := d.bank.q ≤ d.settings.capacity * 3600

/-- The table has 48 slots, each with a generation from 1 to 255, and its deferral queue names no record twice
(R6, R23). -/
def TableOk (d : Device) : Prop :=
  d.table.slots.length = 48 ∧ (∀ s ∈ d.table.slots, 1 ≤ s.gen ∧ s.gen ≤ 255) ∧ d.table.queue.Nodup

/-- A pending-notice set holds at most 64 entries; a station that is not ONLINE has an empty set and no flags; an
ONLINE one has missed fewer than three polls (R30, R42). -/
def StationOk (p : StationLink) : Prop :=
  p.entries.length ≤ 64 ∧ (p.link ≠ .online → p.entries = [] ∧ p.flags = Flags.none ∧ p.failure = .none) ∧
  (p.link = .online → p.missed < 3)

def StationsOk (d : Device) : Prop := ∀ st, StationOk (d.link.stations.get st)

/-- The ladder has 5 to 8 steps and the position is one of its counts (R70, R71); the cap is one of the four. -/
def LadderOk (d : Device) : Prop :=
  5 ≤ d.budget.ladder.length ∧ d.budget.ladder.length ≤ 8 ∧ d.budget.position ≤ d.budget.ladder.length ∧
  (d.budget.cap = 100 ∨ d.budget.cap = 50 ∨ d.budget.cap = 25 ∨ d.budget.cap = 10)

/-- The heater's outputs and its power step are those of its state (R112); the plug draws only under the claim (R104);
the scheduler and the heater agree on the claim. -/
def HeaterOk (d : Device) : Prop :=
  (d.heater.plug = true → d.heater.state = .preglow ∨ d.heater.state = .ignite) ∧
  (d.heater.fuel = true → d.heater.state = .ignite ∨ d.heater.state = .run) ∧
  (d.heater.state = .run → (1 ≤ d.heater.step ∧ d.heater.step ≤ 4) ∧ (1 ≤ d.heater.target ∧ d.heater.target ≤ 4)) ∧
  (d.heater.state = .ignite → d.heater.step = 1) ∧
  (d.heater.state ≠ .run → d.heater.state ≠ .ignite → d.heater.step = 0) ∧
  (d.heater.plug = true → d.heater.claim = true) ∧ d.sched.claim = d.heater.claim

/-- A heavy lane draws its rated current only under its permission: a power step above 1, the compressor, the outlet
(R90, R102, R109). -/
def LanesOk (d : Device) : Prop :=
  (1 < d.heater.step → d.sched.perm.heat = true) ∧
  (d.fridge.state = .running → d.sched.perm.cool = true) ∧
  (d.sched.outletClosed = true → d.sched.perm.aux = true)

/-- A lane has permission only in a mode that lets it draw in the present frame, COOL and AUX never under the claim or in
HIGH, and none in CUTOFF, whatever waits for the store; the outlet is CLOSED just while AUX is permitted and the outlet's
value is on (R102, R103, R109). -/
def PermOk (d : Device) : Prop :=
  let p := d.sched.perm
  let v := d.bank.vstate
  (∀ l, p.get l = true → v ≠ .cutoff ∧
    (d.budget.modes.get l = .full ∨ (d.budget.modes.get l = .alternate ∧ d.sched.frame % 2 = 1))) ∧
  (p.cool = true ∨ p.aux = true → d.sched.claim = false ∧ v ≠ .high) ∧
  d.sched.outletClosed = (p.aux && d.sched.outletOn)

/-- A GRANTED record of a function (R22). -/
def GrantedOn (d : Device) (fn : Fn) (r : Record) : Prop := ∃ h, (h, r) ∈ records d ∧ r.fn = fn ∧ r.state = .granted

/-- The effective values are those of the GRANTED records: the highest heat setpoint and the lowest cool target, or no demand
where there is none, the outlet on while there is one, and a channel's level that of its latest record, 0 without one
(R22). -/
def ValuesOk (d : Device) : Prop :=
  (∀ t, d.heater.demand = some t ↔
    (∃ r p, GrantedOn d .heater r ∧ r.params = .heat t p) ∧
      ∀ r t' p, GrantedOn d .heater r → r.params = .heat t' p → t' ≤ t) ∧
  (∀ t, d.fridge.target = some t ↔
    (∃ r, GrantedOn d .fridge r ∧ r.params = .cool t) ∧
      ∀ r t', GrantedOn d .fridge r → r.params = .cool t' → t ≤ t') ∧
  (d.sched.outletOn = true ↔ ∃ r, GrantedOn d .outlet r) ∧
  (∀ c, ((¬ ∃ r, GrantedOn d (.lamp c) r) → (d.lamps.get c).effective = 0) ∧
    ∀ r x, GrantedOn d (.lamp c) r → r.params = .lamp x →
      (∀ r', GrantedOn d (.lamp c) r' → r' ≠ r → r'.seq < r.seq) → (d.lamps.get c).effective = x)

/-- No two live records have one amendment sequence, and none passes the counter (R20). -/
def SeqsOk (d : Device) : Prop :=
  ((records d).map fun hr => hr.2.seq).Nodup ∧ ∀ hr ∈ records d, hr.2.seq ≤ d.table.counter

/-- No power step above 1 stands in HIGH (R112, R121). -/
def HighOk (d : Device) : Prop := 1 < d.heater.step → d.bank.vstate ≠ .high

/-- A channel's target and output stay within the cap; a faulted channel is dark (R149, R153, R155). -/
def LampOk (cap : Nat) (l : Lamp) : Prop :=
  l.target ≤ cap ∧ l.out ≤ cap * 10 ∧ (l.fault = true → l.target = 0 ∧ l.out = 0)

def LampsOk (d : Device) : Prop := ∀ c, LampOk d.budget.cap (d.lamps.get c)

/-- A channel's target before the cap is the greater of its effective level and each ramp that covers it, 0 under a fault,
and its target is that within the cap (R149). -/
def LampFormed (cap : Nat) (l : Lamp) : Prop :=
  (∀ n, l.before = n ↔ (l.fault = true ∧ n = 0) ∨ (l.fault = false ∧
    l.effective ≤ n ∧ (∀ dr x, l.ramp.get dr = some x → x ≤ n) ∧
    (n = l.effective ∨ ∃ dr, l.ramp.get dr = some n))) ∧
  (l.before ≤ cap → l.target = l.before) ∧ (cap < l.before → l.target = cap)

def LampsFormed (d : Device) : Prop := ∀ c, LampFormed d.budget.cap (d.lamps.get c)

/-- The rest counters stop at 604,800 s (R160), the acknowledgement state is NONE just where no warning is active
(R171), and a dash sounding runs for a subject of the dash alarm only (R172). -/
def AccountOk (a : Account) : Prop :=
  (a.cd ≤ 604800 ∧ a.dd ≤ 604800 ∧ a.bl ≤ 604800 ∧ a.rl ≤ 604800) ∧
  (levelRank a.warnings = 0 ↔ a.ack = .none) ∧ (a.sounding = true → a.subject = true)

def AccountsOk (d : Device) : Prop := ∀ dr, AccountOk (d.accounts.get dr)

/-- In bus-off no frame waits, and outside it the transmit error count is below 256 (R189). -/
def VehicleOk (d : Device) : Prop :=
  (d.vehicle.busOff = true → d.vehicle.waiting = none) ∧ (d.vehicle.busOff = false → d.vehicle.txErrors < 256)

/-- A write is in progress just while one is asked for, and the image being written fails its check (R191). -/
def StoreOk (d : Device) : Prop :=
  (d.store.writing = none ↔ d.store.jobs = []) ∧ (d.store.writing = some .a → d.store.a.valid = false) ∧
  (d.store.writing = some .b → d.store.b.valid = false)

/-- The write of a block's own state: the active-table mark, the combustion mark, the stored lockout. -/
def Change.isOwn : Change → Bool
  | .active _ => true
  | .mark _ => true
  | .lockout _ => true
  | .markAndLockout _ _ => true
  | _ => false

/-- The write is one that a request asked for and that an answer follows. -/
def Job.answers (j : Job) : Bool :=
  match j.cont with
  | .answer _ _ _ _ => true
  | _ => false

/-- The write of NONE over the stored lockout, which the answer of a CLEAR_LOCKOUT follows. -/
def Job.clears (j : Job) : Bool :=
  match j.cont with
  | .lockoutCleared _ => true
  | _ => false

/-- A CLEAR_LOCKOUT that the heater sequencer holds. -/
def HeaterMsg.isClear : HeaterMsg → Bool
  | .clear _ => true
  | _ => false

/-- A frame boundary's mark. -/
def Job.isBoundary (j : Job) : Bool :=
  match j.cont with
  | .boundary _ _ => true
  | _ => false

/-- A change of a current (R91). -/
def Job.ofCurrent (j : Job) : Bool :=
  match j.change with
  | .num (.current _) _ => true
  | _ => false

/-- The states in which the heater sequencer asks for a write that it waits for (R119, R123, R124, R126, R127, R130). -/
def Cont.askedIn : Cont → List HeaterState
  | .ignite => [.ignite]
  | .overheat => [.ignite, .run]
  | .attemptFailed => [.ignite, .run]
  | .purgeHot => [.purge]
  | .purgeEnd _ => [.purge]
  | .lockoutCleared _ => [.lockout]
  | .answer _ _ _ _ => []
  | .boundary _ _ => []
  | .nothing => []

/-- The heater sequencer waits for this write. -/
def Job.ofHeater (j : Job) : Bool := !j.cont.askedIn.isEmpty

/-- The slot scheduler waits for this write: a frame boundary's mark, or a change of a current (R91, R101). -/
def Job.ofSched (j : Job) : Bool := j.isBoundary || j.ofCurrent

/-- Out of reset a block waits only for a write that is asked for, an answer is held only while the heater sequencer waits,
and a slot boundary is late only while the scheduler does (R29, R191). -/
def WaitsOk (d : Device) : Prop :=
  d.inReset = false →
    (d.sched.late ≠ [] → d.sched.waiting = true) ∧
    (d.heater.waiting = true → ∃ j ∈ d.store.jobs, j.ofHeater = true) ∧
    (d.sched.waiting = true → ∃ j ∈ d.store.jobs, j.ofSched = true) ∧
    (d.link.heldAnswer.isSome = true → (∃ st, d.link.phase = .serving st) ∧ d.heater.waiting = true)

/-- The requests whose answer is still to come: the writes that an answer follows, the clears of the lockout that are
written or held, and the answer that is held (R29, R192; log entry 51). -/
def openRequests (d : Device) : Nat :=
  (d.store.jobs.filter Job.answers).length + (d.store.jobs.filter Job.clears).length +
    (d.heater.held.filter HeaterMsg.isClear).length + (if d.link.heldAnswer.isSome then 1 else 0)

/-- Every write of a setting answers a request. Out of reset at most one request is open at a time, and the port serves a
station while one is (R29, R192). -/
def JobsOk (d : Device) : Prop :=
  (∀ j ∈ d.store.jobs, j.change.isOwn = true ∨ j.answers = true) ∧
  (d.inReset = false → openRequests d ≤ 1 ∧ (openRequests d = 1 → ∃ st, d.link.phase = .serving st))

/-- Both lock marks are set (R58). -/
def Locked (d : Device) : Prop := d.bank.cabMark = true ∧ d.bank.fleetMark = true

/-- From one parameter set to another the floor does not fall and no lane leaves the protected set (R59). -/
def KeepsLocked (old new : Settings) : Prop :=
  old.floor ≤ new.floor ∧ ∀ l, old.protectedSet.get l = true → new.protectedSet.get l = true

/-- While both marks are set, no write that is asked for lowers the floor or takes a lane out of the protected set (R59). -/
def LockOk (d : Device) : Prop :=
  JobsOk d ∧ (Locked d → ∀ j ∈ d.store.jobs, KeepsLocked d.settings (applyChange j.change d.settings))

/-- Every entry of both tables passes the peak check under the currents of the same set (R93, R94). -/
def TablesFit (s : Settings) : Prop :=
  ∀ t, ∀ e ∈ (s.tables.get t).entries, entryCurrent s.currents e ≤ s.currents.peak

/-- The rated currents of the lanes that have permission. -/
def permitted (d : Device) : Nat :=
  let c := d.settings.currents
  let p := d.sched.perm
  (if p.heat then c.rHeat else 0) + (if p.cool then c.rCool else 0) + (if p.aux then c.rAux else 0)

/-- A change of a current that waits for its write finds the heavy loads idle and keeps them so (R91, R106). -/
def IdleKept (d : Device) : Prop :=
  currentsPending d = true →
    loadsIdle d = true ∧ d.heater.waiting = false ∧ d.sched.waiting = true ∧ d.sched.perm = ⟨false, false, false⟩

/-- The heater sequencer waits for just one write and stays in the state that asked for it, a failed attempt without the
claim, and it holds messages only while it waits (R119, R120, R191). -/
def HeaterWaits (d : Device) : Prop :=
  (d.heater.waiting = false → d.heater.held = []) ∧
  (d.store.jobs.filter Job.ofHeater).length = (if d.heater.waiting then 1 else 0) ∧
  (∀ j ∈ d.store.jobs, j.ofHeater = true → d.heater.state ∈ j.cont.askedIn) ∧
  (∀ j ∈ d.store.jobs, j.cont = .attemptFailed → d.heater.claim = false)

/-- What the peak limit rests on: validated tables, in force, in both images and in every write asked for; permissions,
claim and plug within the limit; and currents that change only with the loads idle (R91, R94, R104, R106). -/
def PeakOk (d : Device) : Prop :=
  TablesFit d.settings ∧ TablesFit d.store.a.content ∧ TablesFit d.store.b.content ∧
  (∀ j ∈ d.store.jobs, ∀ t i es, j.change = .entries t i es →
    ∀ e ∈ es, entryCurrent d.settings.currents e ≤ d.settings.currents.peak) ∧
  permitted d ≤ d.settings.currents.peak ∧
  (d.sched.claim = true → d.settings.currents.rGlow ≤ d.settings.currents.peak) ∧
  (d.sched.claim = true → d.heater.state = .preglow ∨ d.heater.state = .ignite) ∧
  (d.heater.plug = true → d.sched.perm.cool = false ∧ d.sched.perm.aux = false) ∧
  (∀ f w, .slot true f w ∈ d.heater.held → d.settings.currents.rGlow ≤ d.settings.currents.peak) ∧
  JobsOk d ∧
  (d.inReset = false → HeaterWaits d ∧ IdleKept d)

/-- In CUTOFF the CUTOFF cause stands on every lane function, and a lane is OFF only with CUTOFF or BUDGET standing on its
function (R12, R66, R72). -/
def CausesOk (d : Device) : Prop :=
  ∀ l, let c := causesOf d.table.causes (laneFn l)
    (d.budget.mode = .cutoff → c.cutoff = true) ∧ (d.budget.modes.get l = .off → c.cutoff = true ∨ c.budget = true)

/-- Out of reset the scheduler waits while a write of its own is asked for, a frame boundary is owed only behind a change of
a current, at most one boundary is written or owed, and none is asked for behind such a change (R91, R101; log entry 52). -/
def SchedOk (d : Device) : Prop :=
  d.inReset = false →
    (∀ j ∈ d.store.jobs, j.ofSched = true → d.sched.waiting = true) ∧
    (d.sched.owed.isSome = true → d.sched.waiting = true ∧ ∃ j ∈ d.store.jobs, j.ofCurrent = true) ∧
    (d.store.jobs.filter Job.isBoundary).length + (if d.sched.owed.isSome then 1 else 0) ≤ 1 ∧
    d.store.jobs.Pairwise fun j k => j.ofCurrent = true → k.isBoundary = false

/-- A record of a driver's rest function is a station's and the plan that the plan unit holds for the driver, and a record
in a reserved slot is INTERNAL; an INTERNAL record stands in its driver's reserved slot and serves that driver's plan
(R7, R26, R177). -/
def PlansOk (d : Device) : Prop :=
  (∀ dr h, (d.plans.get dr).plan = some h → ∃ r, lookup d h = some r ∧ r.fn = .rest dr) ∧
  (∀ h r, lookup d h = some r →
    (∀ dr, r.fn = .rest dr → r.owner ≠ .internal ∧ (d.plans.get dr).plan = some h) ∧
    (46 ≤ h.slot → r.owner = .internal) ∧
    (r.owner = .internal → r.fn = .heater ∧ ∃ dr t p, h.slot = internalSlot dr ∧ r.params = .heat t (some p) ∧
      (d.plans.get dr).plan = some p))

/-- Every live entry of a station's set names a live record that marks that station, and no record twice; between commands
no record is kept quiet and no plan is leaving (R13, R42; log entry 4). -/
def SetsOk (d : Device) : Prop :=
  (∀ st, ((d.link.stations.get st).entries.filter fun e => !e.isRetired).Nodup ∧
    ∀ h, .live h ∈ (d.link.stations.get st).entries → ∃ r, lookup d h = some r ∧ noticeStation d r = some st) ∧
  d.table.quiet = none ∧ d.table.leaving = none

/-- The kind whose parameters these are (R4). -/
def paramsKind : Params → Kind
  | .heat _ _ => .heatHold
  | .cool _ => .coolHold
  | .lamp _ => .lamp
  | .aux => .auxOn
  | .plan _ => .restPlan

/-- A record's kind is that of its function, and its parameters are those of its kind (R1, R4, R8). -/
def KindsOk (d : Device) : Prop :=
  ∀ h r, lookup d h = some r → r.kind = fnKind r.fn ∧ paramsKind r.params = fnKind r.fn

/-- What the causes, the waits of the scheduler, the plans, the notice sets and the records' parameters rest on. -/
def BondsOk (d : Device) : Prop :=
  JobsOk d ∧ CausesOk d ∧ SchedOk d ∧ PlansOk d ∧ SetsOk d ∧ KindsOk d ∧ ValuesOk d ∧ SeqsOk d

/-- What the drawing of the loads rests on. -/
def DrawOk (d : Device) : Prop :=
  HeaterOk d ∧ LanesOk d ∧ PermOk d ∧ HighOk d ∧ LadderOk d ∧ LampsOk d ∧ LampsFormed d

/-- What the part's books rest on. -/
def BooksOk (d : Device) : Prop :=
  TableOk d ∧ StationsOk d ∧ ChargeOk d ∧ AccountsOk d ∧ VehicleOk d ∧ StoreOk d ∧ WaitsOk d

end Sys2Proof.Machine
end

