-- ==== Sys2Proof/Certificates/Slice0/Obligations.lean ====
section
/-! DEFINITION. The statements for the provers. `Answers i s post` says that command `i` in state `s` answers a next state
with the queue as it was and with `post` of the part; `sameExcept bs` says that every block outside `bs` is unchanged. -/

open Sys2Proof Sys2Proof.Machine

/-! ## The machine, reset and power-on -/

/-- A command at the front of the queue is what the next step carries out, with the queue's rest (the model's step; log
entry 3). On an empty queue the part's clock goes on, in the order that is the model's (log entry 10): nothing in reset;
else the events of the instant join the queue, once, with the leads as they last were (log entry 6) and a sense sample
where an output is lit before the instant's fade step (log entry 75), then whatever has fallen due, a settled candidate first
(log entry 49), a slot boundary with the budget unit's work after the swap and the heater last (log entry 33) and none while
the scheduler waits for a write (log entries 15 and 65), the clearing of the marks once in an engine run (log entry 36), a
missed poll after two instants, a write's completion after one and the rejoining after a hundred (log entry 11); with
nothing due the clock reaches the next instant of 10 ms, and each hundredth adds a second to the timers that count seconds:
the DUE timer of a plan in DUE (R183), the slot time but while a frame boundary waits (log entries 15 and 65), the
compressor's in their states (log entry 60) and the heater's step hold and run timers in RUN (log entry 69). So the rest of
the second in which a timer starts counts as a whole one (log entry 83). -/
def Obligations.FrontCommandRuns : Prop :=
  (∀ (c : Instr) (s : State), step (s.front c) = exec c s) ∧
  (∀ d : Device,
     let idle : State := ⟨d, []⟩
     let cs := d.clock.cs
     let now := d.clock.sec
     (d.inReset = true → step idle = .next idle) ∧
     (d.inReset = false → d.clock.begun = false →
       step idle = .next ⟨{ d with clock := { d.clock with begun := true } },
         (if cs = 0 ∧ 0 < now then [Instr.chargeIntegration, .accrual, .cabStatus] else []) ++
         (if cs % 10 = 0 then [.batterySample d.leads.rawV d.leads.rawI, .lampFadeStep] else []) ++
         (if cs = 0 then [.heaterReading d.leads.cab d.leads.hx, .fridgeSample d.leads.fridge] else []) ++
         (if cs = 0 ∧ d.plans.one.ramp ≠ .none then [.rampLevelTick .one] else []) ++
         (if cs = 0 ∧ d.plans.two.ramp ≠ .none then [.rampLevelTick .two] else []) ++
         (if ∃ c ∈ Channel.all, 0 < (d.lamps.get c).out then [.lampSenseSample d.leads.trips] else [])⟩) ∧
     (d.inReset = false → d.clock.begun = true →
       (dueEvents d ≠ [] → step idle = .next ⟨d, dueEvents d⟩) ∧
       (dueEvents d = [] → ∃ d', step idle = .next ⟨d', []⟩ ∧
         d'.clock = (if cs < 99 then ⟨now, cs + 1, false⟩ else ⟨now + 1, 0, false⟩) ∧
         d'.link = { d.link with ticks := d.link.ticks + 1 } ∧ d'.store.jobs = d.store.jobs ∧
         d'.store.writing = d.store.writing ∧ d'.vehicle.busOffTicks =
           (if d.vehicle.busOff = true then d.vehicle.busOffTicks + 1 else 0) ∧
         (cs < 99 → sameExcept [.clock, .link, .store, .vehicle] d d') ∧
         (99 ≤ cs →
           d'.bank = { d.bank with engineRun := if d.vehicle.running = true then d.bank.engineRun + 1 else 0 } ∧
           d'.heater.state = d.heater.state ∧ d'.heater.stage =
             (if d.heater.state = .preglow ∧ d.heater.plug = false then d.heater.stage else d.heater.stage + 1) ∧
           d'.heater.hold = (if d.heater.state = .run then d.heater.hold + 1 else d.heater.hold) ∧
           d'.heater.runTimer = (if d.heater.state = .run then d.heater.runTimer + 1 else d.heater.runTimer) ∧
           (d.fridge.state = .guard → d'.fridge = { d.fridge with guard := min (d.fridge.guard + 1) 180 }) ∧
           (d.fridge.state = .running → d'.fridge = { d.fridge with run := d.fridge.run + 1 }) ∧
           (boundaryWaits d = false → d'.sched = { d.sched with slotTime := d.sched.slotTime + 1 }) ∧
           (boundaryWaits d = true → d'.sched = d.sched) ∧
           (∀ dr, let u := d.plans.get dr
             (∀ h r p, livePlan d dr = some (h, r, p) → p.sub = .due →
               d'.plans.get dr = { u with dueTimer := min (u.dueTimer + 1) 1800 }) ∧
             ((∀ h r p, livePlan d dr = some (h, r, p) → p.sub ≠ .due) → d'.plans.get dr = u)) ∧
           sameExcept [.clock, .link, .store, .vehicle, .heater, .fridge, .bank, .plans, .sched] d d'))) ∧
     ((∃ dr, (d.accounts.get dr).settled = true ∧ (d.accounts.get dr).candidate ≠ none) →
       ∃ dr rest, dueEvents d = .activitySettled dr :: rest) ∧
     (Instr.slotBoundary false false ∈ dueEvents d ↔
       d.sched.waiting = false ∧ d.sched.slotLength ≤ d.sched.slotTime) ∧
     (Instr.voltageStateChange ∈ dueEvents d ↔ d.bank.due ≠ none) ∧
     (Instr.marksClear ∈ dueEvents d ↔
       d.vehicle.running = true ∧ 600 ≤ d.bank.engineRun ∧ d.bank.runCleared = false) ∧
     (Instr.engineFrameLost ∈ dueEvents d ↔ d.vehicle.running = true ∧ 10 ≤ d.vehicle.engineAge) ∧
     (Instr.activityFrameLost ∈ dueEvents d ↔ 30 ≤ d.vehicle.activityAge ∧ d.vehicle.lostHanded = false) ∧
     (Instr.busOffRejoin ∈ dueEvents d ↔ d.vehicle.busOff = true ∧ 100 ≤ d.vehicle.busOffTicks) ∧
     (∀ h, Instr.recordStart h ∈ dueEvents d ↔ ∃ r t, (h, r) ∈ records d ∧ r.state = .scheduled ∧ r.start = some t ∧
       t ≤ now) ∧
     (∀ c, Instr.overCurrent c ∈ dueEvents d ↔ 2 ≤ (d.lamps.get c).trip) ∧
     (Instr.pollSend ∈ dueEvents d ↔ d.link.phase = .ready) ∧
     (Instr.pollMissed ∈ dueEvents d ↔ (∃ st c, d.link.phase = .awaiting st c) ∧ 2 ≤ d.link.ticks) ∧
     (Instr.storeWriteComplete ∈ dueEvents d ↔ d.store.writing ≠ none ∧ 1 ≤ d.store.ticks))

/-- In reset every command but power-on and a further reset changes nothing: while the part is in reset its operations
have ended and none begins (R193; that each single command is then without effect is log entry 35). -/
def Obligations.InResetOnlyPowerOnActs : Prop :=
  ∀ (c : Instr) (s : State), s.dev.inReset = true → c ≠ .reset → (∀ a b, c ≠ .powerOn a b) → exec c s = .next s

/-- Reset holds every output off and ends every operation where it stands: no poll or answer is under way, writes asked for
are gone, and both images stay as they are (R193). The stations' records, STORE_DEFAULTED and every other block keep their
values until power-on sets them (log entry 35), and the levels of LK_DE and VP_TX are those of R193 (log entry 55 for their
levels outside reset). -/
def Obligations.ResetHoldsOutputsOff : Prop :=
  ∀ s : State, Answers .reset s fun d =>
    d.inReset = true ∧
    outputs d = ⟨false, 0, 0, false, false, ⟨0, 0, 0, 0, 0, 0⟩, false, false, .quiet, .quiet⟩ ∧
    d.link.heldAnswer = none ∧ d.link.phase = .ready ∧ d.link.pollFrame = [] ∧ d.link.answerFrame = [] ∧
    d.link.stations = s.dev.link.stations ∧
    d.store.jobs = [] ∧ d.store.writing = none ∧ d.store.a = s.dev.store.a ∧ d.store.b = s.dev.store.b ∧
    d.store.defaulted = s.dev.store.defaulted ∧
    sameExcept [.inReset, .store, .link] s.dev d

/-- Power-on loads the image with the higher write count among those whose check holds, or the factory set with
STORE_DEFAULTED, and starts every block; the budget unit starts at position 0 of the ladder of the stored settings and makes
its first recomputation, and slot 0 of frame 0 opens (R25, R32, R63, R64, R93, R99, R131, R135, R148, R160, R191, R193). An
image holds its check if it held before and the check at this power-on finds it so; image A is taken where the counts are
equal (log entry 12). The fridge, accounts, plan units and vehicle port are given whole, the model's own fields among theirs
(fridge.turn, account.settled, vehicle.busOffTicks, with clock.begun: log entry 4; a plan unit's next onset: log entry 34),
and the stations' counts with them, 0 also where a station is DISABLED (log entry 77). The glow-start permission of slot 0 is
formed at power-on as at a slot boundary (log entry 81). -/
def Obligations.PowerOnStartsEveryBlock : Prop :=
  ∀ (okA okB : Bool) (s : State), Answers (.powerOn okA okB) s fun d =>
    let a := s.dev.store.a
    let b := s.dev.store.b
    let holdsA := a.valid && okA
    let holdsB := b.valid && okB
    let c := if holdsA && holdsB then (if a.count ≥ b.count then a.content else b.content)
      else if holdsA then a.content else if holdsB then b.content else Config.factory
    d.inReset = false ∧ d.settings = c ∧ d.store.defaulted = (!holdsA && !holdsB) ∧
    d.clock = ⟨0, 0, false⟩ ∧ d.leads = s.dev.leads ∧
    (∀ st, d.link.stations.get st = startStation (c.stations.get st)) ∧ d.link.phase = .ready ∧ d.link.pos = 1 ∧
    d.table.slots = List.replicate 48 ⟨1, none⟩ ∧ d.table.counter = 0 ∧ d.table.queue = [] ∧
    d.table.causes.heater.lockout = decide (c.lockout ≠ .none) ∧
    d.bank.q = c.capacity * 3600 / 2 ∧ d.bank.r = 0 ∧ d.bank.uncalibrated = true ∧ d.bank.vstate = .normal ∧
    d.bank.cabMark = false ∧ d.bank.fleetMark = false ∧ d.bank.engineRun = 0 ∧
    d.sched.slotIndex = 0 ∧ d.sched.frame = 0 ∧ d.sched.slotLength = c.slotLength ∧ d.sched.swapPending = false ∧
    d.sched.claim = false ∧ d.sched.outletClosed = false ∧
    d.heater.state = (if c.combustionMark then .purge else if c.lockout = .none then .off else .lockout) ∧
    d.heater.attempts = 0 ∧ d.heater.plug = false ∧ d.heater.fuel = false ∧ d.heater.step = 0 ∧
    (∀ r, c.combustionMark = false → c.lockout = .pending r →
      d.store.jobs = [⟨.lockout (.inForce r), .nothing⟩] ∧ d.store.writing ≠ none) ∧
    ((c.combustionMark = true ∨ ∀ r, c.lockout ≠ .pending r) → d.store.jobs = [] ∧ d.store.writing = none) ∧
    (let o := c.shedOrder
     o.first ≠ o.second → o.second ≠ o.third → o.first ≠ o.third →
       let g := d.budget
       let at' := fun n : Nat => projectAt d n none
       let e := (c.tables.get c.active).entries.getD 0 ⟨false, false, false, false⟩
       g.ladder = ladderOf o c.protectedSet ∧ g.position ≤ g.ladder.length ∧
       (∀ n, n < g.position → (at' n).m < 0) ∧ (0 ≤ (at' g.position).m ∨ g.position = g.ladder.length) ∧
       g.modes = modesAt g.ladder g.position ∧ g.cap = capAt g.ladder g.position ∧ g.proj = at' g.position ∧
       g.mode = (if (at' g.position).m < 0 then .short else if g.position = 0 then .nominal else .curtailed) ∧
       g.tminBelow = decide (g.proj.tmin < 60) ∧
       d.sched.perm = ⟨e.heat && decide (g.modes.heat = .full), e.cool && decide (g.modes.cool = .full),
         e.aux && decide (g.modes.aux = .full)⟩ ∧
       d.sched.glowStart = (e.glow && decide (g.modes.heat ≠ .off))) ∧
    d.fridge = ⟨.guard, 0, 0, false, none, false, 0, 0, false, none⟩ ∧
    (∀ ch, d.lamps.get ch = ⟨0, ⟨none, none⟩, 0, 0, 0, 0, false⟩) ∧
    (∀ dr, d.accounts.get dr = startAccount) ∧ (∀ dr, d.plans.get dr = PlanUnit.empty) ∧
    d.vehicle = ⟨false, 0, 0, false, 0, false, 0, none⟩

/-! ## The store -/

/-- A write goes to the image with the lower write count, which takes a count one above the other's and fails its check
until the write is complete; an image that fails its check counts as 0, and image A is taken where the counts are equal
(log entry 12). So a loss of supply during a write leaves the previous content intact: the next power-on loads it (R191). -/
def Obligations.WritesKeepOneGoodImage : Prop :=
  (∀ (c : Change) (k : Cont) (d : Device), d.store.writing = none → d.store.jobs = [] →
     let countA := if d.store.a.valid then d.store.a.count else 0
     let countB := if d.store.b.valid then d.store.b.count else 0
     let d' := askWrite c k d
     sameExcept [.store] d d' ∧ d'.store.jobs = [⟨c, k⟩] ∧
     (countA ≤ countB → d'.store.writing = some .a ∧ d'.store.b = d.store.b ∧
       d'.store.a = ⟨false, countB + 1, applyChange c d.settings⟩) ∧
     (countB < countA → d'.store.writing = some .b ∧ d'.store.a = d.store.a ∧
       d'.store.b = ⟨false, countA + 1, applyChange c d.settings⟩)) ∧
  (∀ (s t u : State), StoreOk s.dev →
     (s.dev.store.writing = some .a → s.dev.store.b.valid = true → exec .reset s = .next t →
       exec (.powerOn true true) t = .next u → u.dev.settings = s.dev.store.b.content) ∧
     (s.dev.store.writing = some .b → s.dev.store.a.valid = true → exec .reset s = .next t →
       exec (.powerOn true true) t = .next u → u.dev.settings = s.dev.store.a.content))

/-- When the write of a request is complete its image holds, its value is in force, STORE_DEFAULTED is clear and the
answer is sent, since no block waits for the store; with no further write asked for, the store rests (R29, R191, R192).
Where the write is a block's own and an answer is held for the heater sequencer, the answer is held on while that waits, and
is sent when it does not, with what it carries read then (R8, R29; log entry 51). -/
def Obligations.AnsweredWriteCompletes : Prop :=
  (∀ (s : State) (i : ImageId) (c : Change) (st : Station) (ty : Byte) (code : AnswerCode) (spec : AnswerSpec),
    s.dev.inReset = false → s.dev.store.writing = some i → s.dev.store.jobs = [⟨c, .answer st ty code spec⟩] →
    NoneWaits s.dev → s.dev.sched.waiting = false → Answers .storeWriteComplete s fun d =>
      d.settings = applyChange c s.dev.settings ∧ d.store.defaulted = false ∧
      d.store.jobs = [] ∧ d.store.writing = none ∧
      (i = .a → d.store.a = { s.dev.store.a with valid := true } ∧ d.store.b = s.dev.store.b) ∧
      (i = .b → d.store.b = { s.dev.store.b with valid := true } ∧ d.store.a = s.dev.store.a) ∧
      AnsweredFrame st ty code (specBytes d st spec) d ∧
      d.clock = s.dev.clock ∧ d.plans = s.dev.plans ∧ d.vehicle = s.dev.vehicle ∧ d.leads = s.dev.leads) ∧
  (∀ (s : State) (i : ImageId) (j : Job) (rest : List Job) (a : HeldAnswer),
    s.dev.inReset = false → s.dev.store.writing = some i → s.dev.store.jobs = j :: rest → j.answers = false →
    (∀ st, j.cont ≠ .lockoutCleared st) → (∀ st, .clear st ∉ s.dev.heater.held) → s.dev.sched.late = [] →
    s.dev.link.heldAnswer = some a → Answers .storeWriteComplete s fun d =>
      (d.heater.waiting = true → d.link.heldAnswer = some a) ∧
      (d.heater.waiting = false → d.link.heldAnswer = none ∧
        AnsweredFrame a.station a.type a.code (specBytes d a.station a.spec) d))

/-! ## Polling -/

/-- The next poll goes to the station at which the port stands, if it is ONLINE, or OFFLINE with a skip count of 0: then its
count becomes 7 and its poll carries no notice. An OFFLINE station with a count above 0 is passed over, its count falls
by 1, and the ONLINE station after it is polled in the same visit; a DISABLED one is passed over. After the last address
the next cycle begins at address 1, at once where a station has been polled. A cycle in which no station is polled, every
enabled one OFFLINE with a count above 0, takes 1 from each of their counts and is followed by the pause, whose end begins
the next cycle at address 1 (R28, R29). -/
def Obligations.PollingVisitsTheStations : Prop :=
  (∀ (s : State) (st : Station), s.dev.inReset = false → s.dev.link.phase = .ready →
     s.dev.link.pos = stationAddress st →
     ((s.dev.link.stations.get st).link = .online →
       Answers .pollSend s fun d =>
         let chosen := chooseNotice s.dev st (s.dev.link.stations.get st)
         d.link.phase = .awaiting st (!chosen.1.isEmpty) ∧
         d.link.pollFrame = frame false (stationAddress st) 0#8 chosen.1 ∧ d.link.answerFrame = [] ∧
         d.link.pos = stationAddress st + 1 ∧ d.link.polled = true ∧
         d.link.stations = s.dev.link.stations.set chosen.2 st ∧ sameExcept [.link] s.dev d) ∧
     ((s.dev.link.stations.get st).link = .offline → (s.dev.link.stations.get st).skip = 0 →
       Answers .pollSend s fun d =>
         d.link.phase = .awaiting st false ∧
         d.link.pollFrame = frame false (stationAddress st) 0#8 [] ∧ d.link.answerFrame = [] ∧
         d.link.pos = stationAddress st + 1 ∧ d.link.polled = true ∧
         d.link.stations = s.dev.link.stations.set { s.dev.link.stations.get st with skip := 7 } st ∧
         sameExcept [.link] s.dev d)) ∧
  (∀ (s : State) (st st' : Station) (n : Nat), s.dev.inReset = false → s.dev.link.phase = .ready →
     s.dev.link.pos = stationAddress st → stationAddress st' = stationAddress st + 1 →
     (s.dev.link.stations.get st).link = .offline → (s.dev.link.stations.get st).skip = n + 1 →
     (s.dev.link.stations.get st').link = .online →
     Answers .pollSend s fun d =>
       (d.link.stations.get st).skip = n ∧ (d.link.stations.get st).link = .offline ∧
       (∃ c, d.link.phase = .awaiting st' c) ∧ d.link.pos = stationAddress st' + 1 ∧
       (∀ x, x ≠ st → x ≠ st' → d.link.stations.get x = s.dev.link.stations.get x) ∧ sameExcept [.link] s.dev d) ∧
  (∀ s : State, s.dev.inReset = false → s.dev.link.phase = .ready → s.dev.link.pos = 7 → s.dev.link.polled = true →
     (∀ st, (s.dev.link.stations.get st).link = .online →
       (∀ x, stationAddress x < stationAddress st → (s.dev.link.stations.get x).link = .disabled) →
       Answers .pollSend s fun d =>
         (∃ c, d.link.phase = .awaiting st c) ∧ d.link.pos = stationAddress st + 1 ∧ d.link.polled = true ∧
         (∀ x, x ≠ st → d.link.stations.get x = s.dev.link.stations.get x) ∧ sameExcept [.link] s.dev d) ∧
     ((∀ st, (s.dev.link.stations.get st).link = .disabled ∨
         ((s.dev.link.stations.get st).link = .offline ∧ 0 < (s.dev.link.stations.get st).skip)) →
       Answers .pollSend s fun d =>
         d.link.phase = .pausing ∧ d.link.polled = false ∧
         (∀ st, (s.dev.link.stations.get st).link = .offline → d.link.stations.get st =
           { s.dev.link.stations.get st with skip := (s.dev.link.stations.get st).skip - 1 }) ∧
         (∀ st, (s.dev.link.stations.get st).link = .disabled → d.link.stations.get st = s.dev.link.stations.get st) ∧
         sameExcept [.link] s.dev d)) ∧
  (∀ s : State, s.dev.inReset = false → s.dev.link.phase = .ready → s.dev.link.pos = 1 → s.dev.link.polled = false →
     (∀ st, (s.dev.link.stations.get st).link = .disabled ∨
       ((s.dev.link.stations.get st).link = .offline ∧ 0 < (s.dev.link.stations.get st).skip)) →
     Answers .pollSend s fun d =>
       d.link.phase = .pausing ∧ d.link.pollFrame = s.dev.link.pollFrame ∧
       (∀ st, (s.dev.link.stations.get st).link = .offline → d.link.stations.get st =
         { s.dev.link.stations.get st with skip := (s.dev.link.stations.get st).skip - 1 }) ∧
       (∀ st, (s.dev.link.stations.get st).link = .disabled → d.link.stations.get st = s.dev.link.stations.get st) ∧
       sameExcept [.link] s.dev d) ∧
  (∀ s : State, s.dev.inReset = false → s.dev.link.phase = .pausing →
     Answers .cyclePauseEnd s fun d =>
       d.link.phase = .ready ∧ d.link.pos = 1 ∧ d.link.polled = false ∧
       d.link.stations = s.dev.link.stations ∧ sameExcept [.link] s.dev d)

/-- The one notice of a poll frame is the first that applies in the order RESTARTED, RESYNC, WARNING of driver 1 and of
driver 2, HEATER, BUDGET, oldest entry; its sending clears what it reports and nothing else (R44, R45, R198). -/
def Obligations.NoticesGoInOrder : Prop :=
  ∀ (d : Device) (st : Station) (p : StationLink), p.link = .online →
    let r := chooseNotice d st p
    (p.flags.restarted = true →
      r = ([2#8], { p with flags := { p.flags with restarted := false, resync := false } })) ∧
    (p.flags.restarted = false → p.flags.resync = true →
      r = ([1#8], { p with flags := { p.flags with resync := false } })) ∧
    (p.flags.restarted = false → p.flags.resync = false →
      (p.flags.warning.one = true →
        r = (warningNotice d .one, { p with flags := { p.flags with warning := ⟨false, p.flags.warning.two⟩ } })) ∧
      (p.flags.warning.one = false → p.flags.warning.two = true →
        r = (warningNotice d .two, { p with flags := { p.flags with warning := ⟨false, false⟩ } })) ∧
      (p.flags.warning.one = false → p.flags.warning.two = false →
        (p.flags.heater = true →
          r.1 = [4#8, byte (heaterCode d.heater.state), byte (failureCode p.failure), byte (lockoutShown d)] ∧
          r.2 = { p with flags := { p.flags with heater := false }, failure := .none }) ∧
        (p.flags.heater = false → p.flags.budget = true →
          r.1 = [5#8, byte (modeCode d.budget.mode), byte d.budget.position, byte d.budget.cap,
            byte (d.budget.proj.tmin / 256), byte d.budget.proj.tmin] ∧
          r.2 = { p with flags := { p.flags with budget := false } }) ∧
        (p.flags.heater = false → p.flags.budget = false →
          (p.entries = [] → r = ([], p)) ∧
          (∀ h es, p.entries = .live h :: es → r = (6#8 :: noticeBlock d st h, { p with entries := es })) ∧
          (∀ h fn w es, p.entries = .retired h fn w :: es →
            r = ([7#8, byte h.slot, byte h.gen, byte (localNumber d st fn), byte (retireCode w)],
              { p with entries := es })))))

/-- A good IDLE reply ends the poll with no answer: an OFFLINE station becomes ONLINE with RESYNC set, an ONLINE one has its
missed count back at 0. A missed poll adds 1 to an ONLINE station's missed count and sets RESYNC where the poll carried a
notice; at 3 the station goes OFFLINE, its set, flags and failure kind emptied and its skip count 7. An OFFLINE station's
miss changes nothing, and no record changes (R29 to R31). -/
def Obligations.RepliesAndMissesEndThePoll : Prop :=
  (∀ (s : State) (st : Station), Polled st s.dev →
     Answers .idleReply s fun d =>
       let p := s.dev.link.stations.get st
       d.link.phase = .ready ∧ d.link.answerFrame = s.dev.link.answerFrame ∧
       (p.link = .offline → d.link.stations.get st =
         { p with link := .online, missed := 0, flags := { p.flags with resync := true } }) ∧
       (p.link = .online → d.link.stations.get st = { p with missed := 0 }) ∧
       (∀ x, x ≠ st → d.link.stations.get x = s.dev.link.stations.get x) ∧ sameExcept [.link] s.dev d) ∧
  (∀ (s : State) (st : Station) (carried : Bool), s.dev.inReset = false →
     s.dev.link.phase = .awaiting st carried →
     Answers .pollMissed s fun d =>
       let p := s.dev.link.stations.get st
       d.link.phase = .ready ∧
       (p.link = .online → p.missed + 1 < 3 → d.link.stations.get st = { p with
         missed := p.missed + 1, flags := { p.flags with resync := p.flags.resync || carried } }) ∧
       (p.link = .online → 3 ≤ p.missed + 1 → d.link.stations.get st =
         ⟨.offline, p.missed + 1, 7, [], Flags.none, .none⟩) ∧
       (p.link ≠ .online → d.link.stations.get st = p) ∧
       (∀ x, x ≠ st → d.link.stations.get x = s.dev.link.stations.get x) ∧ sameExcept [.link] s.dev d)

/-! ## Refusals -/

/-- A request whose body its type does not allow is answered BAD_VALUE, an unknown type UNKNOWN_REQUEST, a request without
its station-level right or lock role NO_RIGHT, and a CONFIGURE of a number that R201 does not assign, that is read-only or
that has a value of another size BAD_VALUE; beyond the good reply nothing changes in any block (R37, R192, R198, R201). -/
def Obligations.RefusedRequestsChangeNothing : Prop :=
  (∀ (s : State) (st : Station), Polled st s.dev →
     (∀ p ∈ [(Instr.lookupByHandle none, 0x11#8), (.lookupByFunction none, 0x11#8), (.lookupOwnRecords none, 0x11#8),
         (.create none, 0x12#8), (.amend none, 0x13#8), (.retire none, 0x14#8), (.status false, 0x15#8),
         (.ackWarning none, 0x16#8), (.scheduleWrite none, 0x20#8), (.scheduleLength none, 0x21#8),
         (.scheduleCopy false, 0x22#8), (.scheduleSwap false, 0x23#8), (.setFloor none, 0x24#8),
         (.setProtect none, 0x25#8), (.clearLockout false, 0x26#8), (.restart false, 0x27#8), (.lockMark false, 0x28#8),
         (.readConfig none, 0x31#8), (.readTable .a none, 0x31#8), (.readTable .b none, 0x31#8)],
       Answers p.1 s fun d => AnsweredOnly st p.2 .badValue [] s.dev d ∧ sameExcept [.link] s.dev d) ∧
     (∀ ty, Answers (.unknownRequest ty) s fun d =>
       AnsweredOnly st ty .unknownRequest [] s.dev d ∧ sameExcept [.link] s.dev d)) ∧
  (∀ (s : State) (st : Station), Polled st s.dev →
     ((s.dev.settings.stations.get st).control = false → ∀ w b n run,
       run.entries.length = run.count.toNat →
       ∀ p ∈ [(Instr.scheduleWrite (some run), 0x20#8), (.scheduleLength (some n), 0x21#8), (.scheduleCopy true, 0x22#8),
           (.scheduleSwap true, 0x23#8), (.scheduleSwapCancel, 0x23#8), (.setFloor (some w), 0x24#8),
           (.setProtect (some b), 0x25#8), (.clearLockout true, 0x26#8), (.restart true, 0x27#8)],
         Answers p.1 s fun d => AnsweredOnly st p.2 .noRight [] s.dev d ∧ sameExcept [.link] s.dev d) ∧
     ((s.dev.settings.stations.get st).configure = false → ∀ w b v3 v5 st' wi th sc cu rp bf t run,
       (∀ p ∈ [Instr.configureCapacity w, .configureFullVoltage w, .configureThreshold th w, .configureDebounce th b,
           .configureSenseScaling sc w, .configureShedOrder b b b, .configureBudgetSetting bf, .configureCurrents cu w,
           .configureSlotLength b, .configureDeferralLimit b, .configureFadeRate b, .configureRestParameter rp w,
           .configureWindow st' wi v5, .configureStationLevel st' v3, .configureIdentifierBase w],
         Answers p s fun d => AnsweredOnly st 0x30#8 .noRight [] s.dev d ∧ sameExcept [.link] s.dev d) ∧
       (∀ p ∈ [Instr.readConfig (some b), .readTable t (some run)],
         Answers p s fun d => AnsweredOnly st 0x31#8 .noRight [] s.dev d ∧ sameExcept [.link] s.dev d)) ∧
     ((s.dev.settings.stations.get st).role = .none →
       Answers (.lockMark true) s fun d => AnsweredOnly st 0x28#8 .noRight [] s.dev d ∧ sameExcept [.link] s.dev d)) ∧
  (∀ (s : State) (st : Station) (number : Option Byte) (size : Nat), Polled st s.dev →
     (s.dev.settings.stations.get st).configure = true →
     Answers (.configureUnknown number size) s fun d =>
       AnsweredOnly st 0x30#8 .badValue [] s.dev d ∧ sameExcept [.link] s.dev d)

/-! ## Records -/

/-- LOOKUP by handle: a stale handle is answered BAD_HANDLE, a function that no window of the station reaches NOT_MAPPED,
another's record without the LOOKUP right NO_RIGHT, and any other the record's block; nothing changes. The block of a
record is, byte by byte: handle, local function, kind, owner, class, state, reason, amendment sequence, minutes to start
and end, deferral limit, minutes to the deadline, queue position, kind parameters, clamp mask (R2, R4, R6, R21, R35, R37,
R198). Minutes are truncated and 0 for a second already past (log entry 32), and the plan that an INTERNAL record serves
stands after its setpoint (log entry 53); the channel set of a plan without a wake light is 0 (log entry 64). -/
def Obligations.LookupAnswersTheRecord : Prop :=
  (∀ (s : State) (st : Station) (w : Word16), Polled st s.dev →
     let h : Handle := ⟨w.toNat / 256, w.toNat % 256⟩
     (lookup s.dev h = none → Answers (.lookupByHandle (some w)) s fun d =>
       AnsweredOnly st 0x11#8 .badHandle [] s.dev d ∧ sameExcept [.link] s.dev d) ∧
     (∀ r, lookup s.dev h = some r → windowOf s.dev st r.fn = none → Answers (.lookupByHandle (some w)) s fun d =>
       AnsweredOnly st 0x11#8 .notMapped [] s.dev d ∧ sameExcept [.link] s.dev d) ∧
     (∀ r win, lookup s.dev h = some r → windowOf s.dev st r.fn = some win →
       Answers (.lookupByHandle (some w)) s fun d => sameExcept [.link] s.dev d ∧
         (r.owner = .station st ∨ win.rights.lookup = true →
           AnsweredOnly st 0x11#8 .ok (answerBlock s.dev st h 0) s.dev d) ∧
         (r.owner ≠ .station st → win.rights.lookup = false → AnsweredOnly st 0x11#8 .noRight [] s.dev d))) ∧
  (∀ (d : Device) (st : Station) (h : Handle) (r : Record) (mask : Nat), lookup d h = some r →
     let two : Nat → List Byte := fun n => [byte (n / 256), byte n]
     let minutes : Option Nat → List Byte := fun t =>
       match t with
       | some t => two (min 9999 ((t - d.clock.sec) / 60))
       | none => [0xFF#8, 0xFF#8]
     let flag : Bool → Byte := fun b => if b then 1#8 else 0#8
     let params : List Byte := match r.params with
       | .heat t none => be16i t
       | .heat t (some plan) => be16i t ++ [byte plan.slot, byte plan.gen]
       | .cool t => be16i t
       | .lamp level => [byte level]
       | .aux => []
       | .plan p => two p.len ++ [byte p.lead] ++ (match p.preheat with
           | some t => be16i t
           | none => [0x7F#8, 0xFF#8]) ++
         (match p.light with
           | some w =>
             let c := w.channels
             [byte ((if c.c8 then 1 else 0) + (if c.c9 then 2 else 0) + (if c.c10 then 4 else 0) +
               (if c.c11 then 8 else 0) + (if c.c12 then 16 else 0) + (if c.c13 then 32 else 0)), byte w.level]
           | none => [0#8, 0xFF#8]) ++ [flag p.buzzer, byte (subCode p.sub)] ++ minutes p.plannedEnd ++
         [flag p.atRisk] ++ (match p.internal with
           | some i => [byte i.slot, byte i.gen]
           | none => [0#8, 0#8])
     answerBlock d st h mask =
       [byte h.slot, byte h.gen, byte (localNumber d st r.fn), byte (kindCode r.kind), byte (ownerCode r.owner),
         byte (classCode r.cls), byte (stateCode r.state), byte (reasonCode r.reason),
         byte (r.seq / 16777216), byte (r.seq / 65536), byte (r.seq / 256), byte r.seq] ++
       minutes r.start ++ minutes r.endAt ++ [byte r.limit] ++ minutes r.deadline ++
       [byte (queuePosition h d.table.queue)] ++ params ++ two mask)

/-- The list forms of LOOKUP answer at most 8 handles in ascending slot order from the first slot on, with a more flag. A
local number that does not translate, or to a number that no function has, is refused NOT_MAPPED, and a list without the
LOOKUP right NO_RIGHT; nothing changes (R1, R21, R34, R37, R198). A first slot above 47 is taken as 47 and answered
OK_CLAMPED without an echo (log entry 8). -/
def Obligations.ListsAnswerEightHandles : Prop :=
  (∀ (s : State) (st : Station) (first : Byte), Polled st s.dev →
    let code : AnswerCode := if first.toNat ≤ 47 then .ok else .okClamped
    let page : List Handle → List Byte := fun hs =>
      let hs := hs.filter fun h => decide (min first.toNat 47 ≤ h.slot)
      [byte (min 8 hs.length), if hs.length > 8 then 1#8 else 0#8] ++
        (hs.take 8).flatMap fun h => [byte h.slot, byte h.gen]
    (∀ l fn win, translate s.dev st l.toNat = some (fnNumber fn, win) → win.rights.lookup = true →
      Answers (.lookupByFunction (some ⟨l, first⟩)) s fun d => sameExcept [.link] s.dev d ∧
        AnsweredOnly st 0x11#8 code
          (page (((records s.dev).filter fun hr => hr.2.fn = fn).map Prod.fst)) s.dev d) ∧
    ((∃ w ∈ windowList s.dev st, w.rights.lookup = true) →
      Answers (.lookupOwnRecords (some first)) s fun d => sameExcept [.link] s.dev d ∧
        AnsweredOnly st 0x11#8 code
          (page (((records s.dev).filter fun hr => hr.2.owner = .station st).map Prod.fst)) s.dev d)) ∧
  (∀ (s : State) (st : Station) (l first : Byte), Polled st s.dev →
    let refusal := fun (i : Instr) (code : AnswerCode) => Answers i s fun d =>
      AnsweredOnly st 0x11#8 code [] s.dev d ∧ sameExcept [.link] s.dev d
    (translate s.dev st l.toNat = none → refusal (.lookupByFunction (some ⟨l, first⟩)) .notMapped) ∧
    (∀ n win, translate s.dev st l.toNat = some (n, win) →
      (win.rights.lookup = false → refusal (.lookupByFunction (some ⟨l, first⟩)) .noRight) ∧
      (win.rights.lookup = true → (∀ fn, fnNumber fn ≠ n) →
        refusal (.lookupByFunction (some ⟨l, first⟩)) .notMapped)) ∧
    ((∀ w ∈ windowList s.dev st, w.rights.lookup = false) → refusal (.lookupOwnRecords (some first)) .noRight))

/-- A local number is translated by the first window, in window order, whose local range holds it, and that window is the
one whose rights count; it does not translate above 63, where no window holds it, or where the global number would exceed
63. A LOOKUP by function or a CREATE whose number does not translate, or translates to a number that no function has, is
answered NOT_MAPPED, and nothing changes (R34). -/
def Obligations.FirstWindowTranslates : Prop :=
  (∀ (s : State) (st : Station) (first : Byte) (b : CreateBody), Polled st s.dev →
    fieldsFit (kindOfCode b.kind) b.fields = true →
    let look := Instr.lookupByFunction (some ⟨b.fn, first⟩)
    let refusal := fun (i : Instr) (ty : Byte) => Answers i s fun d =>
      AnsweredOnly st ty .notMapped [] s.dev d ∧ sameExcept [.link] s.dev d
    (translate s.dev st b.fn.toNat = none → refusal look 0x11#8 ∧ refusal (.create (some b)) 0x12#8) ∧
    (∀ n win, translate s.dev st b.fn.toNat = some (n, win) → (∀ fn, fnNumber fn ≠ n) →
      (win.rights.lookup = true → refusal look 0x11#8) ∧
      (win.rights.changeOwn = true ∨ win.rights.changeAny = true → refusal (.create (some b)) 0x12#8))) ∧
  ∀ (d : Device) (st : Station) (n : Nat),
    let ws := windowList d st
    (63 < n → translate d st n = none) ∧
    ((∀ w ∈ ws, ¬ (w.base ≤ n ∧ n < w.base + w.size)) → translate d st n = none) ∧
    (∀ before w after, ws = before ++ w :: after → (∀ x ∈ before, ¬ (x.base ≤ n ∧ n < x.base + x.size)) →
      w.base ≤ n → n < w.base + w.size → n ≤ 63 →
      translate d st n = if w.global + (n - w.base) ≤ 63 then some (w.global + (n - w.base), w) else none)

/-- A CREATE that passes every check takes the lowest free station slot and the next sequence. With a start delay it is
SCHEDULED AWAIT_START with its times formed from the present second, and no other slot changes, but that where the counter
stands at 4,294,967,295 the live records are first renumbered from 1 in the order of their sequences (R20). A lane record
with no delay goes to admission: it is GRANTED ADMITTED, and meets the causes that stand before and after the recomputation,
where its lane is engaged by another record, its class is not LEISURE, in CHARGING, and in a projection mode where the margin
with the lane engaged is at least 0; otherwise it is DEFERRED with its deadline and joins the queue's tail. A REST_PLAN is
GRANTED IMMEDIATE and bound by its driver's activity: WAITING unless in REST; in REST its end is the rest start, or the
present second where none is held, plus the rest length, and the sub-state is that of R178's table, entered at once. One with
a delay or a duration is refused BAD_VALUE (R2 to R10, R20, R83, R178, R180, R181). `params` are the kind parameters as
clamped. The answer is OK_CLAMPED where the class, the start delay, the duration, the deferral limit or a kind parameter
applied differs from the one sent, with the bit of each in the clamp mask, and OK otherwise (R8, R39, R198). The answer for a
granted lane record or a plan may be held behind a write, and carries the block as it stands when it is sent (log entry 51).
-/
def Obligations.CreateSchedulesARecord : Prop :=
  (∀ (s : State) (st : Station) (b : CreateBody) (fn : Fn) (win : Window) (cls : Machine.Class) (params : Params)
    (flags : List Bool) (h : Handle),
    Polled st s.dev → TableOk s.dev → fnKind fn ≠ .restPlan →
    translate s.dev st b.fn.toNat = some (fnNumber fn, win) →
    (win.rights.changeOwn = true ∨ win.rights.changeAny = true) →
    kindOfCode b.kind = some (fnKind fn) → createClass b.cls = some cls →
    createParams (fnKind fn) b.fields = some (params, flags) →
    b.delay ≠ 0xFFFF#16 → b.delay ≠ 0#16 →
    (stationRecords s.dev st).length < (s.dev.settings.stations.get st).quota →
    (fnStationRecords s.dev fn).length < fnLimit fn → freeStationSlot s.dev = some h →
    (∀ c, fn = .lamp c → (s.dev.lamps.get c).fault = false) →
    Answers (.create (some b)) s fun d =>
      let start := s.dev.clock.sec + 60 * min 1440 b.delay.toNat
      let full := 4294967295 ≤ s.dev.table.counter
      let last := if full then (records s.dev).length else s.dev.table.counter
      let rank := fun n : Nat => 1 + ((records s.dev).filter fun hr => hr.2.seq < n).length
      lookup d h = some {
        kind := fnKind fn
        fn := fn
        owner := .station st
        cls := if cls = .essential ∧ (s.dev.settings.stations.get st).control = false then .comfort else cls
        state := .scheduled
        reason := .awaitStart
        seq := last + 1
        start := some start
        endAt := if b.duration = 0xFFFF#16 then none else some (start + 60 * max 1 (min b.duration.toNat 1440))
        limit := if b.limit = 0#8 then s.dev.settings.deferralLimit else max 1 (min b.limit.toNat 240)
        deadline := none
        params := params } ∧
      h.slot < 46 ∧ (∀ i, i < h.slot → ∃ x, s.dev.table.slots[i]? = some x ∧ x.rcd.isSome = true) ∧
      (∀ i, i ≠ h.slot → d.table.slots[i]? = if full then
        (s.dev.table.slots[i]?).map fun x => ⟨x.gen, x.rcd.map fun r => { r with seq := rank r.seq }⟩
        else s.dev.table.slots[i]?) ∧
      d.table.counter = last + 1 ∧
      d.table.queue = s.dev.table.queue ∧ d.table.causes = s.dev.table.causes ∧
      (let lowered := cls = .essential ∧ (s.dev.settings.stations.get st).control = false
       let clipped := b.duration ≠ 0xFFFF#16 ∧ (b.duration = 0#16 ∨ 1440 < b.duration.toNat)
       let mask := (if lowered then 1 else 0) + (if 1440 < b.delay.toNat then 2 else 0) + (if clipped then 4 else 0) +
         (if 240 < b.limit.toNat then 8 else 0) + (if fieldPast (fnKind fn) b.fields = true then 16 else 0)
       AnsweredOnly st 0x12#8 (if mask = 0 then .ok else .okClamped) (answerBlock d st h mask) s.dev d) ∧
      sameExcept [.table, .link] s.dev d) ∧
  (∀ (s : State) (st : Station) (b : CreateBody) (l : Lane) (win : Window) (cls : Machine.Class) (params : Params)
    (flags : List Bool) (h : Handle),
    Polled st s.dev → TableOk s.dev → translate s.dev st b.fn.toNat = some (fnNumber (laneFn l), win) →
    (win.rights.changeOwn = true ∨ win.rights.changeAny = true) →
    kindOfCode b.kind = some (fnKind (laneFn l)) → createClass b.cls = some cls →
    createParams (fnKind (laneFn l)) b.fields = some (params, flags) →
    (b.delay = 0xFFFF#16 ∨ b.delay = 0#16) →
    (stationRecords s.dev st).length < (s.dev.settings.stations.get st).quota →
    (fnStationRecords s.dev (laneFn l)).length < fnLimit (laneFn l) → freeStationSlot s.dev = some h →
    h ∉ s.dev.table.queue → s.dev.table.counter < 4294967295 →
    let now := s.dev.clock.sec
    let applied := if cls = .essential ∧ (s.dev.settings.stations.get st).control = false then .comfort else cls
    let limit := if b.limit = 0#8 then s.dev.settings.deferralLimit else max 1 (min b.limit.toNat 240)
    let endAt := if b.duration = 0xFFFF#16 then none else some (now + 60 * max 1 (min b.duration.toNat 1440))
    let others := ∃ hr ∈ records s.dev, hr.2.fn = laneFn l ∧
      (hr.2.state = .granted ∨ (hr.2.state = .suspended ∧ hr.2.reason = .budget))
    let mode := s.dev.budget.mode
    let lowered := cls = .essential ∧ (s.dev.settings.stations.get st).control = false
    let clipped := b.duration ≠ 0xFFFF#16 ∧ (b.duration = 0#16 ∨ 1440 < b.duration.toNat)
    let mask := (if lowered then 1 else 0) + (if clipped then 4 else 0) + (if 240 < b.limit.toNat then 8 else 0) +
      (if fieldPast (fnKind (laneFn l)) b.fields = true then 16 else 0)
    let fits := (mode = .nominal ∨ mode = .curtailed ∨ mode = .short) ∧
      0 ≤ (project s.dev s.dev.budget.modes s.dev.budget.cap (some l)).m
    (others ∨ applied ≠ .leisure ∨ mode = .charging ∨ fits → Answers (.create (some b)) s fun d =>
      (∃ r, lookup d h = some r ∧ r.owner = .station st ∧ r.fn = laneFn l ∧ r.kind = fnKind (laneFn l) ∧
        r.cls = applied ∧ r.seq = s.dev.table.counter + 1 ∧ r.start = none ∧ r.endAt = endAt ∧ r.limit = limit ∧
        r.deadline = none ∧ r.params = params ∧
        (causesOf d.table.causes (laneFn l) = CauseSet.none →
          r.state = .granted ∧ (r.reason = .admitted ∨ r.reason = .resumed)) ∧
        (causesOf d.table.causes (laneFn l) ≠ CauseSet.none → r.state = .suspended)) ∧
      h ∉ d.table.queue ∧ d.table.counter = s.dev.table.counter + 1 ∧
      Replied st 0x12#8 (if mask = 0 then .ok else .okClamped) (blockOf d st h mask) s.dev d ∧
      sameExcept budgetReach s.dev d) ∧
    (¬ (others ∨ applied ≠ .leisure ∨ mode = .charging ∨ fits) → Answers (.create (some b)) s fun d =>
      lookup d h = some {
        kind := fnKind (laneFn l)
        fn := laneFn l
        owner := .station st
        cls := applied
        state := .deferred
        reason := if mode = .lowVoltage ∨ mode = .cutoff then .lowVoltage else .noMargin
        seq := s.dev.table.counter + 1
        start := none
        endAt := endAt
        limit := limit
        deadline := some (now + 60 * limit)
        params := params } ∧
      d.table.queue = s.dev.table.queue ++ [h] ∧ d.table.counter = s.dev.table.counter + 1 ∧
      (∀ i, i ≠ h.slot → d.table.slots[i]? = s.dev.table.slots[i]?) ∧
      AnsweredOnly st 0x12#8 (if mask = 0 then .ok else .okClamped) (answerBlock d st h mask) s.dev d ∧
      sameExcept [.table, .link] s.dev d)) ∧
  (∀ (s : State) (st : Station) (b : CreateBody) (dr : Driver) (win : Window) (cls : Machine.Class) (f : PlanFields)
    (p : PlanRec) (flags : List Bool) (h : Handle),
    Polled st s.dev → TableOk s.dev → translate s.dev st b.fn.toNat = some (fnNumber (.rest dr), win) →
    (win.rights.changeOwn = true ∨ win.rights.changeAny = true) →
    kindOfCode b.kind = some .restPlan → createClass b.cls = some cls → b.fields = .plan f →
    createParams .restPlan b.fields = some (.plan p, flags) →
    (¬ (b.delay = 0xFFFF#16 ∧ b.duration = 0xFFFF#16) → Answers (.create (some b)) s fun d =>
      AnsweredOnly st 0x12#8 .badValue [] s.dev d ∧ sameExcept [.link] s.dev d) ∧
    (b.delay = 0xFFFF#16 → b.duration = 0xFFFF#16 →
      (stationRecords s.dev st).length < (s.dev.settings.stations.get st).quota →
      fnStationRecords s.dev (.rest dr) = [] → freeStationSlot s.dev = some h → s.dev.table.counter < 4294967294 →
      causesOf s.dev.table.causes (.rest dr) = CauseSet.none →
      Answers (.create (some b)) s fun d =>
        let now := s.dev.clock.sec
        let a := s.dev.accounts.get dr
        let binding := a.restStart.getD now
        let planned := binding + p.len * 60
        let called : SubState := if planned ≤ now then .due else if planned ≤ now + p.lead * 60 then .waking else .active
        let slot := match dr with
          | .one => 46
          | .two => 47
        p.len = max 30 (min f.len.toNat 1440) ∧ p.lead = (if f.lead = 0xFF#8 then 0 else min f.lead.toNat 90) ∧
        (∃ r q, lookup d h = some r ∧ r.kind = .restPlan ∧ r.fn = .rest dr ∧ r.owner = .station st ∧
          r.state = .granted ∧ r.reason = .immediate ∧ r.seq = s.dev.table.counter + 1 ∧ r.start = none ∧
          r.endAt = none ∧ r.params = .plan q ∧ q.len = p.len ∧ q.lead = p.lead ∧ q.preheat = p.preheat ∧
          q.light = p.light ∧ q.buzzer = p.buzzer ∧
          (a.effective ≠ .rest → q.sub = .waiting ∧ q.plannedEnd = none ∧ q.internal = none) ∧
          (a.effective = .rest → q.sub = called ∧ q.plannedEnd = some planned) ∧
          (∀ t g, a.effective = .rest → called ≠ .active → p.preheat = some t →
            s.dev.table.slots[slot]? = some ⟨g, none⟩ → q.internal = some ⟨slot, g⟩ ∧
            ∃ i, lookup d ⟨slot, g⟩ = some i ∧ i.owner = .internal ∧ i.fn = .heater ∧ i.cls = .essential ∧
              i.params = .heat t (some h) ∧ (i.state = .granted ∨ i.state = .suspended))) ∧
        (d.plans.get dr).plan = some h ∧
        (a.effective ≠ .rest → d.plans.get dr = { PlanUnit.empty with plan := some h } ∧
          d.accounts = s.dev.accounts) ∧
        (a.effective = .rest → (d.plans.get dr).binding = some binding ∧
          ((d.plans.get dr).call = .calling ↔ called = .due ∧ p.buzzer = true) ∧
          ((d.plans.get dr).ramp ≠ .none ↔ called ≠ .active ∧ p.light.isSome = true)) ∧
        (∀ x, x ≠ dr → d.plans.get x = s.dev.plans.get x) ∧
        (let lowered := cls = .essential ∧ (s.dev.settings.stations.get st).control = false
         let mask := (if lowered then 1 else 0) + (if 240 < b.limit.toNat then 8 else 0) + planPast f
         Replied st 0x12#8 (if mask = 0 then .ok else .okClamped) (blockOf d st h mask) s.dev d) ∧
        sameExcept (.accounts :: .plans :: budgetReach) s.dev d))

/-- A LAMP created with no delay on a channel with no cause but CHANNEL_FAULT is GRANTED IMMEDIATE at once, and, as the
latest record of its channel, sets the channel's effective level (R9, R22, R150). On a faulted channel the accepted CREATE
first clears the fault flag, the trip count and CHANNEL_FAULT, and every record SUSPENDED for it is GRANTED RESUMED and,
where every set names live records and none twice, marks its ONLINE owner's set, the requester's own among them (R12, R13,
R42, R156). Each record's parameters are those of its kind (`KindsOk`, which every step keeps). The answer is OK_CLAMPED
where the class, the duration, the deferral limit or the level applied differs from the one sent, with the bit of each in the
clamp mask, and OK otherwise. An answer held behind a write carries the block as it stands when it is sent (log entry 51). -/
def Obligations.CreateLightsALamp : Prop :=
  ∀ (s : State) (st : Station) (b : CreateBody) (c : Channel) (win : Window) (cls : Machine.Class) (l : Byte) (h : Handle),
    Polled st s.dev → TableOk s.dev → KindsOk s.dev → translate s.dev st b.fn.toNat = some (channelNumber c, win) →
    (win.rights.changeOwn = true ∨ win.rights.changeAny = true) →
    b.kind = 2#8 → createClass b.cls = some cls → b.fields = .level l → l ≠ 0xFF#8 →
    (b.delay = 0xFFFF#16 ∨ b.delay = 0#16) →
    (stationRecords s.dev st).length < (s.dev.settings.stations.get st).quota →
    (fnStationRecords s.dev (.lamp c)).length < 4 → freeStationSlot s.dev = some h →
    s.dev.table.causes.lamps.get c = { CauseSet.none with channelFault := (s.dev.lamps.get c).fault } →
    s.dev.table.counter < 4294967295 → (∀ hr ∈ records s.dev, hr.2.seq ≤ s.dev.table.counter) →
    Answers (.create (some b)) s fun d =>
      let lowered := cls = .essential ∧ (s.dev.settings.stations.get st).control = false
      let clipped := b.duration ≠ 0xFFFF#16 ∧ (b.duration = 0#16 ∨ 1440 < b.duration.toNat)
      let mask := (if lowered then 1 else 0) + (if clipped then 4 else 0) + (if 240 < b.limit.toNat then 8 else 0) +
        (if 100 < l.toNat then 16 else 0)
      (d.lamps.get c).fault = false ∧ d.table.causes.lamps.get c = CauseSet.none ∧
      ((s.dev.lamps.get c).fault = true → (d.lamps.get c).trip = 0 ∧
        ∀ hr ∈ records s.dev, hr.2.fn = .lamp c → hr.2.state = .suspended →
          lookup d hr.1 = some { hr.2 with state := .granted, reason := .resumed } ∧
          (SetsOk s.dev → ∀ o, hr.2.owner = .station o → ((afterReply st s.dev).get o).link = .online →
            .live hr.1 ∈ (d.link.stations.get o).entries)) ∧
      (∃ r, lookup d h = some r ∧ r.state = .granted ∧ r.reason = .immediate ∧ r.owner = .station st ∧
        r.fn = .lamp c ∧ r.seq = s.dev.table.counter + 1 ∧ r.start = none ∧ r.params = .lamp (min l.toNat 100)) ∧
      (d.lamps.get c).effective = min l.toNat 100 ∧
      Replied st 0x12#8 (if mask = 0 then .ok else .okClamped) (blockOf d st h mask) s.dev d ∧
      d.settings = s.dev.settings ∧ d.store = s.dev.store ∧ d.bank = s.dev.bank ∧ d.accounts = s.dev.accounts ∧
      d.plans = s.dev.plans ∧ d.vehicle = s.dev.vehicle ∧ d.clock = s.dev.clock

/-- The checks of a CREATE of the form that its kind has: a local number that does not translate NOT_MAPPED, no CHANGE right
NO_RIGHT, then the seven of R8: a number that no function has NOT_MAPPED, an unknown kind BAD_VALUE, a kind that is not
the function's WRONG_KIND, a class code that names none, a required parameter absent or a REST_PLAN with a start delay or a
duration BAD_VALUE, the station at its quota QUOTA, the function at its limit FUNCTION_FULL, no station slot free TABLE_FULL,
of every kind. Nothing changes (R3, R8, R34, R37). That a class code which names no class is refused at this check is the
model's choice (log entry 82). -/
def Obligations.FullTablesRefuseCreates : Prop :=
  (∀ (s : State) (st : Station) (b : CreateBody), Polled st s.dev → fieldsFit (kindOfCode b.kind) b.fields = true →
    let refusal := fun code : AnswerCode => Answers (.create (some b)) s fun d =>
      AnsweredOnly st 0x12#8 code [] s.dev d ∧ sameExcept [.link] s.dev d
    (translate s.dev st b.fn.toNat = none → refusal .notMapped) ∧
    (∀ n win, translate s.dev st b.fn.toNat = some (n, win) →
      (win.rights.changeOwn = false → win.rights.changeAny = false → refusal .noRight) ∧
      (win.rights.changeOwn = true ∨ win.rights.changeAny = true →
        ((∀ fn, fnNumber fn ≠ n) → refusal .notMapped) ∧
        (∀ fn, fnNumber fn = n →
          (4 < b.kind.toNat → refusal .badValue) ∧
          (b.kind.toNat ≤ 4 → b.kind.toNat ≠ kindCode (fnKind fn) → refusal .wrongKind) ∧
          (b.kind.toNat = kindCode (fnKind fn) →
            (b.cls ≠ 0xFF#8 → classOfCode b.cls = none → refusal .badValue) ∧
            (b.fields = .temp 0x7FFF#16 → refusal .badValue) ∧
            (b.fields = .level 0xFF#8 → refusal .badValue) ∧
            (∀ f : PlanFields, b.fields = .plan f → f.len = 0xFFFF#16 → refusal .badValue) ∧
            (fnKind fn = .restPlan → ¬ (b.delay = 0xFFFF#16 ∧ b.duration = 0xFFFF#16) → refusal .badValue)))))) ∧
  ∀ (s : State) (st : Station) (b : CreateBody) (fn : Fn) (win : Window) (cls : Machine.Class) (params : Params)
    (flags : List Bool),
    Polled st s.dev → translate s.dev st b.fn.toNat = some (fnNumber fn, win) →
    (win.rights.changeOwn = true ∨ win.rights.changeAny = true) →
    kindOfCode b.kind = some (fnKind fn) → createClass b.cls = some cls →
    createParams (fnKind fn) b.fields = some (params, flags) →
    (fnKind fn = .restPlan → b.delay = 0xFFFF#16 ∧ b.duration = 0xFFFF#16) →
    let quotaReached := (s.dev.settings.stations.get st).quota ≤ (stationRecords s.dev st).length
    let functionFull := fnLimit fn ≤ (fnStationRecords s.dev fn).length
    let refusal := fun code : AnswerCode => Answers (.create (some b)) s fun d =>
      AnsweredOnly st 0x12#8 code [] s.dev d ∧ sameExcept [.link] s.dev d
    (quotaReached → refusal .quota) ∧ (¬ quotaReached → functionFull → refusal .functionFull) ∧
    (¬ quotaReached → ¬ functionFull → freeStationSlot s.dev = none → refusal .tableFull)

/-- An AMEND replaces the given fields, clamped, takes the next sequence and keeps the rest; a new duration counts from the
start time of a SCHEDULED record and from the present second of another. A DEFERRED lane record keeps its place, unless it is
raised to ESSENTIAL: then it is admitted at once. A change of a bound plan's length or lead moves its end from the binding
rest start, and the plan moves forward, never back, to the sub-state that the new end and lead call for; an AMEND that
changes neither (log entry 71) leaves its end and its sub-state. A stale handle is refused BAD_HANDLE, a function that no
window reaches NOT_MAPPED, a record that the station may not change or an INTERNAL one NO_RIGHT, another kind WRONG_KIND, and
a start delay, a duration with the open-ended flag, or either for a plan BAD_VALUE (R3 to R5, R19, R20, R35, R37, R84, R185).
A limit of 0 becomes 1, a duration of 0xFFFF is none given, and a class code that names none is refused BAD_VALUE, as a class
code for a plan does that names none (log entry 24); an unknown kind is answered WRONG_KIND (log entry 23), and the wake
buzzer is bit 0 of its byte (R195; log entry 26). An accepted AMEND of a LAMP on a faulted channel first clears the fault,
the trip count and CHANNEL_FAULT, and the record, SUSPENDED for it, is GRANTED RESUMED (R156; that this comes first: log
entry 87). The answer is OK_CLAMPED where the class, the duration, the deferral limit or a kind parameter applied differs
from the one sent, with the bit of each in the clamp mask, and OK otherwise (R39, R198). An answer held behind a write
carries the block as it stands when it is sent (log entry 51). -/
def Obligations.AmendReplacesGivenFields : Prop :=
  (∀ (s : State) (st : Station) (b : AmendBody) (r : Record) (c : Channel) (win : Window) (old : Nat) (l : Byte),
    let h : Handle := ⟨b.handle.toNat / 256, b.handle.toNat % 256⟩
    let giveClass := b.mask.getLsbD 0
    let giveDuration := b.mask.getLsbD 1 && b.duration != 0xFFFF#16
    let openEnded := b.mask.getLsbD 2
    Polled st s.dev → lookup s.dev h = some r → r.fn = .lamp c → r.kind = .lamp → r.params = .lamp old →
    r.owner ≠ .internal → windowOf s.dev st (.lamp c) = some win →
    (win.rights.changeAny = true ∨ (win.rights.changeOwn = true ∧ r.owner = .station st)) →
    b.kind = 2#8 → b.fields = .level l → b.mask.getLsbD 4 = false → (giveDuration && openEnded) = false →
    (giveClass = true → (classOfCode b.cls).isSome = true) →
    ((s.dev.lamps.get c).fault = true →
      s.dev.table.causes.lamps.get c = { CauseSet.none with channelFault := true }) →
    s.dev.table.counter < 4294967295 →
    Answers (.amend (some b)) s fun d =>
      let asked := if giveClass then (classOfCode b.cls).getD r.cls else r.cls
      let lowered := giveClass && asked == .essential && !(s.dev.settings.stations.get st).control
      let base := if r.state = .scheduled then r.start.getD s.dev.clock.sec else s.dev.clock.sec
      let resumed := (s.dev.lamps.get c).fault = true ∧ r.state = .suspended
      (d.lamps.get c).fault = false ∧
      ((s.dev.lamps.get c).fault = true → (d.lamps.get c).trip = 0 ∧ d.table.causes.lamps.get c = CauseSet.none) ∧
      lookup d h = some { r with
        state := if resumed then .granted else r.state
        reason := if resumed then .resumed else r.reason
        cls := if lowered then .comfort else asked
        endAt := if openEnded then none else if giveDuration then
            some (base + 60 * max 1 (min b.duration.toNat 1440)) else r.endAt
        limit := if b.mask.getLsbD 3 then max 1 (min b.limit.toNat 240) else r.limit
        seq := s.dev.table.counter + 1
        params := .lamp (if l = 0xFF#8 then old else min l.toNat 100) } ∧
      d.table.counter = s.dev.table.counter + 1 ∧
      (let mask := (if lowered then 1 else 0) +
         (if giveDuration = true ∧ (b.duration = 0#16 ∨ 1440 < b.duration.toNat) then 4 else 0) +
         (if b.mask.getLsbD 3 = true ∧ (b.limit = 0#8 ∨ 240 < b.limit.toNat) then 8 else 0) +
         (if fieldPast .lamp b.fields = true then 16 else 0)
       Replied st 0x13#8 (if mask = 0 then .ok else .okClamped) (blockOf d st h mask) s.dev d) ∧
      d.settings = s.dev.settings ∧ d.store = s.dev.store ∧ d.bank = s.dev.bank ∧ d.accounts = s.dev.accounts ∧
      d.plans = s.dev.plans ∧ d.vehicle = s.dev.vehicle ∧ d.clock = s.dev.clock) ∧
  (∀ (s : State) (st : Station) (b : AmendBody) (r : Record) (l : Lane) (win : Window),
    let h : Handle := ⟨b.handle.toNat / 256, b.handle.toNat % 256⟩
    let giveClass := b.mask.getLsbD 0
    let giveDuration := b.mask.getLsbD 1 && b.duration != 0xFFFF#16
    let openEnded := b.mask.getLsbD 2
    Polled st s.dev → TableOk s.dev → lookup s.dev h = some r → r.fn = laneFn l → r.kind = fnKind (laneFn l) →
    r.owner ≠ .internal → windowOf s.dev st (laneFn l) = some win →
    (win.rights.changeAny = true ∨ (win.rights.changeOwn = true ∧ r.owner = .station st)) →
    kindOfCode b.kind = some r.kind → fieldsFit (kindOfCode b.kind) b.fields = true →
    b.mask.getLsbD 4 = false → (giveDuration && openEnded) = false →
    (giveClass = true → (classOfCode b.cls).isSome = true) → s.dev.table.counter < 4294967295 →
    Answers (.amend (some b)) s fun d =>
      let asked := if giveClass then (classOfCode b.cls).getD r.cls else r.cls
      let lowered := giveClass && asked == .essential && !(s.dev.settings.stations.get st).control
      let cls : Machine.Class := if lowered then .comfort else asked
      let base := if r.state = .scheduled then r.start.getD s.dev.clock.sec else s.dev.clock.sec
      let raised := r.state = .deferred ∧ r.cls ≠ .essential ∧ cls = .essential
      (∃ r', lookup d h = some r' ∧ r'.kind = r.kind ∧ r'.fn = r.fn ∧ r'.owner = r.owner ∧ r'.start = r.start ∧
        r'.cls = cls ∧ r'.seq = s.dev.table.counter + 1 ∧
        r'.endAt = (if openEnded then none else if giveDuration then
            some (base + 60 * max 1 (min b.duration.toNat 1440)) else r.endAt) ∧
        r'.limit = (if b.mask.getLsbD 3 then max 1 (min b.limit.toNat 240) else r.limit) ∧
        (∀ old plan w, r.params = .heat old plan → b.fields = .temp w →
          r'.params = .heat (if w = 0x7FFF#16 then old else max 10 (min w.toInt 60)) plan) ∧
        (∀ old w, r.params = .cool old → b.fields = .temp w →
          r'.params = .cool (if w = 0x7FFF#16 then old else max (-36) (min w.toInt 16))) ∧
        (r.params = .aux → r'.params = .aux) ∧
        (raised → (r'.state = .granted ∨ r'.state = .suspended) ∧ r'.deadline = none) ∧
        (r.state = .scheduled ∨ (r.state = .deferred ∧ ¬ raised) →
          r'.state = r.state ∧ r'.reason = r.reason ∧ r'.deadline = r.deadline)) ∧
      (raised → h ∉ d.table.queue) ∧ (¬ raised → d.table.queue = s.dev.table.queue) ∧
      d.table.counter = s.dev.table.counter + 1 ∧
      (∃ mask, (KindsOk s.dev → mask = (if lowered then 1 else 0) +
          (if giveDuration = true ∧ (b.duration = 0#16 ∨ 1440 < b.duration.toNat) then 4 else 0) +
          (if b.mask.getLsbD 3 = true ∧ (b.limit = 0#8 ∨ 240 < b.limit.toNat) then 8 else 0) +
          (if fieldPast r.kind b.fields = true then 16 else 0)) ∧
        Replied st 0x13#8 (if mask = 0 then .ok else .okClamped) (blockOf d st h mask) s.dev d) ∧
      sameExcept budgetReach s.dev d) ∧
  (∀ (s : State) (st : Station) (b : AmendBody) (r : Record) (dr : Driver) (p : PlanRec) (f : PlanFields) (win : Window),
    let h : Handle := ⟨b.handle.toNat / 256, b.handle.toNat % 256⟩
    Polled st s.dev → TableOk s.dev → livePlan s.dev dr = some (h, r, p) → r.fn = .rest dr → r.kind = .restPlan →
    r.owner ≠ .internal → h.slot < 46 → windowOf s.dev st (.rest dr) = some win →
    (win.rights.changeAny = true ∨ (win.rights.changeOwn = true ∧ r.owner = .station st)) →
    b.kind = 4#8 → b.fields = .plan f → (b.mask.getLsbD 0 = true → (classOfCode b.cls).isSome = true) →
    (b.mask.getLsbD 1 = false ∨ b.duration = 0xFFFF#16) → b.mask.getLsbD 2 = false → b.mask.getLsbD 4 = false →
    s.dev.table.counter < 4294967294 →
    (p.sub = .waiting → (s.dev.plans.get dr).binding = none ∧ p.plannedEnd = none) →
    Answers (.amend (some b)) s fun d =>
      let now := s.dev.clock.sec
      let len := if f.len = 0xFFFF#16 then p.len else max 30 (min f.len.toNat 1440)
      let lead := if f.lead = 0xFF#8 then p.lead else min f.lead.toNat 90
      let asked := if b.mask.getLsbD 0 then (classOfCode b.cls).getD r.cls else r.cls
      let lowered := b.mask.getLsbD 0 && asked == .essential && !(s.dev.settings.stations.get st).control
      (∃ r' q, lookup d h = some r' ∧ r'.params = .plan q ∧ r'.owner = r.owner ∧
        r'.cls = (if lowered then .comfort else asked) ∧
        r'.endAt = r.endAt ∧ r'.seq = s.dev.table.counter + 1 ∧ q.len = len ∧ q.lead = lead ∧
        q.preheat = (if f.preheat = 0x7FFF#16 then p.preheat else some (max 10 (min f.preheat.toInt 60))) ∧
        (f.level = 0xFF#8 → q.light = p.light) ∧
        (f.level ≠ 0xFF#8 → (∀ i : Fin 6, f.channels.getLsbD i = false) → q.light = none) ∧
        (f.level ≠ 0xFF#8 → (∃ i : Fin 6, f.channels.getLsbD i = true) → ∃ w, q.light = some w ∧
          w.level = min f.level.toNat 100 ∧
          w.channels = ⟨f.channels.getLsbD 0, f.channels.getLsbD 1, f.channels.getLsbD 2, f.channels.getLsbD 3,
            f.channels.getLsbD 4, f.channels.getLsbD 5⟩) ∧
        q.buzzer = (if f.buzzer = 0xFF#8 then p.buzzer else f.buzzer.getLsbD 0) ∧
        (p.sub = .waiting → q.sub = .waiting ∧ q.plannedEnd = none) ∧
        (len = p.len → lead = p.lead → q.sub = p.sub ∧ q.plannedEnd = p.plannedEnd) ∧
        (∀ start, p.sub ≠ .waiting → (s.dev.plans.get dr).binding = some start → len ≠ p.len ∨ lead ≠ p.lead →
          let planned := start + len * 60
          let called : SubState :=
            if planned ≤ now then .due else if planned ≤ now + lead * 60 then .waking else .active
          q.plannedEnd = some planned ∧
          (p.sub = .active → q.sub = called) ∧
          (p.sub = .waking → q.sub = (if called = .due then .due else .waking)) ∧ (p.sub = .due → q.sub = .due))) ∧
      (d.plans.get dr).plan = some h ∧ (d.plans.get dr).binding = (s.dev.plans.get dr).binding ∧
      (let mask := (if lowered then 1 else 0) +
         (if b.mask.getLsbD 3 = true ∧ (b.limit = 0#8 ∨ 240 < b.limit.toNat) then 8 else 0) + planPast f
       Replied st 0x13#8 (if mask = 0 then .ok else .okClamped) (blockOf d st h mask) s.dev d) ∧
      sameExcept (.accounts :: .plans :: budgetReach) s.dev d) ∧
  (∀ (s : State) (st : Station) (b : AmendBody), Polled st s.dev → fieldsFit (kindOfCode b.kind) b.fields = true →
    let h : Handle := ⟨b.handle.toNat / 256, b.handle.toNat % 256⟩
    let refusal := fun code : AnswerCode => Answers (.amend (some b)) s fun d =>
      AnsweredOnly st 0x13#8 code [] s.dev d ∧ sameExcept [.link] s.dev d
    (lookup s.dev h = none → refusal .badHandle) ∧
    (∀ r, lookup s.dev h = some r →
      (windowOf s.dev st r.fn = none → refusal .notMapped) ∧
      (∀ win, windowOf s.dev st r.fn = some win →
        let may := win.rights.changeAny = true ∨ (win.rights.changeOwn = true ∧ r.owner = .station st)
        let duration := b.mask.getLsbD 1 = true ∧ b.duration ≠ 0xFFFF#16
        (¬ may ∨ r.owner = .internal → refusal .noRight) ∧
        (may → r.owner ≠ .internal →
          (kindOfCode b.kind ≠ some r.kind → refusal .wrongKind) ∧
          (kindOfCode b.kind = some r.kind →
            b.mask.getLsbD 4 = true ∨ (duration ∧ b.mask.getLsbD 2 = true) ∨
              (r.kind = .restPlan ∧ (duration ∨ b.mask.getLsbD 2 = true)) ∨
              (b.mask.getLsbD 0 = true ∧ classOfCode b.cls = none) → refusal .badValue)))))

/-- A RETIRE of a record that is no plan frees its slot and advances the slot's generation, takes it out of the deferral
queue and, for its owner, out of the pending set, and is answered OK with the handle; every other slot keeps its
generation and its occupancy. Another station's record leaves a retired entry in its ONLINE owner's set. A plan's RETIRE
ends its call and its ramp, retires its INTERNAL record, whose retired entry goes to the plan's ONLINE owner, and returns
every item of the driver's plan unit to its value with no plan, the next onset of a call among them (log entry 34) (R6, R13,
R14, R18, R26, R42, R43, R186). A stale handle is refused BAD_HANDLE, a function that no window reaches NOT_MAPPED, and a
record that the station may not retire, or an INTERNAL one, NO_RIGHT, and nothing changes (R6, R18, R35, R37). An answer that
stands behind a write is held (log entry 51). -/
def Obligations.RetireFreesTheSlot : Prop :=
  (∀ (s : State) (st : Station) (w : Word16) (r : Record) (win : Window),
    let h : Handle := ⟨w.toNat / 256, w.toNat % 256⟩
    Polled st s.dev → lookup s.dev h = some r → restDriver r.fn = none → windowOf s.dev st r.fn = some win →
    (r.owner ≠ .internal → win.rights.retireAny = true ∨ (win.rights.retireOwn = true ∧ r.owner = .station st) →
      Answers (.retire (some w)) s fun d =>
        d.table.slots[h.slot]? = some ⟨if h.gen ≥ 255 then 1 else h.gen + 1, none⟩ ∧ lookup d h = none ∧
        h ∉ d.table.queue ∧
        (∀ i, i ≠ h.slot → (d.table.slots[i]?).map (fun x => (x.gen, x.rcd.isSome)) =
          (s.dev.table.slots[i]?).map (fun x => (x.gen, x.rcd.isSome))) ∧
        (r.owner = .station st → .live h ∉ (d.link.stations.get st).entries) ∧
        (∀ o, r.owner = .station o → o ≠ st → (s.dev.link.stations.get o).link = .online →
          .retired h r.fn .request ∈ (d.link.stations.get o).entries ∨
            (64 ≤ (d.link.stations.get o).entries.length ∧ (d.link.stations.get o).flags.resync = true)) ∧
        Replied st 0x14#8 .ok (.bytes [byte h.slot, byte h.gen]) s.dev d ∧
        d.settings = s.dev.settings ∧ d.store = s.dev.store ∧ d.bank = s.dev.bank ∧ d.accounts = s.dev.accounts ∧
        d.plans = s.dev.plans ∧ d.vehicle = s.dev.vehicle ∧ d.clock = s.dev.clock) ∧
    (r.owner = .internal → Answers (.retire (some w)) s fun d =>
      AnsweredOnly st 0x14#8 .noRight [] s.dev d ∧ sameExcept [.link] s.dev d)) ∧
  (∀ (s : State) (st : Station) (w : Word16) (r : Record) (win : Window) (dr : Driver),
    let h : Handle := ⟨w.toNat / 256, w.toNat % 256⟩
    let slot := match dr with
      | .one => 46
      | .two => 47
    Polled st s.dev → TableOk s.dev → lookup s.dev h = some r → r.fn = .rest dr → h.slot < 46 → r.owner ≠ .internal →
    windowOf s.dev st r.fn = some win →
    (win.rights.retireAny = true ∨ (win.rights.retireOwn = true ∧ r.owner = .station st)) →
    Answers (.retire (some w)) s fun d =>
      d.table.slots[h.slot]? = some ⟨if h.gen ≥ 255 then 1 else h.gen + 1, none⟩ ∧ lookup d h = none ∧
      (d.table.slots[slot]?).bind Slot.rcd = none ∧ d.plans.get dr = ⟨none, none, .none, 0, .none, 0⟩ ∧
      (∀ o g i, r.owner = .station o → s.dev.table.slots[slot]? = some ⟨g, some i⟩ →
        ((afterReply st s.dev).get o).link = .online →
        .retired ⟨slot, g⟩ i.fn .planEnded ∈ (d.link.stations.get o).entries ∨
          (64 ≤ (d.link.stations.get o).entries.length ∧ (d.link.stations.get o).flags.resync = true)) ∧
      (∀ x, x ≠ dr → d.plans.get x = s.dev.plans.get x) ∧
      ((s.dev.plans.get dr).ramp ≠ .none → ∀ c, (d.lamps.get c).ramp.get dr = none) ∧
      ((s.dev.plans.get dr).call = .calling → (d.accounts.get dr).bunkUntil = none) ∧
      ((s.dev.plans.get dr).call ≠ .calling → d.accounts = s.dev.accounts) ∧
      Replied st 0x14#8 .ok (.bytes [byte h.slot, byte h.gen]) s.dev d ∧
      sameExcept (.accounts :: .plans :: budgetReach) s.dev d) ∧
  (∀ (s : State) (st : Station) (w : Word16), Polled st s.dev →
    let h : Handle := ⟨w.toNat / 256, w.toNat % 256⟩
    let refusal := fun code : AnswerCode => Answers (.retire (some w)) s fun d =>
      AnsweredOnly st 0x14#8 code [] s.dev d ∧ sameExcept [.link] s.dev d
    (lookup s.dev h = none → refusal .badHandle) ∧
    (∀ r, lookup s.dev h = some r →
      (windowOf s.dev st r.fn = none → refusal .notMapped) ∧
      (∀ win, windowOf s.dev st r.fn = some win →
        ¬ (win.rights.retireAny = true ∨ (win.rights.retireOwn = true ∧ r.owner = .station st)) ∨ r.owner = .internal →
        refusal .noRight)))

/-- STATUS is answered from the state that the blocks hold, in the order of R40, and changes nothing (R40, R198; the
layout of the shared bytes is the model's, log entry 31). -/
def Obligations.StatusAnswersTheState : Prop :=
  ∀ (s : State) (st : Station), Polled st s.dev →
    Answers (.status true) s fun d =>
      let p := (afterReply st s.dev).get st
      let b := s.dev.bank
      let g := s.dev.budget
      let driver : Account → List Byte := fun a =>
        [byte (activityCode a.effective), byte (levelRank a.warnings), flagByte a.incomplete]
      AnsweredOnly st 0x15#8 .ok
        ([byte (linkCode p.link), byte p.entries.length, byte (generalFlags p.flags),
          byte (voltageCode b.vstate), flagByte b.uncalibrated, byte (flagsByte [b.cabMark, b.fleetMark]),
          byte (modeCode g.mode), byte g.position, byte g.cap, byte (g.proj.tmin / 256), byte g.proj.tmin] ++
        be32i g.proj.m ++
        [byte (heaterCode s.dev.heater.state), byte (lockoutShown s.dev),
          byte (fridgeCode s.dev.fridge.state), flagByte s.dev.fridge.fault] ++
        driver s.dev.accounts.one ++ driver s.dev.accounts.two ++
        [byte (tableCode s.dev.settings.active), flagByte s.dev.sched.swapPending,
          byte (flagsByte [s.dev.settings.tables.a.trimmed, s.dev.settings.tables.b.trimmed]),
          flagByte s.dev.vehicle.running, flagByte s.dev.store.defaulted]) s.dev d ∧
      sameExcept [.link] s.dev d

/-- ACK_WARNING of a driver other than 1 and 2 is refused BAD_VALUE. In the second of the driver's last sounding onset or
the one after it, it is answered TOO_EARLY and changes nothing; later it acknowledges the active warnings, ends the dash
alarm and sets the WARNING flag in every ONLINE station. With the warnings acknowledged already, or none active, nothing
of the account changes and no flag is set. In each case a call that sounds falls silent (R170 to R172, R175, R183). -/
def Obligations.AcknowledgementSilences : Prop :=
  (∀ (s : State) (st : Station) (b : Byte), Polled st s.dev → b.toNat ≠ 1 → b.toNat ≠ 2 →
    Answers (.ackWarning (some b)) s fun d =>
      AnsweredOnly st 0x16#8 .badValue [] s.dev d ∧ sameExcept [.link] s.dev d) ∧
  (∀ (s : State) (st : Station) (dr : Driver) (b : Byte), Polled st s.dev → AccountsOk s.dev →
    b.toNat = driverNumber dr →
    let a := s.dev.accounts.get dr
    ((∃ t, a.lastOnset = some t ∧ s.dev.clock.sec ≤ t + 1) → Answers (.ackWarning (some b)) s fun d =>
      AnsweredOnly st 0x16#8 .tooEarly [] s.dev d ∧ sameExcept [.link] s.dev d) ∧
    ((∀ t, a.lastOnset = some t → t + 1 < s.dev.clock.sec) → a.ack = .unacknowledged →
      Answers (.ackWarning (some b)) s fun d =>
        let a' := d.accounts.get dr
        a'.ack = .acknowledged ∧ a'.warnings = a.warnings ∧ a'.subject = false ∧ a'.sounding = false ∧
        (∀ x, (d.link.stations.get x).link = .online → (d.link.stations.get x).flags.warning.get dr = true) ∧
        ((s.dev.plans.get dr).call = .calling → (d.plans.get dr).call = .silent ∧ a'.bunkUntil = none) ∧
        ((s.dev.plans.get dr).call ≠ .calling → d.plans = s.dev.plans ∧ a'.bunkUntil = a.bunkUntil) ∧
        AnsweredFrame st 0x16#8 .ok [b, byte (levelRank a.warnings),
          byte (flagsByte [a.warnings.restDone, a.warnings.restInterrupted, a.warnings.drivePre, a.warnings.dailyPre,
            a.warnings.driveDue, a.warnings.dailyDue]), 2#8] d ∧
        sameExcept [.link, .accounts, .plans] s.dev d) ∧
    ((∀ t, a.lastOnset = some t → t + 1 < s.dev.clock.sec) → a.ack ≠ .unacknowledged →
      Answers (.ackWarning (some b)) s fun d =>
        ((s.dev.plans.get dr).call = .calling → (d.plans.get dr).call = .silent ∧
          d.accounts = s.dev.accounts.set { a with bunkUntil := none } dr) ∧
        ((s.dev.plans.get dr).call ≠ .calling → d.plans = s.dev.plans ∧ d.accounts = s.dev.accounts) ∧
        AnsweredOnly st 0x16#8 .ok [b, byte (levelRank a.warnings),
          byte (flagsByte [a.warnings.restDone, a.warnings.restInterrupted, a.warnings.drivePre, a.warnings.dailyPre,
            a.warnings.driveDue, a.warnings.dailyDue]), if a.ack = .acknowledged then 2#8 else 0#8] s.dev d ∧
        (a.ack = .acknowledged ↔ levelRank a.warnings ≠ 0) ∧
        sameExcept [.link, .accounts, .plans] s.dev d))

/-! ## Schedule, floor, protected set, marks, lockout, restart -/

/-- A SCHEDULE_WRITE of good entries into the standby table: once written, the named entries are replaced, the table's
TRIMMED flag is clear and the answer carries table, first index and count; every other setting is as before. A table code
that names none is answered BAD_VALUE, the active table ACTIVE_TABLE, and then a count of 0 or above 16, or a run that passes
index 63, BAD_VALUE, with nothing changed. Of a run into the standby table the first bad entry ends the checking, and the
answer carries its index: BAD_VALUE for a lane code that names none or for GLOW without HEAT, PEAK for a sum above the peak
limit; no entry changes (R94, R191, R192). -/
def Obligations.ScheduleWriteIsTakenWholeOrNotAtAll : Prop :=
  (∀ (s : State) (st : Station) (r : ScheduleRun) (t : TableId), PolledIdle st s.dev →
     (s.dev.settings.stations.get st).control = true → tableOfCode r.table = some t → t ≠ s.dev.settings.active →
     1 ≤ r.count.toNat → r.count.toNat ≤ 16 → r.first.toNat + r.count.toNat ≤ 64 →
     r.entries.length = r.count.toNat → (s.dev.settings.tables.get t).entries.length = 64 →
     (∀ b ∈ r.entries, ∃ e, laneSetOfByte b = some e ∧ (e.glow = true → e.heat = true) ∧
       entryCurrent s.dev.settings.currents e ≤ s.dev.settings.currents.peak) →
     WritesThen (.scheduleWrite (some r)) s fun d =>
       let old := s.dev.settings.tables.get t
       let new := d.settings.tables.get t
       (∀ k, k < r.count.toNat → new.entries[r.first.toNat + k]? = (r.entries[k]?).bind laneSetOfByte) ∧
       (∀ i, i < r.first.toNat ∨ r.first.toNat + r.count.toNat ≤ i → new.entries[i]? = old.entries[i]?) ∧
       new.length = old.length ∧ new.trimmed = false ∧
       d.settings = { s.dev.settings with tables := s.dev.settings.tables.set new t } ∧
       AnsweredFrame st 0x20#8 .ok [r.table, r.first, r.count] d ∧ sameExcept [.link, .store, .settings] s.dev d) ∧
  (∀ (s : State) (st : Station) (r : ScheduleRun), Polled st s.dev →
     (s.dev.settings.stations.get st).control = true → r.entries.length = r.count.toNat →
     let refused := Answers (.scheduleWrite (some r)) s fun d =>
       AnsweredOnly st 0x20#8 .badValue [] s.dev d ∧ sameExcept [.link] s.dev d
     (1 < r.table.toNat → refused) ∧
     (∀ t, tableOfCode r.table = some t → t ≠ s.dev.settings.active →
       r.count = 0#8 ∨ 16 < r.count.toNat ∨ 64 < r.first.toNat + r.count.toNat → refused)) ∧
  (∀ (s : State) (st : Station) (r : ScheduleRun) (t : TableId), Polled st s.dev →
     (s.dev.settings.stations.get st).control = true → tableOfCode r.table = some t →
     r.entries.length = r.count.toNat →
     let c := s.dev.settings.currents
     let good : Byte → Prop := fun b =>
       ∃ e, laneSetOfByte b = some e ∧ (e.glow = true → e.heat = true) ∧ entryCurrent c e ≤ c.peak
     let refusal := fun (code : AnswerCode) (body : List Byte) => Answers (.scheduleWrite (some r)) s fun d =>
       AnsweredOnly st 0x20#8 code body s.dev d ∧ sameExcept [.link] s.dev d
     (t = s.dev.settings.active → refusal .activeTable []) ∧
     (t ≠ s.dev.settings.active → 1 ≤ r.count.toNat → r.count.toNat ≤ 16 → r.first.toNat + r.count.toNat ≤ 64 →
       ∀ before b after, r.entries = before ++ b :: after → (∀ x ∈ before, good x) →
         (laneSetOfByte b = none → refusal .badValue [byte (r.first.toNat + before.length)]) ∧
         (∀ e, laneSetOfByte b = some e →
           (e.glow = true → e.heat = false → refusal .badValue [byte (r.first.toNat + before.length)]) ∧
           ((e.glow = true → e.heat = true) → c.peak < entryCurrent c e →
             refusal .peak [byte (r.first.toNat + before.length)]))))

/-- SCHEDULE_LENGTH of the standby table clamps to 8 to 64, clears TRIMMED and answers the applied length; SCHEDULE_COPY
gives the standby table the active table's 64 entries and length with TRIMMED clear; a length for the active table is refused
ACTIVE_TABLE, and one with a table code that names none BAD_VALUE (R95, R96). -/
def Obligations.LengthAndCopyReachTheStandbyTable : Prop :=
  ∀ (s : State) (st : Station), (s.dev.settings.stations.get st).control = true →
    (∀ b : LengthBody, 1 < b.table.toNat → Polled st s.dev → Answers (.scheduleLength (some b)) s fun d =>
      AnsweredOnly st 0x21#8 .badValue [] s.dev d ∧ sameExcept [.link] s.dev d) ∧
    (∀ (b : LengthBody) (t : TableId), tableOfCode b.table = some t →
      (t ≠ s.dev.settings.active → PolledIdle st s.dev → WritesThen (.scheduleLength (some b)) s fun d =>
        let n := max 8 (min b.length.toNat 64)
        let new : Schedule := { s.dev.settings.tables.get t with length := n, trimmed := false }
        d.settings = { s.dev.settings with tables := s.dev.settings.tables.set new t } ∧
        AnsweredFrame st 0x21#8 (codeFor b.length.toNat n) [byte n] d ∧
        sameExcept [.link, .store, .settings] s.dev d) ∧
      (t = s.dev.settings.active → Polled st s.dev → Answers (.scheduleLength (some b)) s fun d =>
        AnsweredOnly st 0x21#8 .activeTable [] s.dev d ∧ sameExcept [.link] s.dev d)) ∧
    (PolledIdle st s.dev → WritesThen (.scheduleCopy true) s fun d =>
      let standby : TableId := match s.dev.settings.active with
        | .a => .b
        | .b => .a
      let copied : Schedule := { s.dev.settings.tables.get s.dev.settings.active with trimmed := false }
      d.settings = { s.dev.settings with tables := s.dev.settings.tables.set copied standby } ∧
      AnsweredFrame st 0x22#8 .ok [] d ∧ sameExcept [.link, .store, .settings] s.dev d)

/-- SCHEDULE_SWAP sets the swap-pending mark with the cancel flag clear and clears it with the flag set, is answered OK
with the active-table mark and the swap-pending mark, and writes nothing to the store (R97; the two marks as two bytes of
their own, in that order, are log entry 30). -/
def Obligations.SwapSetsOrClearsTheMark : Prop :=
  ∀ (s : State) (st : Station), Polled st s.dev → (s.dev.settings.stations.get st).control = true →
    ∀ cancel : Bool, Answers (if cancel then .scheduleSwapCancel else .scheduleSwap true) s fun d =>
      d.sched = { s.dev.sched with swapPending := !cancel } ∧
      AnsweredOnly st 0x23#8 .ok [byte (tableCode s.dev.settings.active), flagByte (!cancel)] s.dev d ∧
      sameExcept [.link, .sched] s.dev d

/-- SET_FLOOR clamps to 0 to the capacity; with both marks set a lower floor is refused LOCKED with the floor and the marks
(R59 against R198's rule on refusals, log entry 28), and anything else becomes the floor once it is written. LOCK_MARK sets
the mark of the station's lock role, and only that, and is answered OK with both marks (R58 to R60). -/
def Obligations.FloorFallsOnlyUnlocked : Prop :=
  (∀ (s : State) (st : Station) (w : Word16), PolledIdle st s.dev →
     (s.dev.settings.stations.get st).control = true →
     let f := min w.toNat s.dev.settings.capacity
     let marks := byte ((if s.dev.bank.cabMark then 1 else 0) + (if s.dev.bank.fleetMark then 2 else 0))
     (s.dev.bank.cabMark = true ∧ s.dev.bank.fleetMark = true ∧ f < s.dev.settings.floor →
       Answers (.setFloor (some w)) s fun d =>
         AnsweredOnly st 0x24#8 .locked
           [byte (s.dev.settings.floor / 256), byte s.dev.settings.floor, marks] s.dev d ∧
         sameExcept [.link] s.dev d) ∧
     (¬ (s.dev.bank.cabMark = true ∧ s.dev.bank.fleetMark = true ∧ f < s.dev.settings.floor) →
       WritesThen (.setFloor (some w)) s fun d =>
         d.settings = { s.dev.settings with floor := f } ∧ d.bank = s.dev.bank ∧
         AnsweredFrame st 0x24#8 (codeFor w.toNat f) [byte (f / 256), byte f, marks] d ∧
         sameExcept (.settings :: .store :: budgetReach) s.dev d)) ∧
  (∀ (s : State) (st : Station), Polled st s.dev →
     ((s.dev.settings.stations.get st).role = .cab → Answers (.lockMark true) s fun d =>
       d.bank = { s.dev.bank with cabMark := true } ∧
       AnsweredOnly st 0x28#8 .ok [byte (1 + (if s.dev.bank.fleetMark then 2 else 0))] s.dev d ∧
       sameExcept [.link, .bank] s.dev d) ∧
     ((s.dev.settings.stations.get st).role = .fleet → Answers (.lockMark true) s fun d =>
       d.bank = { s.dev.bank with fleetMark := true } ∧
       AnsweredOnly st 0x28#8 .ok [byte ((if s.dev.bank.cabMark then 1 else 0) + 2)] s.dev d ∧
       sameExcept [.link, .bank] s.dev d))

/-- Every step keeps the floor lock: from every state in which at most one request is open and no write asked for breaks the
lock, every step but a power-on keeps it so, and while both marks are set the floor does not fall and no lane leaves the
protected set (R59). Every step keeps, too, what the causes, the waits of the scheduler, the plans and the notice sets rest
on: in CUTOFF its cause stands on every lane function and a lane is OFF only with CUTOFF or BUDGET (R12, R66, R72); a frame
boundary is owed only while the scheduler waits for a change of a current (R91, R101; log entry 52); an INTERNAL record
stands in its driver's reserved slot and serves the plan that the driver has (R7, R26, R177); every live entry of a set names
a live record that marks that set, none twice (R13, R42); a record's kind and parameters are those of its function (R4, R8);
the values handed to the loads are those of the GRANTED records: the highest setpoint, the lowest target, the outlet on while
one is GRANTED, a channel's latest level (R22); and no two live records have one sequence (R20). Right after power-on all of
it holds. -/
def Obligations.EveryStepKeepsLockCausesAndSets : Prop :=
  (∀ s t : State, LockOk s.dev → step s = .next t → LockOk t.dev ∧
    (Locked s.dev → (∀ a b, s.pending.head? ≠ some (.powerOn a b)) → KeepsLocked s.dev.settings t.dev.settings)) ∧
  (∀ s t : State, BooksOk s.dev → BondsOk s.dev → step s = .next t → BondsOk t.dev) ∧
  BondsOk State.reset.dev

/-- SET_PROTECT replaces the protected set once it is written and rebuilds the ladder from it; GLOW or an unnamed code is
refused BAD_VALUE, and with both marks set a set that lacks a protected lane LOCKED, with the set and the marks (log entry
28) (R59, R61, R70, R71). CLEAR_LOCKOUT in LOCKOUT: once NONE is written, the attempt count is 0, cause LOCKOUT is clear, the
heater stands in PRECHECK where demand stands then and in OFF otherwise, and the answer carries that state. So it is too with
other writes asked for behind the clear's, a swap's mark that the scheduler waits for among them: the heater waits no more,
and the answer is sent at once (log entry 51). In any other state it is answered with the state and nothing changes (R114,
R128, R130, R191). -/
def Obligations.ProtectAndClearTakeEffectWhenWritten : Prop :=
  (∀ (s : State) (st : Station) (b : Byte), PolledIdle st s.dev →
     (s.dev.settings.stations.get st).control = true →
     let old := s.dev.settings.protectedSet
     let new : PerLane Bool := ⟨b.getLsbD 0, b.getLsbD 2, b.getLsbD 3⟩
     let locked := s.dev.bank.cabMark = true ∧ s.dev.bank.fleetMark = true
     let marks := byte ((if s.dev.bank.cabMark then 1 else 0) + (if s.dev.bank.fleetMark then 2 else 0))
     let lacks := (old.heat = true ∧ new.heat = false) ∨ (old.cool = true ∧ new.cool = false) ∨
       (old.aux = true ∧ new.aux = false)
     (16 ≤ b.toNat ∨ b.getLsbD 1 = true → Answers (.setProtect (some b)) s fun d =>
       AnsweredOnly st 0x25#8 .badValue [] s.dev d ∧ sameExcept [.link] s.dev d) ∧
     (b.toNat < 16 → b.getLsbD 1 = false →
       (locked ∧ lacks → Answers (.setProtect (some b)) s fun d =>
         AnsweredOnly st 0x25#8 .locked
           [byte ((if old.heat then 1 else 0) + (if old.cool then 4 else 0) + (if old.aux then 8 else 0)), marks] s.dev d ∧
         sameExcept [.link] s.dev d) ∧
       (¬ (locked ∧ lacks) → WritesThen (.setProtect (some b)) s fun d =>
         d.settings = { s.dev.settings with protectedSet := new } ∧ d.bank = s.dev.bank ∧
         d.budget.ladder = ladderOf s.dev.settings.shedOrder new ∧
         AnsweredFrame st 0x25#8 .ok [b, marks] d ∧ sameExcept (.settings :: .store :: budgetReach) s.dev d))) ∧
  (∀ (s : State) (st : Station), PolledIdle st s.dev → (s.dev.settings.stations.get st).control = true →
    (s.dev.heater.state = .lockout → s.dev.heater.held = [] → CausesOk s.dev → WritesThen (.clearLockout true) s fun d =>
      let demand := d.heater.demand.isSome = true ∧ d.budget.modes.heat ≠ .off
      d.settings = { s.dev.settings with lockout := .none } ∧ d.heater.attempts = 0 ∧
      d.table.causes.heater.lockout = false ∧
      (demand → d.heater.state = .precheck) ∧ (¬ demand → d.heater.state = .off) ∧
      (TableOk s.dev → s.dev.table.causes.heater.lockout = true →
        (∃ hr ∈ records s.dev, hr.2.fn = .heater ∧ hr.2.state = .suspended ∧ ∃ t p, hr.2.params = .heat t p) →
        causesOf d.table.causes .heater = CauseSet.none → d.heater.demand.isSome = true) ∧
      d.heater.waiting = false ∧
      AnsweredFrame st 0x26#8 .ok [byte (heaterCode d.heater.state)] d ∧
      sameExcept (.settings :: .store :: budgetReach) s.dev d) ∧
    (s.dev.heater.state ≠ .lockout → Answers (.clearLockout true) s fun d =>
      AnsweredOnly st 0x26#8 .ok [byte (heaterCode s.dev.heater.state)] s.dev d ∧ sameExcept [.link] s.dev d)) ∧
  (∀ (s : State) (st : Station) (i : ImageId) (rest : List Job), s.dev.inReset = false → s.dev.store.writing = some i →
    s.dev.store.jobs = ⟨.lockout .none, .lockoutCleared st⟩ :: rest → s.dev.heater.state = .lockout →
    s.dev.heater.held = [] → WaitsOk s.dev → SchedOk s.dev → CausesOk s.dev →
    Answers .storeWriteComplete s fun d =>
      let demand := d.heater.demand.isSome = true ∧ d.budget.modes.heat ≠ .off
      let body := [byte (heaterCode d.heater.state)]
      d.settings = { s.dev.settings with lockout := .none } ∧ d.heater.attempts = 0 ∧ d.heater.waiting = false ∧
      d.table.causes.heater.lockout = false ∧ d.store.jobs = rest ∧
      (demand → d.heater.state = .precheck) ∧ (¬ demand → d.heater.state = .off) ∧
      AnsweredFrame st 0x26#8 .ok body d ∧ d.link.heldAnswer = none ∧
      sameExcept (.settings :: .store :: budgetReach) s.dev d)

/-- RESTART retires every record, empties the queue, every set and the swap-pending mark, ends both plans, sets RESTARTED
in every ONLINE station and in no other, and is answered with the number of records retired. Charge, settings, store and
the combustion mark are kept, and each account keeps its counters, activities, timers, warnings, acknowledgement and dash
schedule: only the sounding of a call ends. The ladder position is 0 before the recomputation, which then takes the steps
that it needs (R46, R47, R64 to R69, R132, R186). The answer is held where the heater holds a message of the request
while it waits for the store (log entry 51). -/
def Obligations.RestartClearsEveryDemand : Prop :=
  ∀ (s : State) (st : Station), Polled st s.dev → (s.dev.settings.stations.get st).control = true →
    Answers (.restart true) s fun d =>
      (∀ x ∈ d.table.slots, x.rcd = none) ∧ d.table.slots.length = s.dev.table.slots.length ∧
      (∀ (i : Nat) (x : Slot), s.dev.table.slots[i]? = some x →
        (d.table.slots[i]?).map Slot.gen = some (if x.rcd.isSome then (if x.gen ≥ 255 then 1 else x.gen + 1) else x.gen)) ∧
      d.table.queue = [] ∧ d.table.counter = 0 ∧
      (∀ x, (d.link.stations.get x).entries = [] ∧
        ((d.link.stations.get x).flags.restarted = true ↔ (d.link.stations.get x).link = .online) ∧
        (d.link.stations.get x).link = ((afterReply st s.dev).get x).link) ∧
      (∀ dr, d.plans.get dr = PlanUnit.empty) ∧ d.sched.swapPending = false ∧ d.heater.demand = none ∧
      d.fridge.target = none ∧ d.sched.outletOn = false ∧ (∀ c, (d.lamps.get c).effective = 0) ∧
      (∀ c, (d.lamps.get c).fault = (s.dev.lamps.get c).fault) ∧ d.heater.attempts = s.dev.heater.attempts ∧
      (∀ dr, let a := s.dev.accounts.get dr
        d.accounts.get dr = if (s.dev.plans.get dr).call = .calling then { a with bunkUntil := none } else a) ∧
      (LadderOk s.dev →
        let b := d.budget
        let v := s.dev.bank.vstate
        let at' := fun n : Nat => projectAt d n none
        let covers := fun start : Nat => start ≤ b.position ∧ b.position ≤ b.ladder.length ∧
          (∀ n, start ≤ n → n < b.position → (at' n).m < 0) ∧
          (0 ≤ (at' b.position).m ∨ b.position = b.ladder.length) ∧ b.proj = at' b.position
        b.ladder = s.dev.budget.ladder ∧
        (v = .cutoff → b.mode = .cutoff ∧ b.position = 0) ∧
        (v = .low → s.dev.budget.mode ≠ .cutoff → b.mode = .lowVoltage ∧ covers 4) ∧
        (v = .normal ∨ v = .high → s.dev.vehicle.running = true → b.mode = .charging ∧ b.position = 0) ∧
        (v = .normal ∨ v = .high → s.dev.vehicle.running = false → s.dev.budget.mode ≠ .cutoff → covers 0)) ∧
      Replied st 0x27#8 .ok (.bytes [byte (records s.dev).length]) s.dev d ∧
      sameExcept (.accounts :: .plans :: budgetReach) s.dev d

/-! ## Configuration -/

/-- Full voltage, debounce codes, slot length, deferral limit, fade rate, identifier base, default horizon, restore margin,
gains and zero offset take the value sent, clamped to their ranges, once it is written; the answer carries it. A budget
setting reaches only what a recomputation reaches; the others change nothing else. The restore margin is read as a signed
number, as every charge is, and so is the zero offset (R195; log entry 26) (R5, R48, R51, R55, R89, R100, R154,
R188, R192, R201). -/
def Obligations.PlainSettingsTakeTheClampedValue : Prop :=
  (∀ (s : State) (st : Station), PolledIdle st s.dev → (s.dev.settings.stations.get st).configure = true →
     let old := s.dev.settings
     let two := fun (i : Instr) (w v : Nat) (new : Settings) => WritesThen i s fun d =>
       d.settings = new ∧ AnsweredFrame st 0x30#8 (codeFor w v) [byte (v / 256), byte v] d ∧
       sameExcept [.link, .store, .settings] s.dev d
     let one := fun (i : Instr) (w v : Nat) (new : Settings) => WritesThen i s fun d =>
       d.settings = new ∧ AnsweredFrame st 0x30#8 (codeFor w v) [byte v] d ∧
       sameExcept [.link, .store, .settings] s.dev d
     (∀ w : Word16, let v := max 24000 (min w.toNat 32000)
       two (.configureFullVoltage w) w.toNat v { old with fullVoltage := v }) ∧
     (∀ (th : Threshold) (b : Byte), let v := max 0 (min b.toNat 7)
       one (.configureDebounce th b) b.toNat v { old with debounce := old.debounce.set v th }) ∧
     (∀ b : Byte, let v := max 5 (min b.toNat 60)
       one (.configureSlotLength b) b.toNat v { old with slotLength := v }) ∧
     (∀ b : Byte, let v := max 1 (min b.toNat 240)
       one (.configureDeferralLimit b) b.toNat v { old with deferralLimit := v }) ∧
     (∀ b : Byte, let v := max 1 (min b.toNat 100)
       one (.configureFadeRate b) b.toNat v { old with fadeRate := v }) ∧
     (∀ w : Word16, let v := max 0 (min w.toNat 2044)
       two (.configureIdentifierBase w) w.toNat v { old with idBase := v })) ∧
  (∀ (s : State) (st : Station), PolledIdle st s.dev → (s.dev.settings.stations.get st).configure = true →
     (∀ b : Byte, let v := max 1 (min b.toNat 24)
       WritesThen (.configureBudgetSetting (.horizon b)) s fun d =>
         d.settings = { s.dev.settings with horizon := v } ∧ AnsweredFrame st 0x30#8 (codeFor b.toNat v) [byte v] d ∧
         sameExcept (.settings :: .store :: budgetReach) s.dev d) ∧
     (∀ w : Word32, let v := max 0 (min w.toInt 86400)
       WritesThen (.configureBudgetSetting (.margin w)) s fun d =>
         d.settings = { s.dev.settings with restoreMargin := v.toNat } ∧
         AnsweredFrame st 0x30#8 (codeFor w.toInt v) [byte (v.toNat / 16777216), byte (v.toNat / 65536),
           byte (v.toNat / 256), byte v.toNat] d ∧
         sameExcept (.settings :: .store :: budgetReach) s.dev d)) ∧
  (∀ (s : State) (st : Station) (w : Word16), PolledIdle st s.dev →
     (s.dev.settings.stations.get st).configure = true →
     let old := s.dev.settings
     let done := fun (which : SenseScale) (sent v : Int) (new : Settings) (body : List Byte) =>
       WritesThen (.configureSenseScaling which w) s fun d =>
         d.settings = new ∧ AnsweredFrame st 0x30#8 (codeFor sent v) body d ∧
         sameExcept [.link, .store, .settings] s.dev d
     let gainV := max 1 (min w.toNat 16383)
     let gainI := max 1 (min w.toNat 32767)
     let zero := max (-256) (min w.toInt 255)
     done .voltageGain w.toNat gainV { old with voltageGain := gainV } [byte (gainV / 256), byte gainV] ∧
     done .currentGain w.toNat gainI { old with currentGain := gainI } [byte (gainI / 256), byte gainI] ∧
     done .zeroOffset w.toInt zero { old with zeroOffset := zero } (be16i zero))

/-- A shed order that is a permutation of HEAT, COOL and AUX is taken, and the ladder is rebuilt from it; any other is
refused BAD_VALUE with the order kept (R70, R71, R89). -/
def Obligations.ShedOrderRebuildsTheLadder : Prop :=
  ∀ (s : State) (st : Station) (a b c : Byte), PolledIdle st s.dev →
    (s.dev.settings.stations.get st).configure = true →
    (∀ x y z : Lane, laneOfCode a = some x → laneOfCode b = some y → laneOfCode c = some z →
      x ≠ y → y ≠ z → x ≠ z → WritesThen (.configureShedOrder a b c) s fun d =>
        d.settings = { s.dev.settings with shedOrder := ⟨x, y, z⟩ } ∧
        d.budget.ladder = ladderOf ⟨x, y, z⟩ s.dev.settings.protectedSet ∧
        AnsweredFrame st 0x30#8 .ok [a, b, c] d ∧ sameExcept (.settings :: .store :: budgetReach) s.dev d) ∧
    (¬ (∃ x y z : Lane, laneOfCode a = some x ∧ laneOfCode b = some y ∧ laneOfCode c = some z ∧
        x ≠ y ∧ y ≠ z ∧ x ≠ z) → Answers (.configureShedOrder a b c) s fun d =>
      AnsweredOnly st 0x30#8 .badValue [] s.dev d ∧ sameExcept [.link] s.dev d)

/-- A capacity is clamped to 20 to 1,000 Ah; with both marks set one below the floor is refused LOCKED, with the floor and
the marks (R59 against R198's rule on refusals, log entry 28). An accepted one lowers a floor above it, and one that
differs clamps the charge to the new full charge and sets UNCALIBRATED (R50). -/
def Obligations.CapacityClampsTheCharge : Prop :=
  ∀ (s : State) (st : Station) (w : Word16), PolledIdle st s.dev →
    (s.dev.settings.stations.get st).configure = true →
    let v := max 20 (min w.toNat 1000)
    let locked := s.dev.bank.cabMark = true ∧ s.dev.bank.fleetMark = true ∧ v < s.dev.settings.floor
    (locked → Answers (.configureCapacity w) s fun d =>
      AnsweredOnly st 0x30#8 .locked [byte (s.dev.settings.floor / 256), byte s.dev.settings.floor, 3#8] s.dev d ∧
      sameExcept [.link] s.dev d) ∧
    (¬ locked → WritesThen (.configureCapacity w) s fun d =>
      d.settings = { s.dev.settings with capacity := v, floor := min s.dev.settings.floor v } ∧
      (v = s.dev.settings.capacity → d.bank = s.dev.bank) ∧
      (v ≠ s.dev.settings.capacity → d.bank = { s.dev.bank with
        q := min s.dev.bank.q (v * 3600)
        r := if v * 3600 < s.dev.bank.q then 0 else s.dev.bank.r
        uncalibrated := true }) ∧
      AnsweredFrame st 0x30#8 (codeFor w.toNat v) [byte (v / 256), byte v] d ∧
      sameExcept (.settings :: .store :: .bank :: budgetReach) s.dev d)

/-- A threshold is clamped to its range; one that would leave a gap below 400 mV is refused BAD_VALUE. An accepted one
sets every debounce timer to 0 and keeps the voltage state, and the factory values are those of R54's table (R54). One
equal to the present threshold counts as a change (log entry 43). -/
def Obligations.ThresholdsKeepTheirGaps : Prop :=
  Config.factory.thresholds = ⟨23000, 24000, 30500⟩ ∧ Config.factory.debounce = ⟨3, 4, 1⟩ ∧
  ∀ (s : State) (st : Station) (th : Threshold) (w : Word16), PolledIdle st s.dev →
    (s.dev.settings.stations.get st).configure = true →
    let v := match th with
      | .cutoff => max 18000 (min w.toNat 26000)
      | .low => max 19000 (min w.toNat 28000)
      | .high => max 26000 (min w.toNat 32000)
    let new := s.dev.settings.thresholds.set v th
    (new.cutoff + 400 ≤ new.low ∧ new.low + 400 ≤ new.high → WritesThen (.configureThreshold th w) s fun d =>
      d.settings = { s.dev.settings with thresholds := new } ∧
      d.bank = { s.dev.bank with timers := ⟨0, 0, 0, 0, 0, 0⟩ } ∧
      AnsweredFrame st 0x30#8 (codeFor w.toNat v) [byte (v / 256), byte v] d ∧
      sameExcept [.link, .store, .settings, .bank] s.dev d) ∧
    (¬ (new.cutoff + 400 ≤ new.low ∧ new.low + 400 ≤ new.high) → Answers (.configureThreshold th w) s fun d =>
      AnsweredOnly st 0x30#8 .badValue [] s.dev d ∧ sameExcept [.link] s.dev d)

/-- A setting of R90 is answered BUSY while a heavy load is not idle. With the loads idle it is clamped; one that would put
rHMIN above rHEAT is refused BAD_VALUE. An accepted one of the lane currents, rHMIN or the peak limit empties every entry
of both tables whose currents sum above the new peak limit and sets TRIMMED where one was emptied (R90 to R92). The
value is read as signed, as every current is (R195; log entry 26). From the acceptance until the setting is in force the
scheduler keeps every lane without permission and the loads stay idle (log entry 52); a slot boundary that comes meanwhile
is taken when the setting is in force (R99, R191; log entry 65). No boundary is late or owed while the scheduler does not
wait (`WaitsOk`, `SchedOk`). -/
def Obligations.CurrentsNeedIdleLoads : Prop :=
  ∀ (s : State) (st : Station) (which : CurrentSetting) (w : Word16), PolledIdle st s.dev →
    (s.dev.settings.stations.get st).configure = true →
    let idle := (s.dev.heater.state = .off ∨ s.dev.heater.state = .precheck ∨ s.dev.heater.state = .waitGlow ∨
      s.dev.heater.state = .pause ∨ s.dev.heater.state = .lockout) ∧ s.dev.fridge.state ≠ .running ∧
      s.dev.sched.outletClosed = false
    let range : Int × Int := match which with
      | .rHMin => (0, 3000)
      | .peak => (500, 6000)
      | .lamp _ => (0, 300)
      | .quiescent => (0, 500)
      | _ => (10, 3000)
    let v := max range.1 (min w.toInt range.2)
    let new := s.dev.settings.currents.set v.toNat which
    let trim : Schedule → Schedule := fun t =>
      let es := t.entries.map fun e => if new.peak < entryCurrent new e then ⟨false, false, false, false⟩ else e
      ⟨es, t.length, t.trimmed || decide (es ≠ t.entries)⟩
    let lane : Bool := match which with
      | .lamp _ => false
      | .quiescent => false
      | _ => true
    (¬ idle → Answers (.configureCurrents which w) s fun d =>
      AnsweredOnly st 0x30#8 .busy [] s.dev d ∧ sameExcept [.link] s.dev d) ∧
    (idle → new.rHeat < new.rHMin → Answers (.configureCurrents which w) s fun d =>
      AnsweredOnly st 0x30#8 .badValue [] s.dev d ∧ sameExcept [.link] s.dev d) ∧
    (idle → new.rHMin ≤ new.rHeat → s.dev.sched.late = [] → s.dev.sched.owed = none →
      (∃ t, exec (.configureCurrents which w) s = .next t ∧ t.dev.settings = s.dev.settings ∧
        t.dev.sched = { s.dev.sched with waiting := true, perm := ⟨false, false, false⟩ } ∧
        sameExcept [.link, .store, .sched] s.dev t.dev ∧
        ∀ a b, ∃ u v, exec (.slotBoundary a b) t = .next u ∧
          u.dev.sched = { t.dev.sched with late := [(a, b)] } ∧ sameExcept [.sched] t.dev u.dev ∧
          exec .storeWriteComplete u = .next v ∧ v.dev.sched.late = [] ∧
          (s.dev.sched.slotIndex + 1 < (activeTable s.dev).length →
            v.dev.sched.slotIndex = s.dev.sched.slotIndex + 1 ∧ v.dev.sched.slotTime = 0 ∧
            v.dev.sched.frame = s.dev.sched.frame) ∧
          ((activeTable s.dev).length ≤ s.dev.sched.slotIndex + 1 → s.dev.sched.swapPending = false →
            v.dev.sched.slotIndex = 0 ∧ v.dev.sched.slotTime = 0 ∧
            v.dev.sched.frame = (if s.dev.sched.frame ≥ 4294967295 then 0 else s.dev.sched.frame + 1))) ∧
      WritesThen (.configureCurrents which w) s fun d =>
      d.settings = { s.dev.settings with
        currents := new
        tables := if lane then ⟨trim s.dev.settings.tables.a, trim s.dev.settings.tables.b⟩
          else s.dev.settings.tables } ∧
      AnsweredFrame st 0x30#8 (codeFor w.toInt v) (be16i v) d ∧
      sameExcept (.settings :: .store :: budgetReach) s.dev d)

/-- A rest parameter is clamped to its range; a set that breaks one of the five relations is refused BAD_VALUE. An accepted
one keeps every counter and evaluates both drivers' warnings at once; a raise and an end act on acknowledgement, flags and
dash alarm (R168 to R173), all that one evaluation changes being one change (log entry 48). -/
def Obligations.RestParametersActOnWarnings : Prop :=
  ∀ (s : State) (st : Station) (which : RestParam) (w : Word16), PolledIdle st s.dev →
    (s.dev.settings.stations.get st).configure = true →
    let range : Nat × Nat := match which with
      | .ld => (60, 600)
      | .lead => (0, 59)
      | .b => (15, 120)
      | .b1 => (5, 119)
      | .b2 => (5, 120)
      | .dd => (60, 900)
      | .rr => (60, 1440)
      | .rd => (60, 1440)
      | .settle => (0, 300)
    let v := max range.1 (min w.toNat range.2)
    let p := s.dev.settings.rest.set v which
    let holds := p.lead < p.ld ∧ p.lead < p.dd ∧ p.b1 < p.b ∧ p.b2 ≤ p.b ∧ p.rr ≤ p.rd
    (¬ holds → Answers (.configureRestParameter which w) s fun d =>
      AnsweredOnly st 0x30#8 .badValue [] s.dev d ∧ sameExcept [.link] s.dev d) ∧
    (holds → WritesThen (.configureRestParameter which w) s fun d =>
      d.settings = { s.dev.settings with rest := p } ∧
      (∀ dr, let a := s.dev.accounts.get dr
        let a' := d.accounts.get dr
        a'.cd = a.cd ∧ a'.dd = a.dd ∧ a'.bl = a.bl ∧ a'.rl = a.rl ∧ a'.candidate = a.candidate ∧
        a'.settleTimer = a.settleTimer ∧
        a'.warnings = ⟨decide (p.rd * 60 ≤ a.rl), a.warnings.restInterrupted, decide ((p.ld - p.lead) * 60 ≤ a.cd),
          decide ((p.dd - p.lead) * 60 ≤ a.dd), decide (p.ld * 60 ≤ a.cd), decide (p.dd * 60 ≤ a.dd)⟩) ∧
      WarningsActed s.dev.clock.sec s.dev d ∧
      AnsweredFrame st 0x30#8 (codeFor w.toNat v) [byte (v / 256), byte v] d ∧
      sameExcept [.link, .store, .settings, .accounts] s.dev d)

/-- A window with a size that is a power of two from 1 to 64 is taken whole with its bases clamped to 63, or made absent, and
a station level with its quota clamped to 46; a change that would leave no enabled station with CONFIGURE, a bad size and a
role code that names none (log entry 86) are refused BAD_VALUE (R39, R201). The present flag is bit 0 of its byte and the
other bits are ignored (R195, R201; log entry 26), and an absent window's other bytes are answered 0 (log entry 63). The
station is enabled or disabled with its settings: one that becomes enabled is OFFLINE with missed and skip count 0, one that
becomes DISABLED loses its set, its flags and its failure kind and keeps its counts (log entry 77). The answer carries the
values in force (R32, R33, R39, R192). -/
def Obligations.WindowsAndLevelsKeepAConfigurer : Prop :=
  ∀ (s : State) (st st' : Station), PolledIdle st s.dev → (s.dev.settings.stations.get st).configure = true →
    let configurerIn := fun p : PerStation StationSettings =>
      ∃ x, (p.get x).configure = true ∧ ((p.get x).quota ≠ 0 ∨ ∃ i, (p.get x).windows.get i ≠ none)
    let refused := fun i : Instr => Answers i s fun d =>
      AnsweredOnly st 0x30#8 .badValue [] s.dev d ∧ sameExcept [.link] s.dev d
    let taken := fun (i : Instr) (new : StationSettings) (code : AnswerCode) (body : List Byte) => WritesThen i s fun d =>
      d.settings = { s.dev.settings with stations := s.dev.settings.stations.set new st' } ∧
      (let p := (afterReply st s.dev).get st'
       let q := d.link.stations.get st'
       let off := new.quota = 0 ∧ ∀ i, new.windows.get i = none
       (q.link = .disabled ↔ off) ∧
       (off → p.link ≠ .disabled → q = { p with link := .disabled, entries := [], flags := Flags.none, failure := .none }) ∧
       (¬ off → p.link = .disabled → q = { p with link := .offline, missed := 0, skip := 0 }) ∧
       ((p.link = .disabled ↔ off) → q = p)) ∧
      (∀ x, x ≠ st' → d.link.stations.get x = (afterReply st s.dev).get x) ∧
      sameExcept [.link, .store, .settings] s.dev d ∧ AnsweredFrame st 0x30#8 code body d
    let present := s.dev.settings.stations.get st'
    (∀ (i : WindowIndex) (f : WindowFields),
      let good := f.present.getLsbD 0 = false ∨ f.size.toNat ∈ [1, 2, 4, 8, 16, 32, 64]
      let w : Option Window := if f.present.getLsbD 0 then
          some ⟨min f.base.toNat 63, f.size.toNat, min f.global.toNat 63, rightsOfByte f.rights⟩ else none
      let new := { present with windows := present.windows.set w i }
      (¬ good → refused (.configureWindow st' i f)) ∧
      (good → ¬ configurerIn (s.dev.settings.stations.set new st') → refused (.configureWindow st' i f)) ∧
      (good → configurerIn (s.dev.settings.stations.set new st') → taken (.configureWindow st' i f) new
        (if f.present.getLsbD 0 = true ∧ (63 < f.base.toNat ∨ 63 < f.global.toNat) then .okClamped else .ok)
        (match w with
          | none => [0#8, 0#8, 0#8, 0#8, 0#8]
          | some x => [1#8, byte x.base, byte x.size, byte x.global, f.rights &&& 0x1F#8]))) ∧
    (∀ f : LevelFields,
      (roleOfCode f.role = none → refused (.configureStationLevel st' f)) ∧
      (∀ role, roleOfCode f.role = some role →
        let new := { present with
          control := f.bits.getLsbD 0, configure := f.bits.getLsbD 1, role := role, quota := min f.quota.toNat 46 }
        (¬ configurerIn (s.dev.settings.stations.set new st') → refused (.configureStationLevel st' f)) ∧
        (configurerIn (s.dev.settings.stations.set new st') → taken (.configureStationLevel st' f) new
          (if 46 < f.quota.toNat then .okClamped else .ok) [f.bits &&& 3#8, f.role, byte (min f.quota.toNat 46)])))

/-- READ_CONFIG answers the value in force of an assigned number and refuses another BAD_VALUE; of a table it answers the
entries of the run, the length and the three marks, with a count of 0 or above 16 clamped and answered OK_CLAMPED, and
refuses a run of that count that passes index 63 (R39; log entry 59); it writes nothing (R98, R192, R195, R201). An absent
window's bytes are 0 (log entry 63). The three marks of a table in one byte, TRIMMED, active and swap-pending from bit 0 on,
are log entry 30. -/
def Obligations.ReadConfigAnswersTheValue : Prop :=
  ∀ (s : State) (st : Station), Polled st s.dev → (s.dev.settings.stations.get st).configure = true →
    let c := s.dev.settings
    let m := c.restoreMargin
    let two : Nat → List Byte := fun n => [byte (n / 256), byte n]
    let answers := fun (n : Byte) (body : List Byte) => Answers (.readConfig (some n)) s fun d =>
      AnsweredOnly st 0x31#8 .ok body s.dev d ∧ sameExcept [.link] s.dev d
    (∀ p ∈ [(0x01#8, two c.capacity), (0x02#8, two c.fullVoltage), (0x03#8, two c.thresholds.cutoff),
        (0x04#8, two c.thresholds.low), (0x05#8, two c.thresholds.high), (0x06#8, [byte c.debounce.cutoff]),
        (0x07#8, [byte c.debounce.low]), (0x08#8, [byte c.debounce.high]), (0x09#8, two c.voltageGain),
        (0x0A#8, two c.currentGain), (0x0B#8, be16i c.zeroOffset), (0x0C#8, two c.floor),
        (0x0D#8, [byte ((if c.protectedSet.heat then 1 else 0) + (if c.protectedSet.cool then 4 else 0) +
          (if c.protectedSet.aux then 8 else 0))]),
        (0x10#8, [byte (laneCode c.shedOrder.first), byte (laneCode c.shedOrder.second),
          byte (laneCode c.shedOrder.third)]),
        (0x11#8, [byte c.horizon]), (0x12#8, byte (m / 16777216) :: byte (m / 65536) :: two m)], answers p.1 p.2) ∧
    (∀ p ∈ [(0x18#8, c.currents.rHeat), (0x19#8, c.currents.rHMin), (0x1A#8, c.currents.rGlow),
        (0x1B#8, c.currents.rCool), (0x1C#8, c.currents.rAux), (0x1D#8, c.currents.peak),
        (0x1E#8, c.currents.lamp.c8), (0x1F#8, c.currents.lamp.c9), (0x20#8, c.currents.lamp.c10),
        (0x21#8, c.currents.lamp.c11), (0x22#8, c.currents.lamp.c12), (0x23#8, c.currents.lamp.c13),
        (0x24#8, c.currents.quiescent), (0x30#8, c.rest.ld), (0x31#8, c.rest.lead), (0x32#8, c.rest.b),
        (0x33#8, c.rest.b1), (0x34#8, c.rest.b2), (0x35#8, c.rest.dd), (0x36#8, c.rest.rr), (0x37#8, c.rest.rd),
        (0x38#8, c.rest.settle), (0x60#8, c.idBase)], answers p.1 (two p.2)) ∧
    (∀ p ∈ [(0x28#8, c.slotLength), (0x29#8, c.deferralLimit), (0x2A#8, c.fadeRate)], answers p.1 [byte p.2]) ∧
    (∀ x : Station, let n := 0x40 + 5 * (stationAddress x - 1)
      let own := c.stations.get x
      let window : Option Window → List Byte := fun w =>
        match w with
        | none => [0#8, 0#8, 0#8, 0#8, 0#8]
        | some w => [1#8, byte w.base, byte w.size, byte w.global,
            byte ((if w.rights.lookup then 1 else 0) + (if w.rights.changeOwn then 2 else 0) +
              (if w.rights.changeAny then 4 else 0) + (if w.rights.retireOwn then 8 else 0) +
              (if w.rights.retireAny then 16 else 0))]
      answers (byte n) (window own.windows.w0) ∧ answers (byte (n + 1)) (window own.windows.w1) ∧
      answers (byte (n + 2)) (window own.windows.w2) ∧ answers (byte (n + 3)) (window own.windows.w3) ∧
      answers (byte (n + 4)) [byte ((if own.control then 1 else 0) + (if own.configure then 2 else 0)),
        byte (match own.role with
          | .none => 0
          | .cab => 1
          | .fleet => 2), byte own.quota]) ∧
    (∀ n : Byte, let k := n.toNat
      ¬ ((1 ≤ k ∧ k ≤ 0x0D) ∨ (0x10 ≤ k ∧ k ≤ 0x12) ∨ (0x18 ≤ k ∧ k ≤ 0x24) ∨ (0x28 ≤ k ∧ k ≤ 0x2A) ∨
        (0x30 ≤ k ∧ k ≤ 0x38) ∨ (0x40 ≤ k ∧ k ≤ 0x5D) ∨ k = 0x60) →
      Answers (.readConfig (some n)) s fun d =>
        AnsweredOnly st 0x31#8 .badValue [] s.dev d ∧ sameExcept [.link] s.dev d) ∧
    (∀ (t : TableId) (r : TableRun), Answers (.readTable t (some r)) s fun d =>
      sameExcept [.link] s.dev d ∧
      let n := max 1 (min r.count.toNat 16)
      (r.first.toNat + n ≤ 64 →
        AnsweredOnly st 0x31#8 (if n = r.count.toNat then .ok else .okClamped)
          ((((c.tables.get t).entries.drop r.first.toNat).take n).map laneSetByte ++
            [byte (c.tables.get t).length, byte ((if (c.tables.get t).trimmed then 1 else 0) +
              (if t = c.active then 2 else 0) + (if s.dev.sched.swapPending then 4 else 0))]) s.dev d) ∧
      (64 < r.first.toNat + n →
        AnsweredOnly st 0x31#8 .badValue [] s.dev d))

/-! ## Records that time moves, and the sets that hold their notices -/

/-- A SCHEDULED LAMP record is GRANTED IMMEDIATE at its start time; a SCHEDULED lane record goes to admission then. It is
GRANTED (and at once meets the causes that stand) where its lane is engaged by another record, where its class is not
LEISURE, in CHARGING, and in a projection mode where the margin with the lane engaged is at least 0; otherwise it is
DEFERRED with its deadline and joins the queue's tail. A record that is no plan leaves the table at its end time, and a
DEFERRED one at its deadline (R10, R11, R16, R17, R83). -/
def Obligations.TimesMoveRecords : Prop :=
  (∀ (s : State) (h : Handle) (r : Record) (t : Nat), s.dev.inReset = false → lookup s.dev h = some r →
     r.state = .scheduled → r.start = some t → t ≤ s.dev.clock.sec →
     (∀ c l, r.fn = .lamp c → r.params = .lamp l → causesOf s.dev.table.causes (.lamp c) = CauseSet.none →
       Answers (.recordStart h) s fun d =>
         lookup d h = some { r with state := .granted, reason := .immediate, deadline := none } ∧
         sameExcept budgetReach s.dev d) ∧
     (∀ l : Lane, r.fn = laneFn l →
       let others := ∃ hr ∈ records s.dev, hr.1 ≠ h ∧ hr.2.fn = laneFn l ∧
         (hr.2.state = .granted ∨ (hr.2.state = .suspended ∧ hr.2.reason = .budget))
       let mode := s.dev.budget.mode
       let fits := (mode = .nominal ∨ mode = .curtailed ∨ mode = .short) ∧
         0 ≤ (project s.dev s.dev.budget.modes s.dev.budget.cap (some l)).m
       (others ∨ r.cls ≠ .leisure ∨ mode = .charging ∨ fits → Answers (.recordStart h) s fun d =>
         (∃ r', lookup d h = some r' ∧ (r'.state = .granted ∨ r'.state = .suspended) ∧ r'.deadline = none) ∧
         h ∉ d.table.queue ∧ sameExcept budgetReach s.dev d) ∧
       (¬ (others ∨ r.cls ≠ .leisure ∨ mode = .charging ∨ fits) → h ∉ s.dev.table.queue →
         Answers (.recordStart h) s fun d =>
           lookup d h = some { r with
             state := .deferred
             reason := if mode = .lowVoltage ∨ mode = .cutoff then .lowVoltage else .noMargin
             deadline := some (s.dev.clock.sec + 60 * r.limit) } ∧
           d.table.queue = s.dev.table.queue ++ [h] ∧ sameExcept [.table, .link] s.dev d))) ∧
  (∀ (s : State) (h : Handle) (r : Record) (t : Nat), s.dev.inReset = false → lookup s.dev h = some r →
     restDriver r.fn = none → t ≤ s.dev.clock.sec →
     let gone := fun d : Device =>
       d.table.slots[h.slot]? = some ⟨if h.gen ≥ 255 then 1 else h.gen + 1, none⟩ ∧ lookup d h = none ∧
       h ∉ d.table.queue ∧ sameExcept budgetReach s.dev d
     (r.state ≠ .scheduled → r.endAt = some t → Answers (.recordEnd h) s gone) ∧
     (r.state = .deferred → r.deadline = some t → Answers (.deferExpired h) s gone))

/-- A mark joins the tail of an ONLINE station's set unless the record has an entry; a retirement turns the record's entry
into a retired one in its place, or joins the tail. A full set of 64 loses its oldest retired entry and sets RESYNC, so a
set never holds more than 64 entries, and every other entry keeps its order. (A full set with no retired entry, which no
run reaches, loses its oldest entry: log entry 40.) A station that is not ONLINE is not filled (R30, R42, R43). -/
def Obligations.NoticeSetsHoldSixtyFour : Prop :=
  ∀ (h : Handle) (fn : Fn) (why : RetireReason) (p : StationLink), p.entries.length ≤ 64 →
    (p.link ≠ .online → markEntry h p = p ∧ retireEntry h fn why p = p) ∧
    (p.link = .online →
      (.live h ∈ p.entries → markEntry h p = p ∧
        (retireEntry h fn why p).flags = p.flags ∧
        (retireEntry h fn why p).entries.length = p.entries.length ∧
        (∀ i, p.entries[i]? = some (.live h) → (∀ j, j < i → p.entries[j]? ≠ some (.live h)) →
          (retireEntry h fn why p).entries = p.entries.set i (.retired h fn why))) ∧
      (.live h ∉ p.entries →
        ∀ q, q = markEntry h p ∨ q = retireEntry h fn why p →
          q.entries.length = min 64 (p.entries.length + 1) ∧
          (p.entries.length < 64 → q.flags = p.flags ∧ q.entries.dropLast = p.entries) ∧
          (p.entries.length = 64 → q.flags = { p.flags with resync := true } ∧
            (∀ before g f w after, p.entries = before ++ .retired g f w :: after →
              (∀ e ∈ before, ∃ x, e = .live x) → q.entries.dropLast = before ++ after) ∧
            ((∀ e ∈ p.entries, ∃ x, e = .live x) → q.entries.dropLast = p.entries.tail))) ∧
      (.live h ∉ p.entries →
        (markEntry h p).entries.getLast? = some (.live h) ∧
        (retireEntry h fn why p).entries.getLast? = some (.retired h fn why)))

/-! ## Battery monitor -/

/-- A sample is scaled and saturated, moves the six debounce timers, the full-anchor timer, the second's sum and the two
frame ages, and touches no charge and no voltage state; at 6,000 samples the full anchor is made, and ten minutes of one
engine run clear both lock marks (R48, R51, R55, R62, R188). That MARKS_CLEAR is taken at any time from 600 s on, once in an
engine run, by the model's mark of that run, is log entries 4 and 36. -/
def Obligations.SamplesFeedTheTimers : Prop :=
  (∀ (s : State) (rawV rawI : BitVec 12), s.dev.inReset = false →
     Answers (.batterySample rawV rawI) s fun d =>
       let c := s.dev.settings
       let v := min 32767 (rawV.toNat * c.voltageGain / 1024)
       let i := max (-30000) (min (Int.tdiv ((rawI.toInt - c.zeroOffset) * c.currentGain) 1024) 30000)
       let count := fun (met : Bool) (code n : Nat) => if met then max n (min (n + 1) (10 * 2 ^ code)) else 0
       let t := s.dev.bank.timers
       d.bank = { s.dev.bank with
         timers := ⟨count (decide (v < c.thresholds.cutoff)) c.debounce.cutoff t.belowCutoff,
           count (decide (c.thresholds.cutoff + 200 ≤ v)) c.debounce.cutoff t.riseCutoff,
           count (decide (v < c.thresholds.low)) c.debounce.low t.belowLow,
           count (decide (c.thresholds.low + 200 ≤ v)) c.debounce.low t.riseLow,
           count (decide (c.thresholds.high < v)) c.debounce.high t.aboveHigh,
           count (decide (v + 200 ≤ c.thresholds.high)) c.debounce.high t.fallHigh⟩
         due := d.bank.due
         fullAnchor := if s.dev.vehicle.running = true ∧ c.fullVoltage ≤ v ∧ -200 ≤ i ∧ i ≤ 0 then
             min (s.dev.bank.fullAnchor + 1) 6000 else 0
         sum := s.dev.bank.sum + i } ∧
       d.vehicle = { s.dev.vehicle with
         engineAge := min (s.dev.vehicle.engineAge + 1) 10
         activityAge := min (s.dev.vehicle.activityAge + 1) 30 } ∧
       sameExcept [.bank, .vehicle, .leads] s.dev d) ∧
  (∀ s : State, s.dev.inReset = false →
     (6000 ≤ s.dev.bank.fullAnchor → Answers .fullAnchor s fun d =>
       d.bank = { s.dev.bank with q := s.dev.settings.capacity * 3600, r := 0, uncalibrated := false, fullAnchor := 0 } ∧
       sameExcept [.bank] s.dev d) ∧
     (s.dev.vehicle.running = true → 600 ≤ s.dev.bank.engineRun → s.dev.bank.runCleared = false →
       Answers .marksClear s fun d =>
         d.bank = { s.dev.bank with cabMark := false, fleetMark := false, runCleared := true } ∧
         sameExcept [.bank] s.dev d))

/-- At the end of a second the ten samples' sum, divided by 10 and truncated toward zero, goes to the remainder; its whole
ampere-seconds leave the charge, the rest stays from −99 to +99 with the sign it had, and the charge is clamped to 0 and
to full charge, where the remainder becomes 0. No other block is touched, and so no recomputation is made (R49). -/
def Obligations.SecondsIntegrateCharge : Prop :=
  ∀ s : State, s.dev.inReset = false → Answers .chargeIntegration s fun d =>
    let full : Int := ((s.dev.settings.capacity * 3600 : Nat) : Int)
    let q : Int := (s.dev.bank.q : Int)
    let r := s.dev.bank.r + Int.tdiv s.dev.bank.sum 10
    let q' : Int := (d.bank.q : Int)
    let r' := d.bank.r
    (∃ whole rest : Int, r = 100 * whole + rest ∧ -99 ≤ rest ∧ rest ≤ 99 ∧ (0 ≤ r → 0 ≤ whole ∧ 0 ≤ rest) ∧
      (r ≤ 0 → whole ≤ 0 ∧ rest ≤ 0) ∧
      (0 ≤ q - whole → q - whole ≤ full → q' = q - whole ∧ r' = rest) ∧
      (q - whole < 0 → q' = 0 ∧ r' = 0) ∧ (0 ≤ q - whole → full < q - whole → q' = full ∧ r' = 0)) ∧
    q' ≤ full ∧ -99 ≤ r' ∧ r' ≤ 99 ∧
    d.bank = { s.dev.bank with q := d.bank.q, r := d.bank.r, sum := 0 } ∧ sameExcept [.bank] s.dev d

/-- A sample, after its timers have been updated, finds the first matured condition among those that act in the present
state, in the order of R56, under the debounce codes then in force, and keeps the state; the voltage state then moves once,
to that condition's target, and where none had matured it stays, whatever codes change before the next sample (R55, R56).
The target found and held until the move is the model's own state (log entry 4). A move to HIGH or LOW takes a heater in
WAIT_GLOW back to PRECHECK, with no start temperature and a glow frame count of 0, unless the recomputation of the move has
stopped it; a move to HIGH drops a step above 1 to 1 at once and keeps the heater in RUN otherwise (R116, R121). -/
def Obligations.VoltageStateMoves : Prop :=
  (∀ (s : State) (rawV rawI : BitVec 12), s.dev.inReset = false → Answers (.batterySample rawV rawI) s fun d =>
    let t := d.bank.timers
    let time := fun code : Nat => 10 * 2 ^ code
    let k := s.dev.settings.debounce
    let belowCutoff := (decide (time k.cutoff ≤ t.belowCutoff), VState.cutoff)
    let riseFromCutoff := (decide (time k.cutoff ≤ t.riseCutoff), VState.low)
    let belowLow := (decide (time k.low ≤ t.belowLow), VState.low)
    let riseFromLow := (decide (time k.low ≤ t.riseLow), VState.normal)
    let aboveHigh := (decide (time k.high ≤ t.aboveHigh), VState.high)
    let fallFromHigh := (decide (time k.high ≤ t.fallHigh), VState.normal)
    let order := match s.dev.bank.vstate with
      | .normal => [belowCutoff, belowLow, aboveHigh]
      | .low => [belowCutoff, aboveHigh, riseFromLow]
      | .high => [belowCutoff, belowLow, fallFromHigh]
      | .cutoff => [riseFromCutoff]
    d.bank.vstate = s.dev.bank.vstate ∧ (order.find? Prod.fst = none → d.bank.due = none) ∧
    (∀ m v, order.find? Prod.fst = some (m, v) → d.bank.due = some v)) ∧
  (∀ s : State, s.dev.inReset = false →
    (s.dev.bank.due = none → exec .voltageStateChange s = .next s) ∧
    (∀ v, s.dev.bank.due = some v → Answers .voltageStateChange s fun d =>
      d.bank.vstate = v ∧ d.bank.timers = s.dev.bank.timers ∧ d.bank.due = none ∧
      exec .voltageStateChange ⟨d, s.pending⟩ = .next ⟨d, s.pending⟩)) ∧
  (∀ (s : State) (v : VState), s.dev.inReset = false → s.dev.heater.waiting = false → s.dev.bank.due = some v →
    s.dev.budget.mode ≠ .cutoff → Answers .voltageStateChange s fun d =>
      let h := s.dev.heater
      let stopped := d.heater.demand = none ∨ d.budget.modes.heat = .off
      (v = .high ∨ v = .low → h.state = .waitGlow →
        (d.heater.state = .precheck ∧ d.heater.startTemp = none ∧ d.heater.glowFrames = 0 ∧ d.heater.stage = 0) ∨
          (d.heater.state = .off ∧ stopped)) ∧
      (v = .high → h.state = .run →
        (d.heater.state = .run ∨ stopped) ∧
        (d.heater.state = .run → 1 < h.step → d.heater.step = 1 ∧ d.heater.hold = 0 ∧ d.heater.stepDue = false) ∧
        (d.heater.state = .run → h.step ≤ 1 → d.heater.step = h.step ∧ d.heater.hold = h.hold)) ∧
      (v = .high → s.dev.vehicle.running = true → s.dev.table.causes.heater.budget = false →
        d.heater.demand = h.demand ∧ d.budget.modes.heat = .full) ∧
      sameExcept (.bank :: budgetReach) s.dev d)

/-- Entry to CUTOFF makes the cutoff anchor before the state is handed on, keeps the ladder position, sets every lane OFF
and the lamp cap to 10, suspends every GRANTED or SUSPENDED lane record for CUTOFF, withdraws every permission, and stops
the heater: no heavy load draws and no fuel flows, while a swap's mark is being written too (R52, R57, R66, R103, R128; log
entry 15). -/
def Obligations.CutoffShedsEverything : Prop :=
  ∀ s : State, s.dev.inReset = false → s.dev.bank.due = some .cutoff → s.dev.bank.vstate ≠ .cutoff →
    s.dev.heater.waiting = false → s.dev.budget.mode ≠ .cutoff →
    (∀ l, (causesOf s.dev.table.causes (laneFn l)).cutoff = false) →
    HeaterOk s.dev → LanesOk s.dev → LampsOk s.dev →
    Answers .voltageStateChange s fun d =>
      d.bank = { s.dev.bank with
        vstate := .cutoff
        due := none
        q := min s.dev.bank.q (s.dev.settings.floor * 3600)
        r := if s.dev.settings.floor * 3600 < s.dev.bank.q then 0 else s.dev.bank.r } ∧
      d.budget.mode = .cutoff ∧ d.budget.position = s.dev.budget.position ∧
      d.budget.modes = ⟨.off, .off, .off⟩ ∧ d.budget.cap = 10 ∧ d.budget.proj.tmin = 0 ∧
      (∀ l, (causesOf d.table.causes (laneFn l)).cutoff = true ∧ (causesOf d.table.causes (laneFn l)).budget = false) ∧
      (∀ h r l, lookup s.dev h = some r → r.fn = laneFn l → (r.state = .granted ∨ r.state = .suspended) →
        ∃ r', lookup d h = some r' ∧ r'.state = .suspended ∧ r'.reason = .cutoff) ∧
      d.sched.perm = ⟨false, false, false⟩ ∧ drawn d = 0 ∧
      (d.heater.state = .off ∨ d.heater.state = .purge ∨ d.heater.state = .lockout) ∧ d.heater.fuel = false ∧
      (∀ c, (d.lamps.get c).target ≤ 10 ∧ (d.lamps.get c).out ≤ 100) ∧
      sameExcept (.bank :: budgetReach) s.dev d

/-! ## Slots and frames -/

/-- A slot boundary within a frame opens the next entry: each lane is permitted that the entry bears, that its mode lets draw
in this frame and that is not withheld, and a glow start is permitted where the entry bears GLOW, the bank is NORMAL and HEAT
is not OFF. The loads follow: a heater in RUN drops to step 1 at the loss of HEAT, the compressor stops into its guard at the
loss of COOL and one that waits starts at its grant (R106 to R108, R141, R143). After the last entry of the active table the
frame boundary brings the pending slot length into force, makes a pending swap, advances the frame counter and begins at slot
0, whose permissions are those of the entry, the frame and the modes that the budget unit then leaves (R99 to R103, R105). At
a swap the tables are exchanged at the boundary, the new active-table mark is written, and slot 0 opens when the write is
complete; the slot index stands until then (log entry 15), and a boundary that comes meanwhile is taken after it (log entry
65). A boundary is taken whatever the slot has run (log entry 46). The compressor's run timer outside RUNNING and its guard
timer outside GUARD keep their last value (log entry 60). -/
def Obligations.SlotsAndFramesAdvance : Prop :=
  (∀ (s : State) (w f : Bool), s.dev.inReset = false → s.dev.sched.waiting = false →
     s.dev.sched.slotIndex + 1 < (activeTable s.dev).length → s.dev.heater.state ≠ .waitGlow →
     Answers (.slotBoundary w f) s fun d =>
       let e := (activeTable s.dev).entries.getD (s.dev.sched.slotIndex + 1) ⟨false, false, false, false⟩
       let v := s.dev.bank.vstate
       let held := s.dev.sched.claim || decide (v = .high) || decide (v = .cutoff)
       let runs := fun m : LaneMode => decide (m = .full) || (decide (m = .alternate) && decide (s.dev.sched.frame % 2 = 1))
       let m := s.dev.budget.modes
       d.sched.slotIndex = s.dev.sched.slotIndex + 1 ∧ d.sched.slotTime = 0 ∧ d.sched.frame = s.dev.sched.frame ∧
       d.sched.slotLength = s.dev.sched.slotLength ∧
       d.sched.perm = ⟨e.heat && runs m.heat && !decide (v = .cutoff), e.cool && runs m.cool && !held,
         e.aux && runs m.aux && !held⟩ ∧
       d.sched.outletClosed = (d.sched.perm.aux && s.dev.sched.outletOn) ∧
       d.sched.glowStart = (e.glow && decide (v = .normal) && decide (m.heat ≠ .off)) ∧
       (s.dev.heater.waiting = false → LanesOk s.dev →
         let h := s.dev.heater
         let g := s.dev.fridge
         d.heater = (if h.state = .run ∧ 1 < h.step ∧ d.sched.perm.heat = false
           then { h with step := 1, hold := 0, stepDue := false } else h) ∧
         d.fridge = (if g.state = .running ∧ d.sched.perm.cool = false then { g with state := .guard, guard := 0 }
           else if g.state = .waiting ∧ s.dev.sched.perm.cool = false ∧ d.sched.perm.cool = true
             then { g with state := .running, run := 0 } else g)) ∧
       sameExcept [.sched, .heater, .fridge] s.dev d) ∧
  (∀ (s : State) (w f : Bool), s.dev.inReset = false → s.dev.sched.waiting = false →
     (activeTable s.dev).length ≤ s.dev.sched.slotIndex + 1 →
     let opened := fun d : Device =>
       d.sched.slotIndex = 0 ∧ d.sched.slotTime = 0 ∧ d.sched.slotLength = s.dev.settings.slotLength ∧
       d.sched.frame = (if s.dev.sched.frame ≥ 4294967295 then 0 else s.dev.sched.frame + 1) ∧
       d.sched.waiting = false ∧ d.sched.swapPending = false ∧
       (let e := (activeTable d).entries.getD 0 ⟨false, false, false, false⟩
        let v := s.dev.bank.vstate
        let held := d.sched.claim || decide (v = .high) || decide (v = .cutoff)
        let runs := fun m : LaneMode => decide (m = .full) || (decide (m = .alternate) && decide (d.sched.frame % 2 = 1))
        let m := d.budget.modes
        d.sched.perm = ⟨e.heat && runs m.heat && !decide (v = .cutoff), e.cool && runs m.cool && !held,
          e.aux && runs m.aux && !held⟩ ∧
        d.sched.outletClosed = (d.sched.perm.aux && d.sched.outletOn))
     let starts := fun d : Device => (((activeTable d).entries.getD 0 ⟨false, false, false, false⟩).glow &&
       decide (d.bank.vstate = .normal) && decide (d.budget.modes.heat ≠ .off))
     (s.dev.sched.swapPending = false → Answers (.slotBoundary w f) s fun d =>
       opened d ∧ d.sched.glowStart = starts s.dev ∧ d.settings = s.dev.settings ∧ d.store = s.dev.store) ∧
     (s.dev.sched.swapPending = true → StoreIdle s.dev → s.dev.sched.late = [] → ∃ t u : State,
       exec (.slotBoundary w f) s = .next t ∧ t.dev.sched.waiting = true ∧ t.dev.sched.swapPending = false ∧
       t.dev.settings = { s.dev.settings with active := otherTable s.dev.settings.active } ∧
       t.dev.sched.slotIndex = s.dev.sched.slotIndex ∧
       exec .storeWriteComplete t = .next u ∧ u.pending = s.pending ∧ opened u.dev ∧ u.dev.sched.late = [] ∧
       u.dev.sched.glowStart = starts t.dev ∧
       u.dev.settings = { s.dev.settings with active := otherTable s.dev.settings.active } ∧
       (1 < (activeTable t.dev).length → ∀ a b, ∃ t' u' : State, exec (.slotBoundary a b) t = .next t' ∧
         exec .storeWriteComplete t' = .next u' ∧ u'.dev.sched.slotIndex = 1 ∧ u'.dev.sched.late = [] ∧
         u'.dev.sched.frame = u.dev.sched.frame))) ∧
  (∀ (s : State) (w f : Bool), s.dev.inReset = false → s.dev.sched.waiting = true →
     Answers (.slotBoundary w f) s fun d =>
       d.sched = { s.dev.sched with late := s.dev.sched.late ++ [(w, f)] } ∧ sameExcept [.sched] s.dev d)

/-! ## Heater sequencer -/

/-- What each reading does, saturated, by the heater's state: the test of PRECHECK, the flame proof of IGNITE with plug off
and claim released, the timers, limit and target of RUN and whether the step moves at it, and the restart from PAUSE; in
every other state it is only kept (R113, R115, R120 to R124). That a timer which counts in IGNITE or RUN keeps its value at a
reading in another state is the model's choice (log entry 69), and that the pause timer counts with the step that stands
before a step change at the same reading (log entry 84). Heat demand that arrives as a record starts takes the heater
from OFF to PRECHECK and does nothing in PURGE and LOCKOUT (R114). Demand that is lost as the last record ends stops it: from
PRECHECK, WAIT_GLOW, PREGLOW and PAUSE it goes to OFF, from IGNITE and RUN to PURGE with cause STOP, plug and fuel off and
the claim released (R128). -/
def Obligations.ReadingsDriveTheBurner : Prop :=
  (∀ (s : State) (cab hx : Int), s.dev.inReset = false → s.dev.heater.waiting = false →
    Answers (.heaterReading cab hx) s fun d =>
      let c := max (-80) (min cab 250)
      let x := max (-80) (min hx 500)
      let h := s.dev.heater
      let hotCount := if 300 ≤ x then h.overTimer + 1 else 0
      d.heater.cab = some c ∧ d.heater.hx = some x ∧ d.heater.attempts = h.attempts ∧
      (h.state = .precheck →
        (s.dev.bank.vstate = .normal ∧ x ≤ 120 →
          d.heater.state = .waitGlow ∧ d.heater.startTemp = some x ∧ d.heater.stage = 0) ∧
        (¬ (s.dev.bank.vstate = .normal ∧ x ≤ 120) → d.heater = { h with cab := some c, hx := some x })) ∧
      (h.state = .ignite → ∀ start, h.startTemp = some start →
        (start + 80 ≤ x → d.heater.state = .run ∧ d.heater.step = 1 ∧ d.heater.stage = 0 ∧ d.heater.hold = 0 ∧
          d.heater.runTimer = 0 ∧ d.heater.pauseTimer = 0 ∧ d.heater.lossTimer = 0 ∧ d.heater.overTimer = hotCount ∧
          d.heater.lossLimit = (if 120 ≤ x then 120 else start + 80) ∧ d.heater.plug = false ∧
          d.heater.claim = false ∧ d.sched.claim = false ∧ d.heater.fuel = true) ∧
        (x < start + 80 → d.heater = { h with cab := some c, hx := some x, overTimer := hotCount })) ∧
      (h.state = .run → ∀ set, h.demand = some set →
        let limit := if 120 ≤ x then 120 else h.lossLimit
        d.heater = { h with
          cab := some c
          hx := some x
          overTimer := hotCount
          lossLimit := limit
          lossTimer := if x < limit then h.lossTimer + 1 else 0
          stepDue := decide (30 ≤ h.hold ∧ h.step ≠ min
            (if 4 ≤ set - c then 4 else if 2 ≤ set - c then 3 else if set - c = 1 then 2 else 1)
            (if s.dev.sched.perm.heat = false ∨ s.dev.bank.vstate = .high then 1 else 4))
          pauseTimer := if h.step = 1 ∧ set + 4 ≤ c then h.pauseTimer + 1 else 0
          target := if 4 ≤ set - c then 4 else if 2 ≤ set - c then 3 else if set - c = 1 then 2 else 1 }) ∧
      (h.state = .pause → ∀ set, h.demand = some set →
        (c ≤ set - 2 → d.heater.state = .precheck ∧ d.heater.glowFrames = 0 ∧ d.heater.stage = 0) ∧
        (set - 2 < c → d.heater = { h with cab := some c, hx := some x })) ∧
      (h.state = .off ∨ h.state = .waitGlow ∨ h.state = .preglow ∨ h.state = .purge ∨ h.state = .lockout →
        d.heater = { h with cab := some c, hx := some x }) ∧
      sameExcept [.heater, .link, .sched, .fridge, .leads] s.dev d) ∧
  (∀ (s : State) (h : Handle) (r : Record) (t : Nat), s.dev.inReset = false → s.dev.heater.waiting = false →
    lookup s.dev h = some r → r.fn = .heater → t ≤ s.dev.clock.sec →
    let g := s.dev.heater
    (∀ set plan, r.params = .heat set plan → r.state = .scheduled → r.start = some t → g.demand = none →
      Answers (.recordStart h) s fun d =>
        (g.state = .off →
          (d.heater.demand.isSome = true → d.budget.modes.heat ≠ .off →
            d.heater.state = .precheck ∧ d.heater.glowFrames = 0 ∧ d.heater.stage = 0) ∧
          (d.heater.demand = none → d.heater.state = .off)) ∧
        (g.state = .purge ∨ g.state = .lockout → d.heater.state = g.state) ∧
        (ChargingFor .heater s.dev → d.heater.demand.isSome = true ∧ d.budget.modes.heat = .full) ∧
        sameExcept budgetReach s.dev d) ∧
    (r.state ≠ .scheduled → r.endAt = some t → OnlyOn .heater h s.dev → g.demand.isSome = true → HeaterOk s.dev →
      Answers (.recordEnd h) s fun d =>
        d.heater.demand = none ∧ d.heater.fuel = false ∧ d.heater.plug = false ∧ d.heater.step = 0 ∧
        d.heater.attempts = g.attempts ∧ (outputs d).htPump = 0 ∧
        (g.state = .precheck ∨ g.state = .waitGlow →
          d.heater.state = .off ∧ d.heater.startTemp = none ∧ d.heater.glowFrames = 0) ∧
        (g.state = .preglow ∨ g.state = .pause → d.heater.state = .off) ∧
        (g.state = .ignite ∨ g.state = .run →
          d.heater.state = .purge ∧ d.heater.cause = .stop ∧ d.heater.stage = 0 ∧ (outputs d).htFan = 100) ∧
        (g.state = .preglow ∨ g.state = .ignite → d.heater.claim = false ∧ d.sched.claim = false) ∧
        (g.state = .off ∨ g.state = .purge ∨ g.state = .lockout →
          d.heater.state = g.state ∧ d.heater.cause = g.cause ∧ d.heater.stage = g.stage) ∧
        sameExcept budgetReach s.dev d))

/-- In WAIT_GLOW a slot boundary that permits a glow start takes the heater to PREGLOW: the claim is held, COOL and AUX lose
their permissions, the compressor and the outlet are off, and then the plug is on. So does a frame boundary whose slot 0
permits one, and a frame boundary whose slot 0 does not adds 1 to the glow frame count, where the budget unit's work of the
same boundary does not stop the heater (`unstopped`, R128); a swap changes neither. Two counted frame boundaries without a
start end in OFF with NO_GLOW_SLOT raised and reported. After 40 s of PREGLOW the heater is in IGNITE with the plug on and
the overheat timer at 0 (log entry 69), and the first fuel flows only when the combustion mark is written (R104, R105, R116
to R119). What reaches the sequencer while it waits for that write, or for another of its own, is held in the order of
arrival: a reading, a timer, a slot report, a stop, a voltage state; but an entry to HIGH drops a step above 1 in RUN at once
(R112, R121; log entry 85). When the write is complete the rest of the sequence
comes first, and then each held message in turn: a stop held in IGNITE finds the fuel flowing and leads to PURGE with cause
STOP (R119, R128, R191). -/
def Obligations.StartsNeedAGlowSlot : Prop :=
  (∀ (s : State) (w f : Bool), s.dev.inReset = false → s.dev.sched.waiting = false → s.dev.heater.waiting = false →
     s.dev.heater.state = .waitGlow → s.dev.heater.glowFrames < 2 → LanesOk s.dev → HeaterOk s.dev →
     s.dev.sched.slotIndex + 1 < (activeTable s.dev).length →
     let e := (activeTable s.dev).entries.getD (s.dev.sched.slotIndex + 1) ⟨false, false, false, false⟩
     let starts := e.glow = true ∧ s.dev.bank.vstate = .normal ∧ s.dev.budget.modes.heat ≠ .off
     (starts → Answers (.slotBoundary w f) s fun d =>
       d.heater.state = .preglow ∧ d.heater.stage = 0 ∧ d.heater.claim = true ∧ d.sched.claim = true ∧
       d.heater.plug = true ∧ d.heater.fuel = false ∧ d.sched.perm.cool = false ∧ d.sched.perm.aux = false ∧
       d.fridge.state ≠ .running ∧ d.sched.outletClosed = false ∧ d.heater.startTemp = s.dev.heater.startTemp) ∧
     (¬ starts → Answers (.slotBoundary w f) s fun d =>
       d.heater.state = .waitGlow ∧ d.heater.glowFrames = s.dev.heater.glowFrames ∧ d.heater.plug = false)) ∧
  (∀ (s : State) (w f : Bool), s.dev.inReset = false → s.dev.sched.waiting = false → s.dev.heater.waiting = false →
     s.dev.heater.state = .waitGlow → s.dev.heater.glowFrames < 2 → LanesOk s.dev → HeaterOk s.dev →
     (activeTable s.dev).length ≤ s.dev.sched.slotIndex + 1 →
     let starts := fun d : Device => ((activeTable d).entries.getD 0 ⟨false, false, false, false⟩).glow = true ∧
       d.bank.vstate = .normal ∧ d.budget.modes.heat ≠ .off
     let unstopped := fun (swap : Bool) (d : Device) =>
       let d := openFirst d
       let d := if f then reportSlot true swap d else d
       (reportBudget swap w d).heater.state = d.heater.state
     let after := fun (t d : Device) =>
       (starts t → d.heater.state = .preglow ∧ d.heater.stage = 0 ∧ d.heater.claim = true ∧ d.sched.claim = true ∧
         d.heater.plug = true ∧ d.heater.fuel = false ∧ d.sched.perm.cool = false ∧ d.sched.perm.aux = false ∧
         d.fridge.state ≠ .running ∧ d.sched.outletClosed = false) ∧
       (¬ starts t → d.heater.state = .waitGlow ∧ d.heater.glowFrames = s.dev.heater.glowFrames + 1 ∧
         d.heater.plug = false)
     (s.dev.sched.swapPending = false → unstopped false (takeLength s.dev) →
       Answers (.slotBoundary w f) s (after s.dev)) ∧
     (s.dev.sched.swapPending = true → StoreIdle s.dev → s.dev.sched.late = [] →
       s.dev.table.causes.heater.noGlowSlot = false → ∃ t u : State,
         exec (.slotBoundary w f) s = .next t ∧ exec .storeWriteComplete t = .next u ∧ u.pending = s.pending ∧
         (t.dev.heater.state = .waitGlow → unstopped true { t.dev with store := u.dev.store } → after t.dev u.dev))) ∧
  (∀ s : State, s.dev.inReset = false → s.dev.heater.waiting = false → s.dev.heater.state = .waitGlow →
     2 ≤ s.dev.heater.glowFrames → s.dev.heater.swapHeld = false → s.dev.table.causes.heater.noGlowSlot = false →
     TableOk s.dev →
     Answers .glowWaitFailed s fun d =>
       d.heater.state = .off ∧ d.heater.attempts = s.dev.heater.attempts ∧ d.heater.demand = none ∧
       d.table.causes.heater.noGlowSlot = true ∧
       (∀ hr ∈ records d, hr.2.fn = .heater → hr.2.state ≠ .granted) ∧
       (∀ st, (s.dev.link.stations.get st).link = .online →
         (d.link.stations.get st).flags.heater = true ∧ (d.link.stations.get st).failure = .noGlowSlot) ∧
       sameExcept budgetReach s.dev d) ∧
  (∀ s : State, s.dev.inReset = false → s.dev.heater.waiting = false → s.dev.heater.state = .preglow →
     40 ≤ s.dev.heater.stage → s.dev.heater.held = [] → StoreIdle s.dev → ∃ t u : State,
       exec .preglowEnd s = .next t ∧ t.dev.heater.state = .ignite ∧ t.dev.heater.step = 1 ∧ t.dev.heater.stage = 0 ∧
       t.dev.heater.overTimer = 0 ∧ t.dev.heater.plug = s.dev.heater.plug ∧
       t.dev.heater.claim = s.dev.heater.claim ∧ t.dev.heater.fuel = false ∧ (outputs t.dev).htPump = 0 ∧
       t.dev.settings = s.dev.settings ∧ sameExcept [.heater, .store, .link] s.dev t.dev ∧
       exec .storeWriteComplete t = .next u ∧ u.pending = s.pending ∧ u.dev.heater.state = .ignite ∧
       u.dev.settings = { s.dev.settings with combustionMark := true } ∧ u.dev.heater.fuel = true ∧
       (outputs u.dev).htPump = 10 ∧ (outputs u.dev).htFan = 30 ∧ (outputs u.dev).htGlow = s.dev.heater.plug ∧
       sameExcept [.heater, .store, .link, .settings] s.dev u.dev) ∧
  (∀ s : State, s.dev.inReset = false → s.dev.heater.waiting = true →
     let h := s.dev.heater
     let holds := fun (m : HeaterMsg) (d : Device) => d.heater = { h with held := h.held ++ [m] }
     (∀ cab hx, Answers (.heaterReading cab hx) s fun d =>
       holds (.reading cab hx) d ∧ sameExcept [.heater, .leads] s.dev d) ∧
     (∀ p ∈ [(Instr.glowWaitFailed, HeaterTimer.glowWaitFailed), (.preglowEnd, .preglowEnd), (.noFlame, .noFlame),
         (.stepChange, .stepChange), (.pauseEntry, .pauseEntry), (.flameLoss, .flameLoss), (.overheat, .overheat),
         (.runProved, .runProved), (.purgeEnd, .purgeEnd), (.purgeHot, .purgeHot)],
       Answers p.1 s fun d => holds (.timer p.2) d ∧ sameExcept [.heater] s.dev d) ∧
     (∀ w f, s.dev.sched.waiting = false → s.dev.sched.slotIndex + 1 < (activeTable s.dev).length →
       Answers (.slotBoundary w f) s fun d => d.heater.state = h.state ∧ d.heater.waiting = true ∧
         d.heater.held = h.held ++ [.slot d.sched.glowStart false false]) ∧
     (∀ st, Polled st s.dev → (s.dev.settings.stations.get st).control = true → h.demand.isSome = true →
       Answers (.restart true) s fun d => d.heater.state = h.state ∧ d.heater.waiting = true ∧
         ∃ more, d.heater.held = h.held ++ .stop :: more) ∧
     (∀ v, s.dev.bank.due = some v → Answers .voltageStateChange s fun d =>
       d.heater.state = h.state ∧ d.heater.waiting = true ∧
       (∃ first, d.heater.held = h.held ++ first ++ [.voltage v]) ∧
       (v = .high → h.state = .run → d.heater.step = min h.step 1))) ∧
  (∀ (s : State) (i : ImageId) (j : Job), s.dev.inReset = false → s.dev.store.writing = some i →
     s.dev.store.jobs = [j] → j.ofHeater = true → j.change.isOwn = true → s.dev.sched.waiting = false →
     s.dev.link.heldAnswer = none →
     (∃ t u : State,
       exec .storeWriteComplete ⟨{ s.dev with heater := { s.dev.heater with held := [] } }, s.pending⟩ = .next t ∧
       exec .storeWriteComplete s = .next u ∧ u.pending = s.pending ∧
       u.dev = s.dev.heater.held.foldl heaterTake t.dev) ∧
     (j = ⟨.mark true, .ignite⟩ → s.dev.heater.state = .ignite → s.dev.heater.held = [.stop] →
       Answers .storeWriteComplete s fun d =>
         d.settings = { s.dev.settings with combustionMark := true } ∧ d.heater.state = .purge ∧
         d.heater.cause = .stop ∧ d.heater.waiting = false ∧ d.heater.held = [] ∧ d.heater.plug = false ∧
         d.heater.claim = false ∧ d.heater.fuel = false ∧ (outputs d).htPump = 0 ∧ (outputs d).htFan = 100))

/-- 90 s of IGNITE without flame proof, and 10 readings of RUN below the flame-loss limit, are failed attempts: the count
rises before the purge begins, plug and fuel are off and the claim is released, and the failure is reported to every ONLINE
station. The third writes the lockout as PENDING FLAME_FAIL first. An overheat writes PENDING OVERHEAT, counts no attempt
and purges (R120, R123 to R125, R133). -/
def Obligations.FailuresPurgeTheBurner : Prop :=
  ∀ (s : State) (i : Instr) (kind : FailureKind), s.dev.inReset = false → s.dev.heater.waiting = false →
    HeaterOk s.dev →
    let h := s.dev.heater
    let purging := fun (k : FailureKind) (n : Nat) (d : Device) =>
      d.heater.state = .purge ∧ d.heater.cause = .failure ∧ d.heater.attempts = n ∧ d.heater.stage = 0 ∧
      d.heater.step = 0 ∧ d.heater.fuel = false ∧ d.heater.plug = false ∧ d.heater.waiting = false ∧
      (h.state = .ignite → d.heater.claim = false ∧ d.sched.claim = false) ∧
      (outputs d).htPump = 0 ∧ (outputs d).htFan = 100 ∧
      ∀ st, (s.dev.link.stations.get st).link = .online →
        (d.link.stations.get st).flags.heater = true ∧ (d.link.stations.get st).failure = k
    let fails := (i = .noFlame ∧ kind = .noFlame ∧ h.state = .ignite ∧ 90 ≤ h.stage) ∨
      (i = .flameLoss ∧ kind = .flameLoss ∧ h.state = .run ∧ 10 ≤ h.lossTimer)
    (fails → h.attempts + 1 < 3 → Answers i s fun d =>
      purging kind (h.attempts + 1) d ∧ sameExcept [.heater, .link, .sched, .fridge] s.dev d) ∧
    (fails → 3 ≤ h.attempts + 1 → s.dev.settings.lockout = .none → StoreIdle s.dev → h.held = [] →
      EventWrites i s fun d =>
        purging kind 3 d ∧ d.settings = { s.dev.settings with lockout := .pending .flameFail } ∧
        sameExcept [.heater, .link, .sched, .fridge, .store, .settings] s.dev d) ∧
    ((h.state = .ignite ∨ h.state = .run) → 2 ≤ h.overTimer → StoreIdle s.dev → h.held = [] →
      EventWrites .overheat s fun d =>
        purging .overheat h.attempts d ∧ d.settings = { s.dev.settings with lockout := .pending .overheat } ∧
        sameExcept [.heater, .link, .sched, .fridge, .store, .settings] s.dev d)

/-- In RUN the step moves by one toward its target within the cap, at the reading that finds 30 s run since the last change;
300 readings of the pause condition end the burn; 600 s of RUN clear the attempt count. A purge of 120 s with the exchanger
at or below 60.0 °C resolves the next state in the order of R127, in one write with the mark, and one of 300 s with the
exchanger hot leaves PURGE_HOT in force (R121, R122, R125 to R127, R129). A stored lockout that is IN_FORCE, as after a
power-on with the mark set, is pending at the purge's end too, and PURGE_HOT is written anew over a stored PURGE_HOT (R131;
log entry 16). The failure sets every ONLINE station's failure kind at once, and the failure and the entry to LOCKOUT set the
HEATER flag once, at the entry (R133; log entry 47). -/
def Obligations.RunsAndPurgesEnd : Prop :=
  ∀ s : State, s.dev.inReset = false → s.dev.heater.waiting = false →
    let h := s.dev.heater
    let cap := if s.dev.sched.perm.heat = false ∨ s.dev.bank.vstate = .high then 1 else 4
    let wanted := h.demand.isSome = true ∧ s.dev.budget.modes.heat ≠ .off
    let stored := s.dev.settings.lockout
    (h.state = .run → h.stepDue = true → h.step ≠ min h.target cap → Answers .stepChange s fun d =>
      d.heater = { h with
        step := if h.step < min h.target cap then h.step + 1 else h.step - 1
        hold := 0
        stepDue := false } ∧
      sameExcept [.heater] s.dev d) ∧
    (h.stepDue = false → exec .stepChange s = .next s) ∧
    (h.state = .run → 300 ≤ h.pauseTimer → Answers .pauseEntry s fun d =>
      d.heater.state = .purge ∧ d.heater.cause = .pause ∧ d.heater.stage = 0 ∧ d.heater.fuel = false ∧
      d.heater.step = 0 ∧ d.heater.attempts = h.attempts ∧ (outputs d).htPump = 0 ∧ (outputs d).htFan = 100 ∧
      sameExcept [.heater, .link] s.dev d) ∧
    (h.state = .run → 600 ≤ h.runTimer → Answers .runProved s fun d =>
      d.heater = { h with attempts := 0 } ∧ sameExcept [.heater] s.dev d) ∧
    (h.state = .purge → 120 ≤ h.stage → (∃ x, h.hx = some x ∧ x ≤ 120) → StoreIdle s.dev → h.held = [] →
      EventWrites .purgeEnd s fun d =>
        d.heater.cause = .none ∧ d.heater.stage = 0 ∧ d.heater.attempts = h.attempts ∧
        d.settings.combustionMark = false ∧
        (∀ r, stored = .pending r ∨ stored = .inForce r →
          d.heater.state = .lockout ∧ d.settings.lockout = .inForce r ∧ d.table.causes.heater.lockout = true) ∧
        (stored = .none → wanted → h.cause = .pause → d.heater.state = .pause ∧ d.settings.lockout = .none) ∧
        (stored = .none → wanted → h.cause ≠ .pause →
          d.heater.state = .precheck ∧ d.heater.glowFrames = 0 ∧ d.settings.lockout = .none) ∧
        (stored = .none → ¬ wanted → d.heater.state = .off ∧ d.settings.lockout = .none)) ∧
    (h.state = .purge → 300 ≤ h.stage → (∃ x, h.hx = some x ∧ 120 < x) → StoreIdle s.dev → h.held = [] →
      (∀ r, r ≠ .purgeHot → stored = .pending r ∨ stored = .inForce r → EventWrites .purgeHot s fun d =>
        d.heater.state = .lockout ∧ d.settings.combustionMark = false ∧
        d.settings.lockout = .inForce r ∧ d.table.causes.heater.lockout = true ∧
        ∀ st, (s.dev.link.stations.get st).link = .online →
          (d.link.stations.get st).failure = .purgeHot ∧ (d.link.stations.get st).flags.heater = true) ∧
      (stored = .none ∨ stored = .pending .purgeHot ∨ stored = .inForce .purgeHot → ∃ t u v : State,
        exec .purgeHot s = .next t ∧ t.dev.heater.state = .purge ∧
        exec .storeWriteComplete t = .next u ∧ u.dev.settings = { s.dev.settings with lockout := .pending .purgeHot } ∧
        u.dev.heater.state = .purge ∧
        (∀ st, (u.dev.link.stations.get st).flags = (s.dev.link.stations.get st).flags) ∧
        (∀ st, (s.dev.link.stations.get st).link = .online → (u.dev.link.stations.get st).failure = .purgeHot ∧
          (v.dev.link.stations.get st).failure = .purgeHot ∧ (v.dev.link.stations.get st).flags.heater = true) ∧
        exec .storeWriteComplete u = .next v ∧ v.pending = s.pending ∧ v.dev.heater.state = .lockout ∧
        v.dev.settings = { s.dev.settings with lockout := .inForce .purgeHot, combustionMark := false } ∧
        v.dev.table.causes.heater.lockout = true))

/-! ## Fridge controller -/

/-- A sample gives the cabinet reading and its validity. With the flag clear the thermostat forms the call with its
hysteresis, and the compressor follows the call through IDLE, WAITING and RUNNING, with a minimum run of 60 s. A faulty
sample sets the flag; under it the counters move, the blind cycle forms the call, and 60 consecutive valid samples clear it.
The guard ends by the demand and the call (R136 to R142, R145). Cooling demand that arrives as a record starts takes the
controller from OFF to IDLE and does not end a guard; demand that is lost as the last record ends takes it to OFF, a running
compressor into its guard (R140, R144, R145). Where the flag clears, the call is formed with the target held then (log entry
61); that the blind cycle has turned is the model's mark `turn` from the sample to the call (log entry 4), and the guard
timer outside GUARD and the run timer outside RUNNING keep their last value (log entry 60). -/
def Obligations.FridgeFollowsItsCall : Prop :=
  ∀ s : State, s.dev.inReset = false →
    let f := s.dev.fridge
    let cool := s.dev.sched.perm.cool
    let thermostat := fun (x : Int) => match f.target with
      | none => false
      | some t => if t + 2 ≤ x then true else if x ≤ t - 2 then false else f.call
    let blind := fun n : Nat => f.target.isSome && decide (n % 1800 < 600)
    let follow := fun (call : Bool) (g : Fridge) => match f.state, call with
      | .idle, true => if cool then { g with call := true, state := .running, run := 0 }
          else { g with call := true, state := .waiting }
      | .waiting, false => { g with call := false, state := .idle }
      | .running, false => if 60 ≤ f.run then { g with call := false, state := .guard, guard := 0 }
          else { g with call := false }
      | _, c => { g with call := c }
    (∀ raw : Int, Answers (.fridgeSample raw) s fun d =>
      let x := max (-80) (min raw 250)
      let valid := -100 ≤ raw ∧ raw ≤ 180
      d.fridge.reading = some x ∧ sameExcept [.fridge, .leads] s.dev d ∧
      (f.fault = false → valid → d.fridge = follow (thermostat x) { f with reading := some x, turn := false }) ∧
      (f.fault = false → ¬ valid →
        d.fridge = follow (f.target.isSome)
          { f with reading := some x, fault := true, blind := 0, valid := 0, turn := false }) ∧
      (f.fault = true → d.fridge.fault = true ∧ d.fridge.blind = f.blind + 1 ∧
        (valid → d.fridge.valid = min (f.valid + 1) 60) ∧ (¬ valid → d.fridge.valid = 0) ∧
        (d.fridge.valid < 60 → (f.blind + 1) % 1800 ≠ 0 → (f.blind + 1) % 1800 ≠ 600 →
          d.fridge.turn = false ∧ d.fridge.call = blind (f.blind + 1)) ∧
        (d.fridge.valid < 60 → ((f.blind + 1) % 1800 = 0 ∨ (f.blind + 1) % 1800 = 600) →
          f.call ≠ blind (f.blind + 1) → d.fridge.turn = true ∧ d.fridge.call = f.call))) ∧
    (f.fault = true → 60 ≤ f.valid → ∀ x, f.reading = some x → Answers .sensorFaultClear s fun d =>
      d.fridge = follow (thermostat x) { f with fault := false, blind := 0, valid := 0 } ∧
      sameExcept [.fridge] s.dev d) ∧
    (f.fault = true → f.turn = true → Answers .blindWindowChange s fun d =>
      d.fridge = follow (blind f.blind) { f with turn := false } ∧ sameExcept [.fridge] s.dev d) ∧
    (f.turn = false → exec .blindWindowChange s = .next s) ∧
    (∀ (h : Handle) (r : Record) (t : Nat), lookup s.dev h = some r → r.fn = .fridge → t ≤ s.dev.clock.sec →
      (∀ x, r.params = .cool x → r.state = .scheduled → r.start = some t → f.target = none →
        Answers (.recordStart h) s fun d =>
          (f.state = .off → d.fridge.state = (if d.fridge.target.isSome then .idle else .off)) ∧
          (f.state = .guard → d.fridge.state = .guard ∧ d.fridge.guard = f.guard) ∧
          (ChargingFor .fridge s.dev → d.fridge.target.isSome = true) ∧ sameExcept budgetReach s.dev d) ∧
      (r.state ≠ .scheduled → r.endAt = some t → OnlyOn .fridge h s.dev → f.target.isSome = true →
        Answers (.recordEnd h) s fun d =>
          d.fridge = (match f.state with
            | .off => { f with target := none, call := false, turn := false }
            | .guard => { f with target := none, call := false, turn := false }
            | .idle => { f with target := none, call := false, turn := false, state := .off }
            | .waiting => { f with target := none, call := false, turn := false, state := .off }
            | .running => { f with target := none, call := false, turn := false, state := .guard, guard := 0 }) ∧
          sameExcept budgetReach s.dev d)) ∧
    (f.state = .guard → 180 ≤ f.guard → Answers .guardEnd s fun d =>
      (f.target = none → d.fridge = { f with state := .off }) ∧
      (f.target ≠ none → f.call = false → d.fridge = { f with state := .idle }) ∧
      (f.target ≠ none → f.call = true → cool = true → d.fridge = { f with state := .running, run := 0 }) ∧
      (f.target ≠ none → f.call = true → cool = false → d.fridge = { f with state := .waiting }) ∧
      sameExcept [.fridge] s.dev d)

/-! ## Lamp controller -/

/-- At a fade step every channel moves by the fade rate toward its target and stops at it. A sense sample counts consecutive
trips of a lit channel without a fault; at 2 the output is 0 at once, the fault flag and CHANNEL_FAULT are set, and every
GRANTED record of the channel is suspended (R149, R154, R155). -/
def Obligations.LampsFadeAndTrip : Prop :=
  ∀ s : State, s.dev.inReset = false →
    (Answers .lampFadeStep s fun d =>
      let rate := s.dev.settings.fadeRate
      (∀ c, let l := s.dev.lamps.get c
        let l' := d.lamps.get c
        (l.out < l.target * 10 → l'.out = min (l.out + rate) (l.target * 10)) ∧
        (l.target * 10 < l.out → l'.out = max (l.out - rate) (l.target * 10)) ∧
        (l.out = l.target * 10 → l'.out = l.out) ∧
        l' = { l with out := l'.out, trip := if l'.out = 0 then 0 else l.trip }) ∧
      sameExcept [.lamps] s.dev d) ∧
    (∀ trips : PerChannel Bool, Answers (.lampSenseSample trips) s fun d =>
      (∀ c, let l := s.dev.lamps.get c
        d.lamps.get c = { l with trip := if 0 < l.out ∧ l.fault = false ∧ trips.get c = true then min (l.trip + 1) 2 else 0 }) ∧
      sameExcept [.lamps, .leads] s.dev d) ∧
    (∀ c : Channel, 2 ≤ (s.dev.lamps.get c).trip → causesOf s.dev.table.causes (.lamp c) = CauseSet.none →
      TableOk s.dev → Answers (.overCurrent c) s fun d =>
        let l' := d.lamps.get c
        l'.out = 0 ∧ l'.fault = true ∧ l'.trip = 0 ∧ l'.target = 0 ∧ l'.effective = 0 ∧
        (causesOf d.table.causes (.lamp c)).channelFault = true ∧
        (∀ h r, lookup s.dev h = some r → r.fn = .lamp c → r.state = .granted →
          ∃ r', lookup d h = some r' ∧ r'.state = .suspended ∧ r'.reason = .channelFault) ∧
        (∀ c', c' ≠ c → (d.lamps.get c').fault = (s.dev.lamps.get c').fault ∧
          (d.lamps.get c').effective = (s.dev.lamps.get c').effective) ∧
        sameExcept budgetReach s.dev d)

/-! ## Vehicle port -/

/-- An ENGINE_STATE frame at its identifier resets the engine's frame age; a change of the engine state, by a frame or by
1 s without one, restarts the engine run, has a stop start the full-anchor timer again, and reaches the budget unit, which
a running engine with the bank NORMAL or HIGH takes to CHARGING. Other frames are ignored. At each end of a second a
CAB_STATUS frame waits at the base plus 2 (the base of that moment, log entry 54); its sending, its failure and bus-off
follow the transmit error count, and one second of bus-off is followed by the rejoining (R65, R69, R188 to R190, R199). -/
def Obligations.VehicleFramesComeAndGo : Prop :=
  (∀ (s : State) (id : CanId) (data : List Byte), s.dev.inReset = false →
     let hit := s.dev.vehicle.busOff = false ∧ id = BitVec.ofNat 11 s.dev.settings.idBase ∧ 1 ≤ data.length
     let run := (data.getD 0 0#8).getLsbD 0
     let becomes := fun (v : Bool) (age : Nat) (d : Device) =>
       d.vehicle = { s.dev.vehicle with running := v, engineAge := age } ∧
       d.bank = { s.dev.bank with
         engineRun := 0
         runCleared := false
         fullAnchor := if v then 0 else s.dev.bank.fullAnchor } ∧
       (v = true → (s.dev.bank.vstate = .normal ∨ s.dev.bank.vstate = .high) →
         d.budget.mode = .charging ∧ d.budget.position = 0 ∧ d.budget.modes = ⟨.full, .full, .full⟩ ∧
         d.budget.cap = 100) ∧
       (v = false → d.budget.mode ≠ .charging) ∧ sameExcept (.vehicle :: .bank :: budgetReach) s.dev d
     (hit → run = s.dev.vehicle.running → Answers (.engineState id data) s fun d =>
       d.vehicle = { s.dev.vehicle with engineAge := 0 } ∧ sameExcept [.vehicle] s.dev d) ∧
     (hit → run ≠ s.dev.vehicle.running → Answers (.engineState id data) s (becomes run 0)) ∧
     (¬ hit → exec (.engineState id data) s = .next s) ∧
     (s.dev.vehicle.running = true → 10 ≤ s.dev.vehicle.engineAge →
       Answers .engineFrameLost s (becomes false s.dev.vehicle.engineAge)) ∧
     exec (.canFrameIgnored id data) s = .next s) ∧
  (∀ s : State, s.dev.inReset = false →
     let v := s.dev.vehicle
     (Answers .cabStatus s fun d =>
       (v.busOff = false → d.vehicle = { v with waiting := some ⟨BitVec.ofNat 11 (s.dev.settings.idBase + 2),
         [byte (modeCode s.dev.budget.mode), byte (s.dev.budget.proj.tmin / 256), byte s.dev.budget.proj.tmin,
         byte (levelRank s.dev.accounts.one.warnings), byte (levelRank s.dev.accounts.two.warnings),
         byte (heaterCode s.dev.heater.state)]⟩ }) ∧
       (v.busOff = true → d.vehicle = v) ∧ sameExcept [.vehicle] s.dev d) ∧
     (v.waiting ≠ none → v.busOff = false →
       (Answers .canTxSuccess s fun d =>
         d.vehicle = { v with waiting := none, txErrors := v.txErrors - 1 } ∧ sameExcept [.vehicle] s.dev d) ∧
       (Answers .canTxError s fun d =>
         (v.txErrors + 8 < 256 → d.vehicle = { v with txErrors := v.txErrors + 8 }) ∧
         (256 ≤ v.txErrors + 8 → d.vehicle.busOff = true ∧ d.vehicle.waiting = none) ∧
         sameExcept [.vehicle] s.dev d)) ∧
     (v.busOff = true → 100 ≤ v.busOffTicks → Answers .busOffRejoin s fun d =>
       d.vehicle = { v with busOff := false, txErrors := 0, busOffTicks := 0 } ∧ sameExcept [.vehicle] s.dev d) ∧
     (v.busOff = true → v.busOffTicks < 100 → exec .busOffRejoin s = .next s))

/-! ## Rest accounts -/

/-- A DRIVER_ACTIVITY frame hands each driver's activity at once; 3 s without one hand UNKNOWN. UNKNOWN freezes the account;
the effective or the last known activity is effective at once and discards the candidate; another activity becomes the
candidate with the settle timer at 0, and a repeated candidate runs on. No counter moves. With a settle time of 0 another
activity is effective at its arrival without a candidate, and R166's change is made then (R161 to R163, R166, R188, R199). A
return from UNKNOWN to REST binds a WAITING plan to the rest start kept, or to the present second (R179). Warnings that a
change at once raises or ends act on acknowledgement, flags and dash alarm (R170 to R172; one evaluation is one change: log
entry 48). The settle timer is 0 wherever the candidate becomes none (log entry 76). -/
def Obligations.ReportsSettle : Prop :=
  ∀ s : State, s.dev.inReset = false →
    let p := s.dev.settings.rest
    let taken := fun (act : Activity) (a a' : Account) =>
      let before := if a.effective = .unknown then a.lastKnown else some a.effective
      let atOnce := p.settle = 0 ∧ act ≠ .unknown ∧ ∃ k, before = some k ∧ k ≠ act
      a'.reported = act ∧ a'.cd = a.cd ∧ a'.dd = a.dd ∧
      (¬ atOnce → a'.bl = a.bl ∧ a'.rl = a.rl ∧ a'.warnings = a.warnings) ∧
      (∀ old, atOnce → before = some old →
        let ends := (old = .available ∨ old = .rest) ∧ (act = .work ∨ act = .driving)
        let leaves := old = .rest ∧ act ≠ .rest
        a'.effective = act ∧ a'.candidate = none ∧ a'.settleTimer = 0 ∧
        (ends → a'.bl = 0 ∧ a'.breakDone = false ∧
          a'.partOne = (a.partOne || (!a.breakDone && decide (p.b1 * 60 ≤ a.bl)))) ∧
        (¬ ends → a'.bl = a.bl ∧ a'.breakDone = a.breakDone ∧ a'.partOne = a.partOne) ∧
        (leaves → a'.rl = 0 ∧ a'.warnings.restInterrupted = (decide (a.rl < p.rr * 60) || a.warnings.restInterrupted)) ∧
        (¬ leaves → a'.rl = a.rl) ∧
        (act = .rest → a'.restStart = some s.dev.clock.sec ∧ a'.warnings.restInterrupted = false) ∧
        (act ≠ .rest → a'.restStart = a.restStart)) ∧
      (act = .unknown → a'.effective = .unknown ∧ a'.candidate = none ∧ a'.settleTimer = 0 ∧
        (a.effective ≠ .unknown → a'.lastKnown = some a.effective ∧ a'.unknownTimer = 0)) ∧
      (act ≠ .unknown → a.effective = .unknown → (a.lastKnown = none ∨ a.lastKnown = some act) →
        a'.effective = act ∧ a'.candidate = none ∧ a'.restStart = a.restStart ∧ a'.unknownTimer = 0) ∧
      (act ≠ .unknown → act = a.effective → a'.effective = act ∧ a'.candidate = none ∧ a'.settleTimer = 0) ∧
      (p.settle ≠ 0 → act ≠ .unknown → act ≠ a.effective →
          (a.effective = .unknown → ∃ k, a.lastKnown = some k ∧ k ≠ act) →
        a'.effective = a.effective ∧ a'.candidate = some act ∧
        (a.candidate = some act → a'.settleTimer = a.settleTimer) ∧ (a.candidate ≠ some act → a'.settleTimer = 0))
    let frame := fun d : Device => d.clock = s.dev.clock ∧ d.settings = s.dev.settings ∧ d.store = s.dev.store ∧
      d.bank = s.dev.bank ∧ d.leads = s.dev.leads
    (∀ (id : CanId) (data : List Byte), s.dev.vehicle.busOff = false →
      id = BitVec.ofNat 11 (s.dev.settings.idBase + 1) → 2 ≤ data.length →
      Answers (.driverActivity id data) s fun d =>
        d.vehicle = { s.dev.vehicle with activityAge := 0, lostHanded := false } ∧
        taken (activityOfCode (data.getD 0 0#8)) s.dev.accounts.one d.accounts.one ∧
        taken (activityOfCode (data.getD 1 0#8)) s.dev.accounts.two d.accounts.two ∧
        WarningsActed s.dev.clock.sec s.dev d ∧ frame d) ∧
    (∀ (id : CanId) (data : List Byte) (dr : Driver) (h : Handle) (r : Record) (p : PlanRec),
      let a := s.dev.accounts.get dr
      let code := match dr with
        | .one => data.getD 0 0#8
        | .two => data.getD 1 0#8
      s.dev.vehicle.busOff = false → id = BitVec.ofNat 11 (s.dev.settings.idBase + 1) → 2 ≤ data.length →
      activityOfCode code = .rest → a.effective = .unknown → (a.lastKnown = none ∨ a.lastKnown = some .rest) →
      livePlan s.dev dr = some (h, r, p) → p.sub = .waiting → TableOk s.dev → PlansOk s.dev → h.slot < 46 →
      Answers (.driverActivity id data) s (BoundAt dr h p (a.restStart.getD s.dev.clock.sec) s.dev.clock.sec)) ∧
    (30 ≤ s.dev.vehicle.activityAge → s.dev.vehicle.lostHanded = false → Answers .activityFrameLost s fun d =>
      d.vehicle = { s.dev.vehicle with lostHanded := true } ∧
      taken .unknown s.dev.accounts.one d.accounts.one ∧ taken .unknown s.dev.accounts.two d.accounts.two ∧ frame d)

/-- At the end of a second each driver's counters take the second by the effective activity, up to seven days; then the break
and the daily rest complete, the warnings follow the counters, and the settle and unknown timers advance. A candidate that
has settled becomes effective with the changes of R166, and an active plan whose driver leaves REST is retired; a change to
REST binds a WAITING plan to it, and another leaves it WAITING (R179). The unknown timer sets the incomplete flag at 601.
Under UNKNOWN no counter moves and no warning condition changes (R162 to R167, R169, R184). A raise makes the driver
UNACKNOWLEDGED, and the end of the last warning NONE; either sets the driver's WARNING flag in every ONLINE station; and the
subjects of the dash alarm are formed: a new one and one that raised sound at once, one that is a subject no more falls
silent (R170 to R173; all that one evaluation changes is one change: log entry 48). The rest start is the present second of
the command (log entry 21), and that the completion checks are not made under UNKNOWN is the model's choice (log entry 70),
and so is a settle timer of 0 after a settled change (log entry 76). -/
def Obligations.AccountsFollowTheClock : Prop :=
  ∀ s : State, s.dev.inReset = false →
    let p := s.dev.settings.rest
    (Answers .accrual s fun d =>
      (∀ dr, let a := s.dev.accounts.get dr
        let a' := d.accounts.get dr
        let add := fun (on : Bool) (n : Nat) => if on then min (n + 1) 604800 else n
        let drives := decide (a.effective = .driving)
        let rests := decide (a.effective = .rest)
        let breaks := rests || decide (a.effective = .available)
        let bl := add breaks a.bl
        let rl := add rests a.rl
        let brk := decide (p.b * 60 ≤ bl) || (a.partOne && decide (p.b2 * 60 ≤ bl))
        let day := decide (p.rr * 60 ≤ rl)
        a'.effective = a.effective ∧
        (a.effective = .unknown → a'.cd = a.cd ∧ a'.dd = a.dd ∧ a'.bl = a.bl ∧ a'.rl = a.rl ∧ a'.partOne = a.partOne ∧
          a'.breakDone = a.breakDone ∧ a'.incomplete = a.incomplete ∧ a'.warnings = a.warnings) ∧
        (a.effective ≠ .unknown → a'.bl = bl ∧ a'.rl = rl ∧
        a'.cd = (if brk || day then 0 else add drives a.cd) ∧ a'.dd = (if day then 0 else add drives a.dd) ∧
        a'.partOne = (a.partOne && !brk && !day) ∧ a'.breakDone = (a.breakDone || brk) ∧
        a'.incomplete = (a.incomplete && !day) ∧
        a'.warnings = ⟨decide (p.rd * 60 ≤ rl), a.warnings.restInterrupted, decide ((p.ld - p.lead) * 60 ≤ a'.cd),
          decide ((p.dd - p.lead) * 60 ≤ a'.dd), decide (p.ld * 60 ≤ a'.cd), decide (p.dd * 60 ≤ a'.dd)⟩) ∧
        a'.candidate = a.candidate ∧
        a'.settleTimer = (if a.candidate.isSome then a.settleTimer + 1 else a.settleTimer) ∧
        (a.candidate.isSome = true → a'.settled = decide (p.settle ≤ a.settleTimer + 1)) ∧
        a'.unknownTimer = (if a.effective = .unknown then min (a.unknownTimer + 1) 601 else a.unknownTimer)) ∧
      WarningsActed s.dev.clock.sec s.dev d ∧
      sameExcept [.accounts, .link] s.dev d) ∧
    (∀ (dr : Driver) (old new : Activity),
      let a := s.dev.accounts.get dr
      a.settled = true → a.candidate = some new → old ≠ .unknown →
      ((a.effective ≠ .unknown ∧ a.effective = old) ∨ (a.effective = .unknown ∧ a.lastKnown = some old)) →
      Answers (.activitySettled dr) s fun d =>
        let a' := d.accounts.get dr
        let ends := (old = .available ∨ old = .rest) ∧ (new = .work ∨ new = .driving)
        let leaves := old = .rest ∧ new ≠ .rest
        a'.effective = new ∧ a'.candidate = none ∧ a'.settleTimer = 0 ∧ a'.cd = a.cd ∧ a'.dd = a.dd ∧
        (ends → a'.bl = 0 ∧ a'.breakDone = false ∧
          a'.partOne = (a.partOne || (!a.breakDone && decide (p.b1 * 60 ≤ a.bl)))) ∧
        (¬ ends → a'.bl = a.bl ∧ a'.breakDone = a.breakDone ∧ a'.partOne = a.partOne) ∧
        (leaves → a'.rl = 0 ∧ a'.warnings.restInterrupted = (decide (a.rl < p.rr * 60) || a.warnings.restInterrupted)) ∧
        (¬ leaves → a'.rl = a.rl) ∧
        (new = .rest → a'.restStart = some s.dev.clock.sec ∧ a'.warnings.restInterrupted = false) ∧
        (new ≠ .rest → a'.restStart = a.restStart) ∧
        (∀ h r pl, livePlan s.dev dr = some (h, r, pl) → r.fn = .rest dr → pl.sub ≠ .waiting → leaves → new ≠ .unknown →
          lookup d h = none ∧ d.plans.get dr = ⟨none, none, .none, 0, .none, 0⟩) ∧
        (∀ h r pl, livePlan s.dev dr = some (h, r, pl) → pl.sub = .waiting → TableOk s.dev → h.slot < 46 →
          (new = .rest → BoundAt dr h pl s.dev.clock.sec s.dev.clock.sec d) ∧
          (new ≠ .rest → livePlan d dr = some (h, r, pl) ∧ d.plans = s.dev.plans)) ∧
        WarningsActed s.dev.clock.sec s.dev d ∧
        d.clock = s.dev.clock ∧ d.settings = s.dev.settings ∧ d.store = s.dev.store ∧ d.bank = s.dev.bank) ∧
    (∀ dr : Driver, 601 ≤ (s.dev.accounts.get dr).unknownTimer → Answers (.incompleteSet dr) s fun d =>
      d.accounts = s.dev.accounts.set { s.dev.accounts.get dr with incomplete := true } dr ∧
      sameExcept [.accounts] s.dev d)

/-- A dash alarm sounds again 300 s after its last onset, a dash sounding ends after its 5 s, a bunk sounding after its
time, and a call sounds for 3 s at every 30 s; the lines BZ_DASH and BZ_BUNK follow (R173, R174, R183). The time of a
sounding runs from the start of its onset second (log entry 79). -/
def Obligations.SoundingsRunTheirTime : Prop :=
  ∀ (s : State) (dr : Driver) (t : Nat), s.dev.inReset = false →
    let a := s.dev.accounts.get dr
    let now := s.dev.clock.sec
    let becomes := fun (b : Account) (d : Device) =>
      d.accounts = s.dev.accounts.set b dr ∧ sameExcept [.accounts] s.dev d
    (a.subject = true → a.lastDash = some t → t + 300 ≤ now → Answers (.dashRepeatOnset dr) s fun d =>
      becomes { a with sounding := true, lastOnset := some now, lastDash := some now } d ∧ (outputs d).bzDash = true) ∧
    (a.sounding = true → a.lastDash = some t → t + 5 ≤ now → Answers (.dashSoundingEnd dr) s fun d =>
      becomes { a with sounding := false } d ∧
      ((outputs d).bzDash = true → ∃ x, x ≠ dr ∧ (s.dev.accounts.get x).sounding = true)) ∧
    (a.bunkUntil = some t → t ≤ now → Answers (.bunkSoundingEnd dr) s fun d =>
      becomes { a with bunkUntil := none } d ∧
      ((outputs d).bzBunk = true → ∃ x, x ≠ dr ∧ (s.dev.accounts.get x).bunkUntil ≠ none)) ∧
    ((s.dev.plans.get dr).call = .calling → (s.dev.plans.get dr).nextCall ≤ now →
      Answers (.bunkCallOnset dr) s fun d =>
        d.accounts = s.dev.accounts.set { a with lastOnset := some now, bunkUntil := some (now + 3) } dr ∧
        d.plans = s.dev.plans.set { s.dev.plans.get dr with nextCall := now + 30 } dr ∧
        (outputs d).bzBunk = true ∧ sameExcept [.accounts, .plans] s.dev d)

/-! ## Rest plans -/

/-- An ACTIVE plan enters WAKING at its end less its lead: the preheat is created in the driver's reserved slot as an
ESSENTIAL INTERNAL record on the heater, and the ramp starts at the level of the second. A WAKING plan enters DUE at its end:
the ramp is held at the wake level and the call starts where the buzzer is set. A running ramp hands its level each second,
and a plan DUE for 1,800 s is retired with its INTERNAL record and its ramp (R26, R180 to R183, R186). A call's 3 s run from
the start of the onset second (log entry 79). An AMEND of a plan already WAKING or DUE that keeps length and lead acts at
once: a new preheat setpoint amends the INTERNAL record or creates it, a new wake light ends the ramp and starts it anew, an
empty one ends it, and in DUE the wake buzzer starts a call that is NONE or silences one that sounds; what it leaves as it is
changes nothing (log entry 71) (R26, R181 to R183, R185). -/
def Obligations.PlansWakeTheDriver : Prop :=
  ∀ (s : State) (dr : Driver) (h : Handle) (r : Record) (p : PlanRec) (e : Nat), s.dev.inReset = false →
    livePlan s.dev dr = some (h, r, p) → r.fn = .rest dr → p.plannedEnd = some e → TableOk s.dev → h.slot < 46 →
    let now := s.dev.clock.sec
    let unit := s.dev.plans.get dr
    let slot := match dr with
      | .one => 46
      | .two => 47
    let level := fun w : WakeLight =>
      if now + p.lead * 60 < e then 0 else min w.level (w.level * (now + p.lead * 60 - e) / (p.lead * 60))
    let kept := fun d : Device => d.clock = s.dev.clock ∧ d.settings = s.dev.settings ∧ d.store = s.dev.store ∧
      d.bank = s.dev.bank ∧ d.vehicle = s.dev.vehicle ∧ d.leads = s.dev.leads
    (p.sub = .active → e ≤ now + p.lead * 60 → Answers (.planWaking dr) s fun d =>
      (∃ r' p', lookup d h = some r' ∧ r'.params = .plan p' ∧ p'.sub = .waking ∧ p'.plannedEnd = some e ∧
        (p.preheat = none → p'.internal = p.internal)) ∧
      (∀ t g, p.preheat = some t → s.dev.table.slots[slot]? = some ⟨g, none⟩ →
        (∃ r', lookup d ⟨slot, g⟩ = some r' ∧ r'.owner = .internal ∧ r'.fn = .heater ∧ r'.cls = .essential ∧
          r'.params = .heat t (some h) ∧ (r'.state = .granted ∨ r'.state = .suspended)) ∧
        (∃ r' p', lookup d h = some r' ∧ r'.params = .plan p' ∧ p'.internal = some ⟨slot, g⟩)) ∧
      (∀ w, p.light = some w → 0 < p.lead →
        (d.plans.get dr).ramp = .rising (level w) ∧
        ∀ c, w.channels.get c = true → (d.lamps.get c).ramp.get dr = some (level w)) ∧
      (∀ w, p.light = some w → p.lead = 0 → (d.plans.get dr).ramp = .held w.level) ∧
      d.accounts = s.dev.accounts ∧ kept d) ∧
    (p.sub = .waking → e ≤ now → Answers (.planDue dr) s fun d =>
      (∃ r' p', lookup d h = some r' ∧ r'.params = .plan p' ∧ p'.sub = .due ∧ p'.plannedEnd = some e ∧
        p'.internal = p.internal) ∧
      (d.plans.get dr).dueTimer = 0 ∧
      (∀ w, p.light = some w → (d.plans.get dr).ramp = .held w.level) ∧
      (p.buzzer = true → (d.plans.get dr).call = .calling ∧ (d.plans.get dr).nextCall = now + 30 ∧
        d.accounts = s.dev.accounts.set
          { s.dev.accounts.get dr with lastOnset := some now, bunkUntil := some (now + 3) } dr) ∧
      (p.buzzer = false → (d.plans.get dr).call = unit.call ∧ d.accounts = s.dev.accounts) ∧ kept d) ∧
    (∀ w, p.light = some w → unit.ramp ≠ .none → Answers (.rampLevelTick dr) s fun d =>
      let n := if p.sub = .due ∨ p.lead = 0 then w.level else level w
      (d.plans.get dr).ramp = (if p.sub = .due ∨ p.lead = 0 then .held n else .rising n) ∧
      (∀ c, (d.lamps.get c).ramp.get dr = ((s.dev.lamps.get c).ramp.get dr).map fun _ => n) ∧
      (∀ c, (d.lamps.get c).out = (s.dev.lamps.get c).out) ∧ sameExcept [.plans, .lamps] s.dev d) ∧
    (p.sub = .due → 1800 ≤ unit.dueTimer → Answers (.wakeUnanswered dr) s fun d =>
      lookup d h = none ∧ (d.table.slots[h.slot]?).bind Slot.rcd = none ∧
      (d.table.slots[slot]?).bind Slot.rcd = none ∧
      d.plans.get dr = ⟨none, none, .none, 0, .none, 0⟩ ∧
      (unit.ramp ≠ .none → ∀ c, (d.lamps.get c).ramp.get dr = none) ∧
      (unit.call = .calling → (d.accounts.get dr).bunkUntil = none) ∧ kept d) ∧
    (∀ (st : Station) (b : AmendBody) (f : PlanFields), Polled st s.dev → AmendsPlan st b dr h r p f s.dev →
      (p.sub = .waking ∨ p.sub = .due) → (f.len = 0xFFFF#16 ∨ max 30 (min f.len.toNat 1440) = p.len) →
      (f.lead = 0xFF#8 ∨ min f.lead.toNat 90 = p.lead) → s.dev.table.counter < 4294967294 →
      let preheat := if f.preheat = 0x7FFF#16 then p.preheat else some (max 10 (min f.preheat.toInt 60))
      let set : PerChannel Bool := ⟨f.channels.getLsbD 0, f.channels.getLsbD 1, f.channels.getLsbD 2,
        f.channels.getLsbD 3, f.channels.getLsbD 4, f.channels.getLsbD 5⟩
      let light : Option WakeLight := if f.level = 0xFF#8 then p.light
        else if set = ⟨false, false, false, false, false, false⟩ then none else some ⟨set, min f.level.toNat 100⟩
      let buzzer := if f.buzzer = 0xFF#8 then p.buzzer else f.buzzer.getLsbD 0
      Answers (.amend (some b)) s fun d =>
        let unit' := d.plans.get dr
        (∃ r' q, lookup d h = some r' ∧ r'.params = .plan q ∧ q.sub = p.sub ∧ q.plannedEnd = some e ∧
          q.preheat = preheat ∧ q.light = light ∧ q.buzzer = buzzer ∧ (preheat = p.preheat → q.internal = p.internal) ∧
          (∀ t g, preheat = some t → preheat ≠ p.preheat → s.dev.table.slots[slot]? = some ⟨g, none⟩ →
            q.internal = some ⟨slot, g⟩ ∧ ∃ i, lookup d ⟨slot, g⟩ = some i ∧ i.owner = .internal ∧ i.fn = .heater ∧
              i.cls = .essential ∧ i.params = .heat t (some h) ∧ (i.state = .granted ∨ i.state = .suspended))) ∧
        (∀ t g x, preheat = some t → preheat ≠ p.preheat → s.dev.table.slots[slot]? = some ⟨g, some x⟩ →
          ∃ i, lookup d ⟨slot, g⟩ = some i ∧ i.owner = x.owner ∧ i.fn = x.fn ∧ i.cls = x.cls ∧
            i.params = .heat t (some h) ∧ i.seq = s.dev.table.counter + 2) ∧
        (light = p.light → unit'.ramp = unit.ramp ∧ ∀ c, (d.lamps.get c).ramp = (s.dev.lamps.get c).ramp) ∧
        (light = none → p.light ≠ none → unit.ramp ≠ .none →
          unit'.ramp = .none ∧ ∀ c, (d.lamps.get c).ramp.get dr = none) ∧
        (∀ w, light = some w → p.light ≠ some w →
          (unit.ramp ≠ .none ∨ ∀ c, (s.dev.lamps.get c).ramp.get dr = none) →
          let n := if p.sub = .due ∨ p.lead = 0 then w.level else level w
          unit'.ramp = (if p.sub = .due ∨ p.lead = 0 then .held n else .rising n) ∧
          ∀ c, (d.lamps.get c).ramp.get dr = if w.channels.get c = true then some n else none) ∧
        (p.sub = .due → p.buzzer = false → buzzer = true → unit.call = .none →
          unit'.call = .calling ∧ unit'.nextCall = now + 30 ∧ d.accounts = s.dev.accounts.set
            { s.dev.accounts.get dr with lastOnset := some now, bunkUntil := some (now + 3) } dr) ∧
        (p.sub = .due → p.buzzer = true → buzzer = false → unit.call = .calling →
          unit'.call = .silent ∧
          d.accounts = s.dev.accounts.set { s.dev.accounts.get dr with bunkUntil := none } dr) ∧
        (p.sub = .waking ∨ buzzer = p.buzzer → unit'.call = unit.call ∧ d.accounts = s.dev.accounts) ∧ kept d)

/-! ## Budget unit -/

/-- The ladder of a shed order that names each lane once has 5 to 8 steps, written out by rounds. At a frame boundary the
unit gives back one step where the position is above the forced minimum and the margin one step lower is at least the restore
margin, and none otherwise; and the head of the deferral queue is granted where the margin with its lane engaged reaches the
restore margin, and waits otherwise (R70, R86, R87). That work at a frame boundary is a recomputation, then the step back,
then the pass, with one BUDGET notice for all of it (R85); SLOT_BOUNDARY after the last entry does it once slot 0 has opened,
before or after the heater's report as its operand says, and with a swap after the swap's recomputation, or before the swap
(R79, R88, R101; log entries 3, 15 and 33). Every projection, a test's too, has the usable charge, the draw, the horizon, the
wake reserve, the demand, the margin and the time to the floor that R73 to R78 give (a plan's end that has passed: log entry
68). -/
def Obligations.StepsComeBackOneAtATime : Prop :=
  (∀ (d : Device) (modes : PerLane LaneMode) (cap : Nat) (extra : Option Lane),
     project d modes cap extra = projectionOf d modes cap extra) ∧
  (∀ (o : ShedOrder) (prot : PerLane Bool), o.first ≠ o.second → o.second ≠ o.third → o.first ≠ o.third →
     buildLadder o prot = ladderOf o prot ∧
     (buildLadder o prot).length = 8 - ([Lane.heat, .cool, .aux].filter fun l => prot.get l).length) ∧
  (∀ d : Device, LadderOk d →
     (regimeOf d = none ∧ (d.budget.mode = .nominal ∨ d.budget.mode = .curtailed ∨ d.budget.mode = .short)) ∨
       (regimeOf d = some .lowVoltage ∧ d.budget.mode = .lowVoltage) →
     let least := if d.budget.mode = .lowVoltage then 4 else 0
     let pos := d.budget.position
     let passes := least < pos ∧ (d.settings.restoreMargin : Int) ≤ (projectAt d (pos - 1) none).m
     let d' := restore d
     (passes → d'.budget.position + 1 = pos ∧ d'.budget.modes = modesAt d.budget.ladder (pos - 1) ∧
       d'.budget.cap = capAt d.budget.ladder (pos - 1) ∧
       (d.budget.mode ≠ .lowVoltage → d'.budget.mode = (if pos = 1 then .nominal else .curtailed)) ∧
       (d.budget.mode = .lowVoltage → d'.budget.mode = .lowVoltage)) ∧
     (¬ passes → d' = d)) ∧
  (∀ (d : Device) (h : Handle) (rest : List Handle) (r : Record) (l : Lane), d.table.queue = h :: rest →
     lookup d h = some r → r.fn = laneFn l → r.state = .deferred →
     (d.budget.mode = .nominal ∨ d.budget.mode = .curtailed ∨ d.budget.mode = .short) →
     let enough := (d.settings.restoreMargin : Int) ≤ (project d d.budget.modes d.budget.cap (some l)).m
     let d' := admissionPass d.table.queue d
     (enough → h ∉ d'.table.queue ∧
       ∃ r', lookup d' h = some r' ∧ (r'.state = .granted ∨ r'.state = .suspended) ∧ r'.deadline = none) ∧
     (¬ enough → d' = d)) ∧
  (∀ d : Device,
     let e := restore (recomputeCore d)
     let x := admissionPass e.table.queue e
     let view := fun d : Device => (d.budget.mode, d.budget.position, d.budget.cap, d.budget.tminBelow)
     sameExcept [.link] (recomputeCore d) (recompute d) ∧ sameExcept [.link] x (frameWork d) ∧
     (view x = view d → frameWork d = x) ∧
     (view x ≠ view d → ∀ st, (x.link.stations.get st).link = .online →
       ((frameWork d).link.stations.get st).flags.budget = true)) ∧
  (∀ (s : State) (w f : Bool), s.dev.inReset = false → s.dev.sched.waiting = false →
     (activeTable s.dev).length ≤ s.dev.sched.slotIndex + 1 →
     (s.dev.sched.swapPending = false →
       let o := openFirst (takeLength s.dev)
       exec (.slotBoundary w f) s =
         .next ⟨if f then frameWork (reportSlot true false o) else reportSlot true false (frameWork o), s.pending⟩) ∧
     (s.dev.sched.swapPending = true → StoreIdle s.dev → s.dev.sched.late = [] → ∃ t u : State,
       exec (.slotBoundary w f) s = .next t ∧ exec .storeWriteComplete t = .next u ∧
       sameExcept [.settings, .store, .sched] (if w then frameWork s.dev else s.dev) t.dev ∧
       (let o := openFirst { t.dev with store := u.dev.store }
        let work := fun d : Device => if w then recompute d else frameWork (recompute d)
        sameExcept [.link] (if f then work (reportSlot true true o) else reportSlot true true (work o)) u.dev)))

/-- A recomputation takes the regime that voltage and engine call for, and in the projection modes and LOW_VOLTAGE takes one
step after another while the margin is below 0, no more than that, up to the ladder's last step. Modes, cap and BUDGET
causes are then those of the position, the projection at it is stored, WAKE_AT_RISK stands just in SHORT on plans with a
preheat, and a change of mode, position, cap or Tmin side is noticed (R65 to R69, R72, R79 to R82). -/
def Obligations.RecomputeCoversTheHorizon : Prop :=
  ∀ d : Device, LadderOk d →
    let d' := recompute d
    let v := d.bank.vstate
    let b := d.budget
    let b' := d'.budget
    let at' := fun n : Nat => projectAt d n none
    let covers := fun start : Nat => start ≤ b'.position ∧ b'.position ≤ b.ladder.length ∧
      (∀ n, start ≤ n → n < b'.position → (at' n).m < 0) ∧
      (0 ≤ (at' b'.position).m ∨ b'.position = b.ladder.length) ∧ b'.proj = at' b'.position
    b'.ladder = b.ladder ∧ LadderOk d' ∧ b'.tminBelow = decide (b'.proj.tmin < 60) ∧
    (v = .cutoff → b'.mode = .cutoff ∧ b'.position = b.position ∧ b'.modes = ⟨.off, .off, .off⟩ ∧ b'.cap = 10) ∧
    (v ≠ .cutoff → b'.modes = modesAt b.ladder b'.position ∧ b'.cap = capAt b.ladder b'.position ∧
      ∀ l, (causesOf d'.table.causes (laneFn l)).budget = decide ((modesAt b.ladder b'.position).get l = .off)) ∧
    (v = .low → b'.mode = .lowVoltage ∧ (b.mode = .cutoff → b'.position = b.ladder.length) ∧
      (b.mode ≠ .cutoff → covers (max b.position 4))) ∧
    (v = .normal ∨ v = .high → d.vehicle.running = true → b'.mode = .charging ∧ b'.position = 0) ∧
    (v = .normal ∨ v = .high → d.vehicle.running = false → b.mode ≠ .cutoff → covers b.position ∧
      ((at' b'.position).m < 0 → b'.mode = .short) ∧
      (0 ≤ (at' b'.position).m → b'.mode = (if b'.position = 0 then .nominal else .curtailed))) ∧
    (∀ h r p, lookup d' h = some r → r.params = .plan p →
      p.atRisk = (decide (b'.mode = .short) && p.preheat.isSome)) ∧
    ((b'.mode, b'.position, b'.cap, b'.tminBelow) ≠ (b.mode, b.position, b.cap, b.tminBelow) →
      ∀ st, (d.link.stations.get st).link = .online → (d'.link.stations.get st).flags.budget = true) ∧
    sameExcept budgetReach d d'

/-! ## Invariants -/

/-- Right after power-on every invariant holds (the reset values of the spec, and for what it leaves open the model's, log
entries 4 to 6). -/
def Obligations.ResetMeetsTheInvariants : Prop :=
  DrawOk State.reset.dev ∧ BooksOk State.reset.dev ∧ PeakOk State.reset.dev ∧ LockOk State.reset.dev ∧
  drawn State.reset.dev ≤ State.reset.dev.settings.currents.peak

/-- Every step keeps what the drawing of the loads rests on: the heater's outputs and step are those of its state, the plug
draws only under the claim, a heavy lane draws only under its permission, and has it only in a mode that lets it draw in the
present frame, COOL and AUX never under the claim or in HIGH and none in CUTOFF, while a store write is awaited too (log
entry 15); the outlet is CLOSED just while AUX is permitted and its value is on; no step above 1 stands in HIGH; the ladder
position is one of its counts; each channel's target is the greater of its level and the ramps that cover it, within the cap,
0 under a fault; and no lamp passes the cap (R70, R71, R90, R102 to R104, R109, R112, R121, R149, R153). -/
def Obligations.EveryStepKeepsTheDrawing : Prop :=
  ∀ s t : State, DrawOk s.dev → step s = .next t → DrawOk t.dev

/-- Every step keeps the part's books: 48 slots with generations from 1 to 255 and a deferral queue without repeats, pending
sets of at most 64 entries that are empty unless the station is ONLINE, a charge within full charge, counters within seven
days with the acknowledgement state that fits the warnings, the transmit count, a store that writes one image at a time, and
blocks that wait, or an answer held, only for a write that is asked for (R29, R6, R23, R30, R42, R49, R160, R171, R189,
R191). -/
def Obligations.EveryStepKeepsTheBooks : Prop :=
  ∀ s t : State, BooksOk s.dev → step s = .next t → BooksOk t.dev

/-- The rated currents of the heavy lanes that draw stay within the peak limit at every step: from every state that meets
`DrawOk` and `PeakOk` (validated tables in force, in the images and in the writes asked for, permissions, claim and plug
within the limit, currents changed only with the loads idle, log entry 52), whatever command comes, the next state meets
`PeakOk` and draws at most the peak limit (R91, R94, R104, R106). Apart from that, the forming of permissions and a slot
boundary within a frame keep the limit for any entry in force that passes validation. -/
def Obligations.DrawStaysWithinThePeak : Prop :=
  (∀ s t : State, DrawOk s.dev → PeakOk s.dev → step s = .next t →
     PeakOk t.dev ∧ drawn t.dev ≤ t.dev.settings.currents.peak) ∧
  (∀ d : Device, HeaterOk d → LanesOk d →
     entryCurrent d.settings.currents (currentEntry d) ≤ d.settings.currents.peak →
     d.settings.currents.rGlow ≤ d.settings.currents.peak →
     drawn (formPermissions d) ≤ d.settings.currents.peak ∧ HeaterOk (formPermissions d) ∧ LanesOk (formPermissions d)) ∧
  (∀ (s : State) (w f : Bool), s.dev.inReset = false → HeaterOk s.dev → LanesOk s.dev → s.dev.sched.waiting = false →
     s.dev.sched.slotIndex + 1 < (activeTable s.dev).length →
     entryCurrent s.dev.settings.currents
       ((activeTable s.dev).entries.getD (s.dev.sched.slotIndex + 1) ⟨false, false, false, false⟩) ≤
         s.dev.settings.currents.peak →
     s.dev.settings.currents.rGlow ≤ s.dev.settings.currents.peak →
     Answers (.slotBoundary w f) s fun d => drawn d ≤ s.dev.settings.currents.peak)

/-- Decoding the reply frame of a request gives the request back, for every request that the layouts of R197 and R201 allow
with every field present (log entry 56), every operand value and every station address (R27, R196, R197, R201). A request
with an ill-formed body has no encoding and is left out. -/
def Obligations.ReplyFramesRoundTrip : Prop :=
  ∀ (addr : Nat) (i : Instr) (bytes : List Byte), 1 ≤ addr → addr ≤ 6 → i.wf = true →
    encodeReply addr i = some bytes → decodeReply addr bytes = i
end

