-- ==== Sys2Proof/Laws/State.lean ====
section
/-! SUPPORT. Small laws of the state's updates: what each leaves in each block, the laws of the numbered families, and
what a meaning over the part answers. -/

namespace Sys2Proof.Machine
open Sys2Proof

-- Proofs in turn, so that the joined text keeps to a few threads.
set_option Elab.async false

/-! ## Numbered families -/

@[simp] theorem PerStation_get_set {α : Type} (p : PerStation α) (x : α) (i : Station) : (p.set x i).get i = x := by
  cases i <;> rfl
theorem PerStation_get_set_ne {α : Type} (p : PerStation α) (x : α) {i j : Station} (h : j ≠ i) : (p.set x i).get j = p.get j := by
  cases i <;> cases j <;> first | rfl | exact absurd rfl h
theorem PerStation_ext {α : Type} {p q : PerStation α} (h : ∀ i, p.get i = q.get i) : p = q := by
  cases p; cases q
  simp only [PerStation.mk.injEq]
  exact ⟨h .s1, h .s2, h .s3, h .s4, h .s5, h .s6⟩
@[simp] theorem PerDriver_get_set {α : Type} (p : PerDriver α) (x : α) (i : Driver) : (p.set x i).get i = x := by
  cases i <;> rfl
theorem PerDriver_get_set_ne {α : Type} (p : PerDriver α) (x : α) {i j : Driver} (h : j ≠ i) : (p.set x i).get j = p.get j := by
  cases i <;> cases j <;> first | rfl | exact absurd rfl h
theorem PerDriver_ext {α : Type} {p q : PerDriver α} (h : ∀ i, p.get i = q.get i) : p = q := by
  cases p; cases q
  simp only [PerDriver.mk.injEq]
  exact ⟨h .one, h .two⟩
@[simp] theorem PerChannel_get_set {α : Type} (p : PerChannel α) (x : α) (i : Channel) : (p.set x i).get i = x := by
  cases i <;> rfl
theorem PerChannel_get_set_ne {α : Type} (p : PerChannel α) (x : α) {i j : Channel} (h : j ≠ i) : (p.set x i).get j = p.get j := by
  cases i <;> cases j <;> first | rfl | exact absurd rfl h
theorem PerChannel_ext {α : Type} {p q : PerChannel α} (h : ∀ i, p.get i = q.get i) : p = q := by
  cases p; cases q
  simp only [PerChannel.mk.injEq]
  exact ⟨h .c8, h .c9, h .c10, h .c11, h .c12, h .c13⟩
@[simp] theorem PerLane_get_set {α : Type} (p : PerLane α) (x : α) (i : Lane) : (p.set x i).get i = x := by
  cases i <;> rfl
theorem PerLane_get_set_ne {α : Type} (p : PerLane α) (x : α) {i j : Lane} (h : j ≠ i) : (p.set x i).get j = p.get j := by
  cases i <;> cases j <;> first | rfl | exact absurd rfl h
theorem PerLane_ext {α : Type} {p q : PerLane α} (h : ∀ i, p.get i = q.get i) : p = q := by
  cases p; cases q
  simp only [PerLane.mk.injEq]
  exact ⟨h .heat, h .cool, h .aux⟩
@[simp] theorem PerTable_get_set {α : Type} (p : PerTable α) (x : α) (i : TableId) : (p.set x i).get i = x := by
  cases i <;> rfl
theorem PerTable_get_set_ne {α : Type} (p : PerTable α) (x : α) {i j : TableId} (h : j ≠ i) : (p.set x i).get j = p.get j := by
  cases i <;> cases j <;> first | rfl | exact absurd rfl h
theorem PerTable_ext {α : Type} {p q : PerTable α} (h : ∀ i, p.get i = q.get i) : p = q := by
  cases p; cases q
  simp only [PerTable.mk.injEq]
  exact ⟨h .a, h .b⟩
@[simp] theorem PerWindow_get_set {α : Type} (p : PerWindow α) (x : α) (i : WindowIndex) : (p.set x i).get i = x := by
  cases i <;> rfl
theorem PerWindow_get_set_ne {α : Type} (p : PerWindow α) (x : α) {i j : WindowIndex} (h : j ≠ i) : (p.set x i).get j = p.get j := by
  cases i <;> cases j <;> first | rfl | exact absurd rfl h
theorem PerWindow_ext {α : Type} {p q : PerWindow α} (h : ∀ i, p.get i = q.get i) : p = q := by
  cases p; cases q
  simp only [PerWindow.mk.injEq]
  exact ⟨h .w0, h .w1, h .w2, h .w3⟩
@[simp] theorem PerStation_get_map {α β : Type} (f : α → β) (p : PerStation α) (i : Station) :
    (p.map f).get i = f (p.get i) := by
  cases i <;> rfl
@[simp] theorem PerChannel_get_imap {α β : Type} (f : Channel → α → β) (p : PerChannel α) (i : Channel) :
    (p.imap f).get i = f i (p.get i) := by
  cases i <;> rfl

/-! ## Updates of one block -/

section setLink

variable (f : Link → Link) (d : Device)

@[simp] theorem setLink_inReset : (setLink f d).inReset = d.inReset := rfl
@[simp] theorem setLink_clock : (setLink f d).clock = d.clock := rfl
@[simp] theorem setLink_settings : (setLink f d).settings = d.settings := rfl
@[simp] theorem setLink_store : (setLink f d).store = d.store := rfl
@[simp] theorem setLink_table : (setLink f d).table = d.table := rfl
@[simp] theorem setLink_bank : (setLink f d).bank = d.bank := rfl
@[simp] theorem setLink_budget : (setLink f d).budget = d.budget := rfl
@[simp] theorem setLink_sched : (setLink f d).sched = d.sched := rfl
@[simp] theorem setLink_heater : (setLink f d).heater = d.heater := rfl
@[simp] theorem setLink_fridge : (setLink f d).fridge = d.fridge := rfl
@[simp] theorem setLink_lamps : (setLink f d).lamps = d.lamps := rfl
@[simp] theorem setLink_accounts : (setLink f d).accounts = d.accounts := rfl
@[simp] theorem setLink_plans : (setLink f d).plans = d.plans := rfl
@[simp] theorem setLink_vehicle : (setLink f d).vehicle = d.vehicle := rfl
@[simp] theorem setLink_leads : (setLink f d).leads = d.leads := rfl
@[simp] theorem setLink_link :
    (setLink f d).link = f d.link := rfl

end setLink

section setBank

variable (f : Bank → Bank) (d : Device)

@[simp] theorem setBank_inReset : (setBank f d).inReset = d.inReset := rfl
@[simp] theorem setBank_clock : (setBank f d).clock = d.clock := rfl
@[simp] theorem setBank_settings : (setBank f d).settings = d.settings := rfl
@[simp] theorem setBank_store : (setBank f d).store = d.store := rfl
@[simp] theorem setBank_link : (setBank f d).link = d.link := rfl
@[simp] theorem setBank_table : (setBank f d).table = d.table := rfl
@[simp] theorem setBank_budget : (setBank f d).budget = d.budget := rfl
@[simp] theorem setBank_sched : (setBank f d).sched = d.sched := rfl
@[simp] theorem setBank_heater : (setBank f d).heater = d.heater := rfl
@[simp] theorem setBank_fridge : (setBank f d).fridge = d.fridge := rfl
@[simp] theorem setBank_lamps : (setBank f d).lamps = d.lamps := rfl
@[simp] theorem setBank_accounts : (setBank f d).accounts = d.accounts := rfl
@[simp] theorem setBank_plans : (setBank f d).plans = d.plans := rfl
@[simp] theorem setBank_vehicle : (setBank f d).vehicle = d.vehicle := rfl
@[simp] theorem setBank_leads : (setBank f d).leads = d.leads := rfl
@[simp] theorem setBank_bank :
    (setBank f d).bank = f d.bank := rfl

end setBank

section setHeat

variable (f : Heater → Heater) (d : Device)

@[simp] theorem setHeat_inReset : (setHeat f d).inReset = d.inReset := rfl
@[simp] theorem setHeat_clock : (setHeat f d).clock = d.clock := rfl
@[simp] theorem setHeat_settings : (setHeat f d).settings = d.settings := rfl
@[simp] theorem setHeat_store : (setHeat f d).store = d.store := rfl
@[simp] theorem setHeat_link : (setHeat f d).link = d.link := rfl
@[simp] theorem setHeat_table : (setHeat f d).table = d.table := rfl
@[simp] theorem setHeat_bank : (setHeat f d).bank = d.bank := rfl
@[simp] theorem setHeat_budget : (setHeat f d).budget = d.budget := rfl
@[simp] theorem setHeat_sched : (setHeat f d).sched = d.sched := rfl
@[simp] theorem setHeat_fridge : (setHeat f d).fridge = d.fridge := rfl
@[simp] theorem setHeat_lamps : (setHeat f d).lamps = d.lamps := rfl
@[simp] theorem setHeat_accounts : (setHeat f d).accounts = d.accounts := rfl
@[simp] theorem setHeat_plans : (setHeat f d).plans = d.plans := rfl
@[simp] theorem setHeat_vehicle : (setHeat f d).vehicle = d.vehicle := rfl
@[simp] theorem setHeat_leads : (setHeat f d).leads = d.leads := rfl
@[simp] theorem setHeat_heater :
    (setHeat f d).heater = f d.heater := rfl

end setHeat

section setSched

variable (f : Sched → Sched) (d : Device)

@[simp] theorem setSched_inReset : (setSched f d).inReset = d.inReset := rfl
@[simp] theorem setSched_clock : (setSched f d).clock = d.clock := rfl
@[simp] theorem setSched_settings : (setSched f d).settings = d.settings := rfl
@[simp] theorem setSched_store : (setSched f d).store = d.store := rfl
@[simp] theorem setSched_link : (setSched f d).link = d.link := rfl
@[simp] theorem setSched_table : (setSched f d).table = d.table := rfl
@[simp] theorem setSched_bank : (setSched f d).bank = d.bank := rfl
@[simp] theorem setSched_budget : (setSched f d).budget = d.budget := rfl
@[simp] theorem setSched_heater : (setSched f d).heater = d.heater := rfl
@[simp] theorem setSched_fridge : (setSched f d).fridge = d.fridge := rfl
@[simp] theorem setSched_lamps : (setSched f d).lamps = d.lamps := rfl
@[simp] theorem setSched_accounts : (setSched f d).accounts = d.accounts := rfl
@[simp] theorem setSched_plans : (setSched f d).plans = d.plans := rfl
@[simp] theorem setSched_vehicle : (setSched f d).vehicle = d.vehicle := rfl
@[simp] theorem setSched_leads : (setSched f d).leads = d.leads := rfl
@[simp] theorem setSched_sched :
    (setSched f d).sched = f d.sched := rfl

end setSched

section setFridge

variable (f : Fridge → Fridge) (d : Device)

@[simp] theorem setFridge_inReset : (setFridge f d).inReset = d.inReset := rfl
@[simp] theorem setFridge_clock : (setFridge f d).clock = d.clock := rfl
@[simp] theorem setFridge_settings : (setFridge f d).settings = d.settings := rfl
@[simp] theorem setFridge_store : (setFridge f d).store = d.store := rfl
@[simp] theorem setFridge_link : (setFridge f d).link = d.link := rfl
@[simp] theorem setFridge_table : (setFridge f d).table = d.table := rfl
@[simp] theorem setFridge_bank : (setFridge f d).bank = d.bank := rfl
@[simp] theorem setFridge_budget : (setFridge f d).budget = d.budget := rfl
@[simp] theorem setFridge_sched : (setFridge f d).sched = d.sched := rfl
@[simp] theorem setFridge_heater : (setFridge f d).heater = d.heater := rfl
@[simp] theorem setFridge_lamps : (setFridge f d).lamps = d.lamps := rfl
@[simp] theorem setFridge_accounts : (setFridge f d).accounts = d.accounts := rfl
@[simp] theorem setFridge_plans : (setFridge f d).plans = d.plans := rfl
@[simp] theorem setFridge_vehicle : (setFridge f d).vehicle = d.vehicle := rfl
@[simp] theorem setFridge_leads : (setFridge f d).leads = d.leads := rfl
@[simp] theorem setFridge_fridge :
    (setFridge f d).fridge = f d.fridge := rfl

end setFridge

section setVehicle

variable (f : Vehicle → Vehicle) (d : Device)

@[simp] theorem setVehicle_inReset : (setVehicle f d).inReset = d.inReset := rfl
@[simp] theorem setVehicle_clock : (setVehicle f d).clock = d.clock := rfl
@[simp] theorem setVehicle_settings : (setVehicle f d).settings = d.settings := rfl
@[simp] theorem setVehicle_store : (setVehicle f d).store = d.store := rfl
@[simp] theorem setVehicle_link : (setVehicle f d).link = d.link := rfl
@[simp] theorem setVehicle_table : (setVehicle f d).table = d.table := rfl
@[simp] theorem setVehicle_bank : (setVehicle f d).bank = d.bank := rfl
@[simp] theorem setVehicle_budget : (setVehicle f d).budget = d.budget := rfl
@[simp] theorem setVehicle_sched : (setVehicle f d).sched = d.sched := rfl
@[simp] theorem setVehicle_heater : (setVehicle f d).heater = d.heater := rfl
@[simp] theorem setVehicle_fridge : (setVehicle f d).fridge = d.fridge := rfl
@[simp] theorem setVehicle_lamps : (setVehicle f d).lamps = d.lamps := rfl
@[simp] theorem setVehicle_accounts : (setVehicle f d).accounts = d.accounts := rfl
@[simp] theorem setVehicle_plans : (setVehicle f d).plans = d.plans := rfl
@[simp] theorem setVehicle_leads : (setVehicle f d).leads = d.leads := rfl
@[simp] theorem setVehicle_vehicle :
    (setVehicle f d).vehicle = f d.vehicle := rfl

end setVehicle

section setBudget

variable (f : Budget → Budget) (d : Device)

@[simp] theorem setBudget_inReset : (setBudget f d).inReset = d.inReset := rfl
@[simp] theorem setBudget_clock : (setBudget f d).clock = d.clock := rfl
@[simp] theorem setBudget_settings : (setBudget f d).settings = d.settings := rfl
@[simp] theorem setBudget_store : (setBudget f d).store = d.store := rfl
@[simp] theorem setBudget_link : (setBudget f d).link = d.link := rfl
@[simp] theorem setBudget_table : (setBudget f d).table = d.table := rfl
@[simp] theorem setBudget_bank : (setBudget f d).bank = d.bank := rfl
@[simp] theorem setBudget_sched : (setBudget f d).sched = d.sched := rfl
@[simp] theorem setBudget_heater : (setBudget f d).heater = d.heater := rfl
@[simp] theorem setBudget_fridge : (setBudget f d).fridge = d.fridge := rfl
@[simp] theorem setBudget_lamps : (setBudget f d).lamps = d.lamps := rfl
@[simp] theorem setBudget_accounts : (setBudget f d).accounts = d.accounts := rfl
@[simp] theorem setBudget_plans : (setBudget f d).plans = d.plans := rfl
@[simp] theorem setBudget_vehicle : (setBudget f d).vehicle = d.vehicle := rfl
@[simp] theorem setBudget_leads : (setBudget f d).leads = d.leads := rfl
@[simp] theorem setBudget_budget :
    (setBudget f d).budget = f d.budget := rfl

end setBudget

section setUnit

variable (dr : Driver) (f : PlanUnit → PlanUnit) (d : Device)

@[simp] theorem setUnit_inReset : (setUnit dr f d).inReset = d.inReset := rfl
@[simp] theorem setUnit_clock : (setUnit dr f d).clock = d.clock := rfl
@[simp] theorem setUnit_settings : (setUnit dr f d).settings = d.settings := rfl
@[simp] theorem setUnit_store : (setUnit dr f d).store = d.store := rfl
@[simp] theorem setUnit_link : (setUnit dr f d).link = d.link := rfl
@[simp] theorem setUnit_table : (setUnit dr f d).table = d.table := rfl
@[simp] theorem setUnit_bank : (setUnit dr f d).bank = d.bank := rfl
@[simp] theorem setUnit_budget : (setUnit dr f d).budget = d.budget := rfl
@[simp] theorem setUnit_sched : (setUnit dr f d).sched = d.sched := rfl
@[simp] theorem setUnit_heater : (setUnit dr f d).heater = d.heater := rfl
@[simp] theorem setUnit_fridge : (setUnit dr f d).fridge = d.fridge := rfl
@[simp] theorem setUnit_lamps : (setUnit dr f d).lamps = d.lamps := rfl
@[simp] theorem setUnit_accounts : (setUnit dr f d).accounts = d.accounts := rfl
@[simp] theorem setUnit_vehicle : (setUnit dr f d).vehicle = d.vehicle := rfl
@[simp] theorem setUnit_leads : (setUnit dr f d).leads = d.leads := rfl
@[simp] theorem setUnit_plans :
    (setUnit dr f d).plans = d.plans.set (f (d.plans.get dr)) dr := rfl

end setUnit

section setAccount

variable (dr : Driver) (f : Account → Account) (d : Device)

@[simp] theorem setAccount_inReset : (setAccount dr f d).inReset = d.inReset := rfl
@[simp] theorem setAccount_clock : (setAccount dr f d).clock = d.clock := rfl
@[simp] theorem setAccount_settings : (setAccount dr f d).settings = d.settings := rfl
@[simp] theorem setAccount_store : (setAccount dr f d).store = d.store := rfl
@[simp] theorem setAccount_link : (setAccount dr f d).link = d.link := rfl
@[simp] theorem setAccount_table : (setAccount dr f d).table = d.table := rfl
@[simp] theorem setAccount_bank : (setAccount dr f d).bank = d.bank := rfl
@[simp] theorem setAccount_budget : (setAccount dr f d).budget = d.budget := rfl
@[simp] theorem setAccount_sched : (setAccount dr f d).sched = d.sched := rfl
@[simp] theorem setAccount_heater : (setAccount dr f d).heater = d.heater := rfl
@[simp] theorem setAccount_fridge : (setAccount dr f d).fridge = d.fridge := rfl
@[simp] theorem setAccount_lamps : (setAccount dr f d).lamps = d.lamps := rfl
@[simp] theorem setAccount_plans : (setAccount dr f d).plans = d.plans := rfl
@[simp] theorem setAccount_vehicle : (setAccount dr f d).vehicle = d.vehicle := rfl
@[simp] theorem setAccount_leads : (setAccount dr f d).leads = d.leads := rfl
@[simp] theorem setAccount_accounts :
    (setAccount dr f d).accounts = d.accounts.set (f (d.accounts.get dr)) dr := rfl

end setAccount

section putRecord

variable (h : Handle) (r : Record) (d : Device)

@[simp] theorem putRecord_inReset : (putRecord h r d).inReset = d.inReset := rfl
@[simp] theorem putRecord_clock : (putRecord h r d).clock = d.clock := rfl
@[simp] theorem putRecord_settings : (putRecord h r d).settings = d.settings := rfl
@[simp] theorem putRecord_store : (putRecord h r d).store = d.store := rfl
@[simp] theorem putRecord_link : (putRecord h r d).link = d.link := rfl
@[simp] theorem putRecord_bank : (putRecord h r d).bank = d.bank := rfl
@[simp] theorem putRecord_budget : (putRecord h r d).budget = d.budget := rfl
@[simp] theorem putRecord_sched : (putRecord h r d).sched = d.sched := rfl
@[simp] theorem putRecord_heater : (putRecord h r d).heater = d.heater := rfl
@[simp] theorem putRecord_fridge : (putRecord h r d).fridge = d.fridge := rfl
@[simp] theorem putRecord_lamps : (putRecord h r d).lamps = d.lamps := rfl
@[simp] theorem putRecord_accounts : (putRecord h r d).accounts = d.accounts := rfl
@[simp] theorem putRecord_plans : (putRecord h r d).plans = d.plans := rfl
@[simp] theorem putRecord_vehicle : (putRecord h r d).vehicle = d.vehicle := rfl
@[simp] theorem putRecord_leads : (putRecord h r d).leads = d.leads := rfl
@[simp] theorem putRecord_table_slots :
    (putRecord h r d).table.slots = d.table.slots.set h.slot ⟨h.gen, some r⟩ := rfl
@[simp] theorem putRecord_table_queue :
    (putRecord h r d).table.queue = d.table.queue := rfl
@[simp] theorem putRecord_table_counter :
    (putRecord h r d).table.counter = d.table.counter := rfl
@[simp] theorem putRecord_table_causes :
    (putRecord h r d).table.causes = d.table.causes := rfl
@[simp] theorem putRecord_table_quiet :
    (putRecord h r d).table.quiet = d.table.quiet := rfl

end putRecord

section freeSlot

variable (i : Nat) (d : Device)

@[simp] theorem freeSlot_inReset : (freeSlot i d).inReset = d.inReset := rfl
@[simp] theorem freeSlot_clock : (freeSlot i d).clock = d.clock := rfl
@[simp] theorem freeSlot_settings : (freeSlot i d).settings = d.settings := rfl
@[simp] theorem freeSlot_store : (freeSlot i d).store = d.store := rfl
@[simp] theorem freeSlot_link : (freeSlot i d).link = d.link := rfl
@[simp] theorem freeSlot_bank : (freeSlot i d).bank = d.bank := rfl
@[simp] theorem freeSlot_budget : (freeSlot i d).budget = d.budget := rfl
@[simp] theorem freeSlot_sched : (freeSlot i d).sched = d.sched := rfl
@[simp] theorem freeSlot_heater : (freeSlot i d).heater = d.heater := rfl
@[simp] theorem freeSlot_fridge : (freeSlot i d).fridge = d.fridge := rfl
@[simp] theorem freeSlot_lamps : (freeSlot i d).lamps = d.lamps := rfl
@[simp] theorem freeSlot_accounts : (freeSlot i d).accounts = d.accounts := rfl
@[simp] theorem freeSlot_plans : (freeSlot i d).plans = d.plans := rfl
@[simp] theorem freeSlot_vehicle : (freeSlot i d).vehicle = d.vehicle := rfl
@[simp] theorem freeSlot_leads : (freeSlot i d).leads = d.leads := rfl
@[simp] theorem freeSlot_table_queue :
    (freeSlot i d).table.queue = d.table.queue := rfl
@[simp] theorem freeSlot_table_counter :
    (freeSlot i d).table.counter = d.table.counter := rfl
@[simp] theorem freeSlot_table_causes :
    (freeSlot i d).table.causes = d.table.causes := rfl

end freeSlot

section leaveQueue

variable (h : Handle) (d : Device)

@[simp] theorem leaveQueue_inReset : (leaveQueue h d).inReset = d.inReset := rfl
@[simp] theorem leaveQueue_clock : (leaveQueue h d).clock = d.clock := rfl
@[simp] theorem leaveQueue_settings : (leaveQueue h d).settings = d.settings := rfl
@[simp] theorem leaveQueue_store : (leaveQueue h d).store = d.store := rfl
@[simp] theorem leaveQueue_link : (leaveQueue h d).link = d.link := rfl
@[simp] theorem leaveQueue_bank : (leaveQueue h d).bank = d.bank := rfl
@[simp] theorem leaveQueue_budget : (leaveQueue h d).budget = d.budget := rfl
@[simp] theorem leaveQueue_sched : (leaveQueue h d).sched = d.sched := rfl
@[simp] theorem leaveQueue_heater : (leaveQueue h d).heater = d.heater := rfl
@[simp] theorem leaveQueue_fridge : (leaveQueue h d).fridge = d.fridge := rfl
@[simp] theorem leaveQueue_lamps : (leaveQueue h d).lamps = d.lamps := rfl
@[simp] theorem leaveQueue_accounts : (leaveQueue h d).accounts = d.accounts := rfl
@[simp] theorem leaveQueue_plans : (leaveQueue h d).plans = d.plans := rfl
@[simp] theorem leaveQueue_vehicle : (leaveQueue h d).vehicle = d.vehicle := rfl
@[simp] theorem leaveQueue_leads : (leaveQueue h d).leads = d.leads := rfl
@[simp] theorem leaveQueue_table_slots :
    (leaveQueue h d).table.slots = d.table.slots := rfl
@[simp] theorem leaveQueue_table_counter :
    (leaveQueue h d).table.counter = d.table.counter := rfl
@[simp] theorem leaveQueue_table_causes :
    (leaveQueue h d).table.causes = d.table.causes := rfl

end leaveQueue

section updateStation

variable (st : Station) (f : StationLink → StationLink) (d : Device)

@[simp] theorem updateStation_inReset : (updateStation st f d).inReset = d.inReset := rfl
@[simp] theorem updateStation_clock : (updateStation st f d).clock = d.clock := rfl
@[simp] theorem updateStation_settings : (updateStation st f d).settings = d.settings := rfl
@[simp] theorem updateStation_store : (updateStation st f d).store = d.store := rfl
@[simp] theorem updateStation_table : (updateStation st f d).table = d.table := rfl
@[simp] theorem updateStation_bank : (updateStation st f d).bank = d.bank := rfl
@[simp] theorem updateStation_budget : (updateStation st f d).budget = d.budget := rfl
@[simp] theorem updateStation_sched : (updateStation st f d).sched = d.sched := rfl
@[simp] theorem updateStation_heater : (updateStation st f d).heater = d.heater := rfl
@[simp] theorem updateStation_fridge : (updateStation st f d).fridge = d.fridge := rfl
@[simp] theorem updateStation_lamps : (updateStation st f d).lamps = d.lamps := rfl
@[simp] theorem updateStation_accounts : (updateStation st f d).accounts = d.accounts := rfl
@[simp] theorem updateStation_plans : (updateStation st f d).plans = d.plans := rfl
@[simp] theorem updateStation_vehicle : (updateStation st f d).vehicle = d.vehicle := rfl
@[simp] theorem updateStation_leads : (updateStation st f d).leads = d.leads := rfl
@[simp] theorem updateStation_link_stations :
    (updateStation st f d).link.stations = d.link.stations.set (f (d.link.stations.get st)) st := rfl
@[simp] theorem updateStation_link_phase :
    (updateStation st f d).link.phase = d.link.phase := rfl
@[simp] theorem updateStation_link_pos :
    (updateStation st f d).link.pos = d.link.pos := rfl
@[simp] theorem updateStation_link_polled :
    (updateStation st f d).link.polled = d.link.polled := rfl
@[simp] theorem updateStation_link_pollFrame :
    (updateStation st f d).link.pollFrame = d.link.pollFrame := rfl
@[simp] theorem updateStation_link_answerFrame :
    (updateStation st f d).link.answerFrame = d.link.answerFrame := rfl

end updateStation

section raiseFlag

variable (f : Flags → Flags) (d : Device)

@[simp] theorem raiseFlag_inReset : (raiseFlag f d).inReset = d.inReset := rfl
@[simp] theorem raiseFlag_clock : (raiseFlag f d).clock = d.clock := rfl
@[simp] theorem raiseFlag_settings : (raiseFlag f d).settings = d.settings := rfl
@[simp] theorem raiseFlag_store : (raiseFlag f d).store = d.store := rfl
@[simp] theorem raiseFlag_table : (raiseFlag f d).table = d.table := rfl
@[simp] theorem raiseFlag_bank : (raiseFlag f d).bank = d.bank := rfl
@[simp] theorem raiseFlag_budget : (raiseFlag f d).budget = d.budget := rfl
@[simp] theorem raiseFlag_sched : (raiseFlag f d).sched = d.sched := rfl
@[simp] theorem raiseFlag_heater : (raiseFlag f d).heater = d.heater := rfl
@[simp] theorem raiseFlag_fridge : (raiseFlag f d).fridge = d.fridge := rfl
@[simp] theorem raiseFlag_lamps : (raiseFlag f d).lamps = d.lamps := rfl
@[simp] theorem raiseFlag_accounts : (raiseFlag f d).accounts = d.accounts := rfl
@[simp] theorem raiseFlag_plans : (raiseFlag f d).plans = d.plans := rfl
@[simp] theorem raiseFlag_vehicle : (raiseFlag f d).vehicle = d.vehicle := rfl
@[simp] theorem raiseFlag_leads : (raiseFlag f d).leads = d.leads := rfl
@[simp] theorem raiseFlag_link_stations :
    (raiseFlag f d).link.stations = d.link.stations.map (flagStation f) := rfl
@[simp] theorem raiseFlag_link_phase :
    (raiseFlag f d).link.phase = d.link.phase := rfl
@[simp] theorem raiseFlag_link_pos :
    (raiseFlag f d).link.pos = d.link.pos := rfl
@[simp] theorem raiseFlag_link_answerFrame :
    (raiseFlag f d).link.answerFrame = d.link.answerFrame := rfl

end raiseFlag

section setFailure

variable (k : FailureKind) (d : Device)

@[simp] theorem setFailure_inReset : (setFailure k d).inReset = d.inReset := rfl
@[simp] theorem setFailure_clock : (setFailure k d).clock = d.clock := rfl
@[simp] theorem setFailure_settings : (setFailure k d).settings = d.settings := rfl
@[simp] theorem setFailure_store : (setFailure k d).store = d.store := rfl
@[simp] theorem setFailure_table : (setFailure k d).table = d.table := rfl
@[simp] theorem setFailure_bank : (setFailure k d).bank = d.bank := rfl
@[simp] theorem setFailure_budget : (setFailure k d).budget = d.budget := rfl
@[simp] theorem setFailure_sched : (setFailure k d).sched = d.sched := rfl
@[simp] theorem setFailure_heater : (setFailure k d).heater = d.heater := rfl
@[simp] theorem setFailure_fridge : (setFailure k d).fridge = d.fridge := rfl
@[simp] theorem setFailure_lamps : (setFailure k d).lamps = d.lamps := rfl
@[simp] theorem setFailure_accounts : (setFailure k d).accounts = d.accounts := rfl
@[simp] theorem setFailure_plans : (setFailure k d).plans = d.plans := rfl
@[simp] theorem setFailure_vehicle : (setFailure k d).vehicle = d.vehicle := rfl
@[simp] theorem setFailure_leads : (setFailure k d).leads = d.leads := rfl
@[simp] theorem setFailure_link_stations :
    (setFailure k d).link.stations = d.link.stations.map (noteFailure k) := rfl
@[simp] theorem setFailure_link_phase :
    (setFailure k d).link.phase = d.link.phase := rfl

end setFailure

section noteFailure

variable (k : FailureKind) (p : StationLink)

@[simp] theorem noteFailure_link : (noteFailure k p).link = p.link := by unfold noteFailure; split <;> rfl
@[simp] theorem noteFailure_missed : (noteFailure k p).missed = p.missed := by unfold noteFailure; split <;> rfl
@[simp] theorem noteFailure_entries : (noteFailure k p).entries = p.entries := by unfold noteFailure; split <;> rfl
@[simp] theorem noteFailure_flags : (noteFailure k p).flags = p.flags := by unfold noteFailure; split <;> rfl

/-- A failure's kind is noted in a station that is ONLINE and in no other (R44). -/
theorem noteFailure_failure : (noteFailure k p).failure = if p.link = .online then k else p.failure := by
  unfold noteFailure; split <;> rfl

end noteFailure

section reportFailure

variable (k : FailureKind) (d : Device)

@[simp] theorem reportFailure_inReset : (reportFailure k d).inReset = d.inReset := rfl
@[simp] theorem reportFailure_clock : (reportFailure k d).clock = d.clock := rfl
@[simp] theorem reportFailure_settings : (reportFailure k d).settings = d.settings := rfl
@[simp] theorem reportFailure_store : (reportFailure k d).store = d.store := rfl
@[simp] theorem reportFailure_table : (reportFailure k d).table = d.table := rfl
@[simp] theorem reportFailure_bank : (reportFailure k d).bank = d.bank := rfl
@[simp] theorem reportFailure_budget : (reportFailure k d).budget = d.budget := rfl
@[simp] theorem reportFailure_sched : (reportFailure k d).sched = d.sched := rfl
@[simp] theorem reportFailure_heater : (reportFailure k d).heater = d.heater := rfl
@[simp] theorem reportFailure_fridge : (reportFailure k d).fridge = d.fridge := rfl
@[simp] theorem reportFailure_lamps : (reportFailure k d).lamps = d.lamps := rfl
@[simp] theorem reportFailure_accounts : (reportFailure k d).accounts = d.accounts := rfl
@[simp] theorem reportFailure_plans : (reportFailure k d).plans = d.plans := rfl
@[simp] theorem reportFailure_vehicle : (reportFailure k d).vehicle = d.vehicle := rfl
@[simp] theorem reportFailure_leads : (reportFailure k d).leads = d.leads := rfl
@[simp] theorem reportFailure_link_stations :
    (reportFailure k d).link.stations = (d.link.stations.map (noteFailure k)).map (flagStation heaterFlag) := rfl
@[simp] theorem reportFailure_link_phase :
    (reportFailure k d).link.phase = d.link.phase := rfl

end reportFailure

section answer

variable (st : Station) (ty : Byte) (c : AnswerCode) (b : List Byte) (d : Device)

@[simp] theorem answer_inReset : (answer st ty c b d).inReset = d.inReset := rfl
@[simp] theorem answer_clock : (answer st ty c b d).clock = d.clock := rfl
@[simp] theorem answer_settings : (answer st ty c b d).settings = d.settings := rfl
@[simp] theorem answer_store : (answer st ty c b d).store = d.store := rfl
@[simp] theorem answer_table : (answer st ty c b d).table = d.table := rfl
@[simp] theorem answer_bank : (answer st ty c b d).bank = d.bank := rfl
@[simp] theorem answer_budget : (answer st ty c b d).budget = d.budget := rfl
@[simp] theorem answer_sched : (answer st ty c b d).sched = d.sched := rfl
@[simp] theorem answer_heater : (answer st ty c b d).heater = d.heater := rfl
@[simp] theorem answer_fridge : (answer st ty c b d).fridge = d.fridge := rfl
@[simp] theorem answer_lamps : (answer st ty c b d).lamps = d.lamps := rfl
@[simp] theorem answer_accounts : (answer st ty c b d).accounts = d.accounts := rfl
@[simp] theorem answer_plans : (answer st ty c b d).plans = d.plans := rfl
@[simp] theorem answer_vehicle : (answer st ty c b d).vehicle = d.vehicle := rfl
@[simp] theorem answer_leads : (answer st ty c b d).leads = d.leads := rfl
@[simp] theorem answer_link_stations :
    (answer st ty c b d).link.stations = d.link.stations := rfl
@[simp] theorem answer_link_phase :
    (answer st ty c b d).link.phase = .ready := rfl
@[simp] theorem answer_link_answerFrame :
    (answer st ty c b d).link.answerFrame =
      frame false (stationAddress st) (answerType ty) (byte (answerCode c) :: b) := rfl
@[simp] theorem answer_link_pos :
    (answer st ty c b d).link.pos = d.link.pos := rfl
@[simp] theorem answer_link_polled :
    (answer st ty c b d).link.polled = d.link.polled := rfl
@[simp] theorem answer_link_pollFrame :
    (answer st ty c b d).link.pollFrame = d.link.pollFrame := rfl
@[simp] theorem answer_link_heldAnswer :
    (answer st ty c b d).link.heldAnswer = none := rfl

variable (sp : AnswerSpec)

/-- With no block waiting for the store an answer is sent at once. -/
theorem answerAfter_free (old : Device) (h : d.heater.waiting = false) :
    answerAfter old st ty c sp d = answer st ty c (specBytes d st sp) d := by simp [answerAfter, workStands, h]

/-- A request whose work stands with a heater that waits holds its answer, and the port goes on serving the station. -/
theorem answerAfter_stands (old : Device) (h : workStands old d = true) :
    answerAfter old st ty c sp d =
      setLink (fun l => { l with phase := .serving st, heldAnswer := some ⟨st, ty, c, sp⟩ }) d := by
  simp [answerAfter, h]

/-- What an answer leaves: it is sent, or it is held while the heater waits for the store. -/
theorem answerAfter_cases (old : Device) :
    answerAfter old st ty c sp d = answer st ty c (specBytes d st sp) d ∨
      (d.heater.waiting = true ∧
        (answerAfter old st ty c sp d).link.heldAnswer = some ⟨st, ty, c, sp⟩) := by
  unfold answerAfter workStands
  split
  · rename_i h
    simp only [Bool.and_eq_true] at h
    exact .inr ⟨h.1, rfl⟩
  · exact .inl rfl

end answer

section startCompressor

variable (d : Device)

@[simp] theorem startCompressor_inReset : (startCompressor d).inReset = d.inReset := rfl
@[simp] theorem startCompressor_clock : (startCompressor d).clock = d.clock := rfl
@[simp] theorem startCompressor_settings : (startCompressor d).settings = d.settings := rfl
@[simp] theorem startCompressor_store : (startCompressor d).store = d.store := rfl
@[simp] theorem startCompressor_link : (startCompressor d).link = d.link := rfl
@[simp] theorem startCompressor_table : (startCompressor d).table = d.table := rfl
@[simp] theorem startCompressor_bank : (startCompressor d).bank = d.bank := rfl
@[simp] theorem startCompressor_budget : (startCompressor d).budget = d.budget := rfl
@[simp] theorem startCompressor_sched : (startCompressor d).sched = d.sched := rfl
@[simp] theorem startCompressor_heater : (startCompressor d).heater = d.heater := rfl
@[simp] theorem startCompressor_lamps : (startCompressor d).lamps = d.lamps := rfl
@[simp] theorem startCompressor_accounts : (startCompressor d).accounts = d.accounts := rfl
@[simp] theorem startCompressor_plans : (startCompressor d).plans = d.plans := rfl
@[simp] theorem startCompressor_vehicle : (startCompressor d).vehicle = d.vehicle := rfl
@[simp] theorem startCompressor_leads : (startCompressor d).leads = d.leads := rfl
@[simp] theorem startCompressor_fridge :
    (startCompressor d).fridge = { d.fridge with state := .running, run := 0 } := rfl

end startCompressor

section stopCompressor

variable (d : Device)

@[simp] theorem stopCompressor_inReset : (stopCompressor d).inReset = d.inReset := rfl
@[simp] theorem stopCompressor_clock : (stopCompressor d).clock = d.clock := rfl
@[simp] theorem stopCompressor_settings : (stopCompressor d).settings = d.settings := rfl
@[simp] theorem stopCompressor_store : (stopCompressor d).store = d.store := rfl
@[simp] theorem stopCompressor_link : (stopCompressor d).link = d.link := rfl
@[simp] theorem stopCompressor_table : (stopCompressor d).table = d.table := rfl
@[simp] theorem stopCompressor_bank : (stopCompressor d).bank = d.bank := rfl
@[simp] theorem stopCompressor_budget : (stopCompressor d).budget = d.budget := rfl
@[simp] theorem stopCompressor_sched : (stopCompressor d).sched = d.sched := rfl
@[simp] theorem stopCompressor_heater : (stopCompressor d).heater = d.heater := rfl
@[simp] theorem stopCompressor_lamps : (stopCompressor d).lamps = d.lamps := rfl
@[simp] theorem stopCompressor_accounts : (stopCompressor d).accounts = d.accounts := rfl
@[simp] theorem stopCompressor_plans : (stopCompressor d).plans = d.plans := rfl
@[simp] theorem stopCompressor_vehicle : (stopCompressor d).vehicle = d.vehicle := rfl
@[simp] theorem stopCompressor_leads : (stopCompressor d).leads = d.leads := rfl
@[simp] theorem stopCompressor_fridge :
    (stopCompressor d).fridge = { d.fridge with state := .guard, guard := 0 } := rfl

end stopCompressor

section setOutlet

variable (d : Device)

@[simp] theorem setOutlet_inReset : (setOutlet d).inReset = d.inReset := rfl
@[simp] theorem setOutlet_clock : (setOutlet d).clock = d.clock := rfl
@[simp] theorem setOutlet_settings : (setOutlet d).settings = d.settings := rfl
@[simp] theorem setOutlet_store : (setOutlet d).store = d.store := rfl
@[simp] theorem setOutlet_link : (setOutlet d).link = d.link := rfl
@[simp] theorem setOutlet_table : (setOutlet d).table = d.table := rfl
@[simp] theorem setOutlet_bank : (setOutlet d).bank = d.bank := rfl
@[simp] theorem setOutlet_budget : (setOutlet d).budget = d.budget := rfl
@[simp] theorem setOutlet_heater : (setOutlet d).heater = d.heater := rfl
@[simp] theorem setOutlet_fridge : (setOutlet d).fridge = d.fridge := rfl
@[simp] theorem setOutlet_lamps : (setOutlet d).lamps = d.lamps := rfl
@[simp] theorem setOutlet_accounts : (setOutlet d).accounts = d.accounts := rfl
@[simp] theorem setOutlet_plans : (setOutlet d).plans = d.plans := rfl
@[simp] theorem setOutlet_vehicle : (setOutlet d).vehicle = d.vehicle := rfl
@[simp] theorem setOutlet_leads : (setOutlet d).leads = d.leads := rfl
@[simp] theorem setOutlet_sched_perm :
    (setOutlet d).sched.perm = d.sched.perm := rfl
@[simp] theorem setOutlet_sched_outletOn :
    (setOutlet d).sched.outletOn = d.sched.outletOn := rfl
@[simp] theorem setOutlet_sched_claim :
    (setOutlet d).sched.claim = d.sched.claim := rfl
@[simp] theorem setOutlet_sched_waiting :
    (setOutlet d).sched.waiting = d.sched.waiting := rfl
@[simp] theorem setOutlet_sched_slotIndex :
    (setOutlet d).sched.slotIndex = d.sched.slotIndex := rfl
@[simp] theorem setOutlet_sched_outletClosed :
    (setOutlet d).sched.outletClosed = (d.sched.perm.aux && d.sched.outletOn) := rfl

end setOutlet

section holdMsg

variable (m : HeaterMsg) (d : Device)

@[simp] theorem holdMsg_inReset : (holdMsg m d).inReset = d.inReset := rfl
@[simp] theorem holdMsg_clock : (holdMsg m d).clock = d.clock := rfl
@[simp] theorem holdMsg_settings : (holdMsg m d).settings = d.settings := rfl
@[simp] theorem holdMsg_store : (holdMsg m d).store = d.store := rfl
@[simp] theorem holdMsg_link : (holdMsg m d).link = d.link := rfl
@[simp] theorem holdMsg_table : (holdMsg m d).table = d.table := rfl
@[simp] theorem holdMsg_bank : (holdMsg m d).bank = d.bank := rfl
@[simp] theorem holdMsg_budget : (holdMsg m d).budget = d.budget := rfl
@[simp] theorem holdMsg_sched : (holdMsg m d).sched = d.sched := rfl
@[simp] theorem holdMsg_fridge : (holdMsg m d).fridge = d.fridge := rfl
@[simp] theorem holdMsg_lamps : (holdMsg m d).lamps = d.lamps := rfl
@[simp] theorem holdMsg_accounts : (holdMsg m d).accounts = d.accounts := rfl
@[simp] theorem holdMsg_plans : (holdMsg m d).plans = d.plans := rfl
@[simp] theorem holdMsg_vehicle : (holdMsg m d).vehicle = d.vehicle := rfl
@[simp] theorem holdMsg_leads : (holdMsg m d).leads = d.leads := rfl
@[simp] theorem holdMsg_heater :
    (holdMsg m d).heater = { d.heater with held := d.heater.held ++ [m] } := rfl

end holdMsg

section discardStart

variable (d : Device)

@[simp] theorem discardStart_inReset : (discardStart d).inReset = d.inReset := rfl
@[simp] theorem discardStart_clock : (discardStart d).clock = d.clock := rfl
@[simp] theorem discardStart_settings : (discardStart d).settings = d.settings := rfl
@[simp] theorem discardStart_store : (discardStart d).store = d.store := rfl
@[simp] theorem discardStart_link : (discardStart d).link = d.link := rfl
@[simp] theorem discardStart_table : (discardStart d).table = d.table := rfl
@[simp] theorem discardStart_bank : (discardStart d).bank = d.bank := rfl
@[simp] theorem discardStart_budget : (discardStart d).budget = d.budget := rfl
@[simp] theorem discardStart_sched : (discardStart d).sched = d.sched := rfl
@[simp] theorem discardStart_fridge : (discardStart d).fridge = d.fridge := rfl
@[simp] theorem discardStart_lamps : (discardStart d).lamps = d.lamps := rfl
@[simp] theorem discardStart_accounts : (discardStart d).accounts = d.accounts := rfl
@[simp] theorem discardStart_plans : (discardStart d).plans = d.plans := rfl
@[simp] theorem discardStart_vehicle : (discardStart d).vehicle = d.vehicle := rfl
@[simp] theorem discardStart_leads : (discardStart d).leads = d.leads := rfl
@[simp] theorem discardStart_heater :
    (discardStart d).heater = { d.heater with startTemp := none, glowFrames := 0 } := rfl

end discardStart

section setHeater

variable (st : HeaterState) (d : Device)

@[simp] theorem setHeater_inReset : (setHeater st d).inReset = d.inReset := rfl
@[simp] theorem setHeater_clock : (setHeater st d).clock = d.clock := rfl
@[simp] theorem setHeater_settings : (setHeater st d).settings = d.settings := rfl
@[simp] theorem setHeater_store : (setHeater st d).store = d.store := rfl
@[simp] theorem setHeater_table : (setHeater st d).table = d.table := rfl
@[simp] theorem setHeater_bank : (setHeater st d).bank = d.bank := rfl
@[simp] theorem setHeater_budget : (setHeater st d).budget = d.budget := rfl
@[simp] theorem setHeater_sched : (setHeater st d).sched = d.sched := rfl
@[simp] theorem setHeater_fridge : (setHeater st d).fridge = d.fridge := rfl
@[simp] theorem setHeater_lamps : (setHeater st d).lamps = d.lamps := rfl
@[simp] theorem setHeater_accounts : (setHeater st d).accounts = d.accounts := rfl
@[simp] theorem setHeater_plans : (setHeater st d).plans = d.plans := rfl
@[simp] theorem setHeater_vehicle : (setHeater st d).vehicle = d.vehicle := rfl
@[simp] theorem setHeater_leads : (setHeater st d).leads = d.leads := rfl
@[simp] theorem setHeater_heater_state :
    (setHeater st d).heater.state = st := rfl
@[simp] theorem setHeater_heater_stage :
    (setHeater st d).heater.stage = 0 := rfl
@[simp] theorem setHeater_heater_step :
    (setHeater st d).heater.step = heldStep st := rfl
@[simp] theorem setHeater_heater_claim :
    (setHeater st d).heater.claim = d.heater.claim := rfl
@[simp] theorem setHeater_heater_attempts :
    (setHeater st d).heater.attempts = d.heater.attempts := rfl
@[simp] theorem setHeater_heater_waiting :
    (setHeater st d).heater.waiting = d.heater.waiting := rfl
@[simp] theorem setHeater_heater_demand :
    (setHeater st d).heater.demand = d.heater.demand := rfl
@[simp] theorem setHeater_heater_fuel :
    (setHeater st d).heater.fuel = (st == .run) := rfl
@[simp] theorem setHeater_heater_plug :
    (setHeater st d).heater.plug = (d.heater.plug && (st == .preglow || st == .ignite)) := rfl

end setHeater

section changeLamp

variable (c : Channel) (f : Lamp → Lamp) (d : Device)

@[simp] theorem changeLamp_inReset : (changeLamp c f d).inReset = d.inReset := rfl
@[simp] theorem changeLamp_clock : (changeLamp c f d).clock = d.clock := rfl
@[simp] theorem changeLamp_settings : (changeLamp c f d).settings = d.settings := rfl
@[simp] theorem changeLamp_store : (changeLamp c f d).store = d.store := rfl
@[simp] theorem changeLamp_link : (changeLamp c f d).link = d.link := rfl
@[simp] theorem changeLamp_table : (changeLamp c f d).table = d.table := rfl
@[simp] theorem changeLamp_bank : (changeLamp c f d).bank = d.bank := rfl
@[simp] theorem changeLamp_budget : (changeLamp c f d).budget = d.budget := rfl
@[simp] theorem changeLamp_sched : (changeLamp c f d).sched = d.sched := rfl
@[simp] theorem changeLamp_heater : (changeLamp c f d).heater = d.heater := rfl
@[simp] theorem changeLamp_fridge : (changeLamp c f d).fridge = d.fridge := rfl
@[simp] theorem changeLamp_accounts : (changeLamp c f d).accounts = d.accounts := rfl
@[simp] theorem changeLamp_plans : (changeLamp c f d).plans = d.plans := rfl
@[simp] theorem changeLamp_vehicle : (changeLamp c f d).vehicle = d.vehicle := rfl
@[simp] theorem changeLamp_leads : (changeLamp c f d).leads = d.leads := rfl
@[simp] theorem changeLamp_lamps :
    (changeLamp c f d).lamps = d.lamps.set (formLamp d.budget.cap (f (d.lamps.get c))) c := rfl

end changeLamp

section applyCap

variable (d : Device)

@[simp] theorem applyCap_inReset : (applyCap d).inReset = d.inReset := rfl
@[simp] theorem applyCap_clock : (applyCap d).clock = d.clock := rfl
@[simp] theorem applyCap_settings : (applyCap d).settings = d.settings := rfl
@[simp] theorem applyCap_store : (applyCap d).store = d.store := rfl
@[simp] theorem applyCap_link : (applyCap d).link = d.link := rfl
@[simp] theorem applyCap_table : (applyCap d).table = d.table := rfl
@[simp] theorem applyCap_bank : (applyCap d).bank = d.bank := rfl
@[simp] theorem applyCap_budget : (applyCap d).budget = d.budget := rfl
@[simp] theorem applyCap_sched : (applyCap d).sched = d.sched := rfl
@[simp] theorem applyCap_heater : (applyCap d).heater = d.heater := rfl
@[simp] theorem applyCap_fridge : (applyCap d).fridge = d.fridge := rfl
@[simp] theorem applyCap_accounts : (applyCap d).accounts = d.accounts := rfl
@[simp] theorem applyCap_plans : (applyCap d).plans = d.plans := rfl
@[simp] theorem applyCap_vehicle : (applyCap d).vehicle = d.vehicle := rfl
@[simp] theorem applyCap_leads : (applyCap d).leads = d.leads := rfl
@[simp] theorem applyCap_lamps :
    (applyCap d).lamps = d.lamps.imap fun _ l => capLamp d.budget.cap l := rfl

end applyCap

/-! ## Meanings over the part -/

@[simp] theorem onPart_running (f : Device → Device) (s : State) (h : s.dev.inReset = false) :
    onPart f s = .next { s with dev := f s.dev } := by simp [onPart, h]

@[simp] theorem onPart_reset (f : Device → Device) (s : State) (h : s.dev.inReset = true) :
    onPart f s = .next s := by simp [onPart, h]

/-- A request in an open reply window is served for the polled station. -/
theorem serve_awaiting (f : Station → Device → Device) (d : Device) (st : Station) (c : Bool)
    (h : d.link.phase = .awaiting st c) :
    serve f d = f st (setLink (fun l => { l with phase := .serving st, ticks := 0 }) (updateStation st goodReply d)) := by
  simp [serve, h]

end Sys2Proof.Machine
end

