-- ==== Sys2Proof/Laws/Frames.lean ====
section
/-! SUPPORT. One lemma for each shared operation, saying which blocks it can change at most: every other block is the same
after it. `same_<operation>` is cited instead of unfolding the operation. -/

namespace Sys2Proof.Machine
open Sys2Proof

-- Proofs in turn, so that the joined text keeps to a few threads.
set_option Elab.async false

/-! ## The relation -/

theorem sameOn_refl (b : Block) (d : Device) : sameOn b d d := by cases b <;> rfl

theorem sameOn_trans {b : Block} {d e f : Device} (h : sameOn b d e) (k : sameOn b e f) : sameOn b d f := by
  cases b <;> exact Eq.trans k h

theorem same_refl (bs : List Block) (d : Device) : sameExcept bs d d := fun b _ => sameOn_refl b d

theorem same_mono {bs cs : List Block} {d e : Device} (h : sameExcept bs d e) (hs : bs ⊆ cs := by decide) :
    sameExcept cs d e := fun b hb => h b fun hm => hb (hs hm)

theorem same_trans {bs : List Block} {d e f : Device} (h : sameExcept bs d e) (k : sameExcept bs e f) :
    sameExcept bs d f := fun b hb => sameOn_trans (h b hb) (k b hb)

/-- A further operation that changes no more. -/
theorem same_then {bs cs : List Block} {d e f : Device} (h : sameExcept bs d e) (k : sameExcept cs e f)
    (hs : cs ⊆ bs := by decide) : sameExcept bs d f := same_trans h (same_mono k hs)

theorem same_ite {bs : List Block} {d e f : Device} {c : Prop} [Decidable c] (h : sameExcept bs d e)
    (k : sameExcept bs d f) : sameExcept bs d (if c then e else f) := by
  split <;> assumption

theorem same_foldl {α : Type} {bs : List Block} {f : Device → α → Device} (h : ∀ d a, sameExcept bs d (f d a)) :
    ∀ (l : List α) (d : Device), sameExcept bs d (l.foldl f d)
  | [], d => same_refl bs d
  | a :: l, d => same_trans (h d a) (same_foldl h l (f d a))

theorem same_inReset {bs : List Block} {d e : Device} (h : sameExcept bs d e) (hb : Block.inReset ∉ bs := by decide) :
    e.inReset = d.inReset := h .inReset hb
theorem same_clock {bs : List Block} {d e : Device} (h : sameExcept bs d e) (hb : Block.clock ∉ bs := by decide) :
    e.clock = d.clock := h .clock hb
theorem same_settings {bs : List Block} {d e : Device} (h : sameExcept bs d e) (hb : Block.settings ∉ bs := by decide) :
    e.settings = d.settings := h .settings hb
theorem same_store {bs : List Block} {d e : Device} (h : sameExcept bs d e) (hb : Block.store ∉ bs := by decide) :
    e.store = d.store := h .store hb
theorem same_link {bs : List Block} {d e : Device} (h : sameExcept bs d e) (hb : Block.link ∉ bs := by decide) :
    e.link = d.link := h .link hb
theorem same_table {bs : List Block} {d e : Device} (h : sameExcept bs d e) (hb : Block.table ∉ bs := by decide) :
    e.table = d.table := h .table hb
theorem same_bank {bs : List Block} {d e : Device} (h : sameExcept bs d e) (hb : Block.bank ∉ bs := by decide) :
    e.bank = d.bank := h .bank hb
theorem same_budget {bs : List Block} {d e : Device} (h : sameExcept bs d e) (hb : Block.budget ∉ bs := by decide) :
    e.budget = d.budget := h .budget hb
theorem same_sched {bs : List Block} {d e : Device} (h : sameExcept bs d e) (hb : Block.sched ∉ bs := by decide) :
    e.sched = d.sched := h .sched hb
theorem same_heater {bs : List Block} {d e : Device} (h : sameExcept bs d e) (hb : Block.heater ∉ bs := by decide) :
    e.heater = d.heater := h .heater hb
theorem same_fridge {bs : List Block} {d e : Device} (h : sameExcept bs d e) (hb : Block.fridge ∉ bs := by decide) :
    e.fridge = d.fridge := h .fridge hb
theorem same_lamps {bs : List Block} {d e : Device} (h : sameExcept bs d e) (hb : Block.lamps ∉ bs := by decide) :
    e.lamps = d.lamps := h .lamps hb
theorem same_accounts {bs : List Block} {d e : Device} (h : sameExcept bs d e) (hb : Block.accounts ∉ bs := by decide) :
    e.accounts = d.accounts := h .accounts hb
theorem same_plans {bs : List Block} {d e : Device} (h : sameExcept bs d e) (hb : Block.plans ∉ bs := by decide) :
    e.plans = d.plans := h .plans hb
theorem same_vehicle {bs : List Block} {d e : Device} (h : sameExcept bs d e) (hb : Block.vehicle ∉ bs := by decide) :
    e.vehicle = d.vehicle := h .vehicle hb
theorem same_leads {bs : List Block} {d e : Device} (h : sameExcept bs d e) (hb : Block.leads ∉ bs := by decide) :
    e.leads = d.leads := h .leads hb

/-- Two states that are definitionally the same in every block but those listed. -/
theorem same_of {bs : List Block} {d e : Device} (h : ∀ b, b ∉ bs → sameOn b d e) : sameExcept bs d e := h

/-! ## The demand table's and the port's own updates -/

theorem same_putRecord (h : Handle) (r : Record) (d : Device) : sameExcept [.table] d (putRecord h r d) := by
  intro b hb; cases b <;> first | rfl | exact absurd (by decide) hb

theorem same_freeSlot (i : Nat) (d : Device) : sameExcept [.table] d (freeSlot i d) := by
  intro b hb; cases b <;> first | rfl | exact absurd (by decide) hb

theorem same_leaveQueue (h : Handle) (d : Device) : sameExcept [.table] d (leaveQueue h d) := by
  intro b hb; cases b <;> first | rfl | exact absurd (by decide) hb

theorem same_joinQueue (h : Handle) (d : Device) : sameExcept [.table] d (joinQueue h d) := by
  unfold joinQueue
  refine same_ite (same_refl _ d) ?_
  intro b hb; cases b <;> first | rfl | exact absurd (by decide) hb

theorem same_takeSequence (d : Device) : sameExcept [.table] d (takeSequence d) := by
  unfold takeSequence renumber
  intro b hb; dsimp only; split <;> cases b <;> first | rfl | exact absurd (by decide) hb

theorem same_updateStation (st : Station) (f : StationLink → StationLink) (d : Device) :
    sameExcept [.link] d (updateStation st f d) := by
  intro b hb; cases b <;> first | rfl | exact absurd (by decide) hb

theorem same_raiseFlag (f : Flags → Flags) (d : Device) : sameExcept [.link] d (raiseFlag f d) := by
  intro b hb; cases b <;> first | rfl | exact absurd (by decide) hb

theorem same_setFailure (k : FailureKind) (d : Device) : sameExcept [.link] d (setFailure k d) := by
  intro b hb; cases b <;> first | rfl | exact absurd (by decide) hb

theorem same_reportFailure (k : FailureKind) (d : Device) : sameExcept [.link] d (reportFailure k d) :=
  same_trans (same_setFailure k d) (same_raiseFlag _ _)

theorem same_setLink (f : Link → Link) (d : Device) : sameExcept [.link] d (setLink f d) := by
  intro b hb; cases b <;> first | rfl | exact absurd (by decide) hb

theorem same_answer (st : Station) (ty : Byte) (c : AnswerCode) (body : List Byte) (d : Device) :
    sameExcept [.link] d (answer st ty c body d) := same_setLink _ d

/-- An answer that may be held changes the link port alone. -/
theorem same_answerAfter (old : Device) (st : Station) (ty : Byte) (c : AnswerCode) (spec : AnswerSpec) (d : Device) :
    sameExcept [.link] d (answerAfter old st ty c spec d) := by
  unfold answerAfter
  split
  · exact same_setLink _ d
  · exact same_answer st ty c _ d

theorem same_releaseAnswer (d : Device) : sameExcept [.link] d (releaseAnswer d) := by
  unfold releaseAnswer
  split
  · split
    · exact same_refl _ d
    · exact same_answer _ _ _ _ d
  · exact same_refl _ d

theorem same_refuse (st : Station) (ty : Byte) (c : AnswerCode) (d : Device) :
    sameExcept [.link] d (refuse st ty c d) := same_answer st ty c [] d

theorem same_mark (h : Handle) (d : Device) : sameExcept [.link] d (mark h d) := by
  unfold mark
  split
  · exact same_refl _ d
  · split
    · split
      · exact same_updateStation _ _ d
      · exact same_refl _ d
    · exact same_refl _ d

theorem same_revise (h : Handle) (f : Record → Record) (d : Device) : sameExcept [.table, .link] d (revise h f d) := by
  unfold revise
  split
  · exact same_ite (same_refl _ d) (same_then (same_mono (same_putRecord h _ d)) (same_mark h _))
  · exact same_refl _ d

/-! ## Lanes -/

theorem same_setSched (f : Sched → Sched) (d : Device) : sameExcept [.sched] d (setSched f d) := by
  intro b hb; cases b <;> first | rfl | exact absurd (by decide) hb

theorem same_setHeat (f : Heater → Heater) (d : Device) : sameExcept [.heater] d (setHeat f d) := by
  intro b hb; cases b <;> first | rfl | exact absurd (by decide) hb

theorem same_setFridge (f : Fridge → Fridge) (d : Device) : sameExcept [.fridge] d (setFridge f d) := by
  intro b hb; cases b <;> first | rfl | exact absurd (by decide) hb

theorem same_setBank (f : Bank → Bank) (d : Device) : sameExcept [.bank] d (setBank f d) := by
  intro b hb; cases b <;> first | rfl | exact absurd (by decide) hb

theorem same_setVehicle (f : Vehicle → Vehicle) (d : Device) : sameExcept [.vehicle] d (setVehicle f d) := by
  intro b hb; cases b <;> first | rfl | exact absurd (by decide) hb

theorem same_setBudget (f : Budget → Budget) (d : Device) : sameExcept [.budget] d (setBudget f d) := by
  intro b hb; cases b <;> first | rfl | exact absurd (by decide) hb

theorem same_setUnit (dr : Driver) (f : PlanUnit → PlanUnit) (d : Device) : sameExcept [.plans] d (setUnit dr f d) := by
  intro b hb; cases b <;> first | rfl | exact absurd (by decide) hb

theorem same_setAccount (dr : Driver) (f : Account → Account) (d : Device) :
    sameExcept [.accounts] d (setAccount dr f d) := by
  intro b hb; cases b <;> first | rfl | exact absurd (by decide) hb

theorem same_setOutlet (d : Device) : sameExcept [.sched] d (setOutlet d) := by
  intro b hb; cases b <;> first | rfl | exact absurd (by decide) hb

theorem same_dropStep (d : Device) : sameExcept [.heater] d (dropStep d) := by
  unfold dropStep
  refine same_ite ?_ (same_refl _ d)
  intro b hb; cases b <;> first | rfl | exact absurd (by decide) hb

theorem same_startCompressor (d : Device) : sameExcept [.fridge] d (startCompressor d) := by
  intro b hb; cases b <;> first | rfl | exact absurd (by decide) hb

theorem same_stopCompressor (d : Device) : sameExcept [.fridge] d (stopCompressor d) := by
  intro b hb; cases b <;> first | rfl | exact absurd (by decide) hb

theorem same_forceStop (d : Device) : sameExcept [.fridge] d (forceStop d) := by
  unfold forceStop
  exact same_ite (same_stopCompressor d) (same_refl _ d)

theorem same_grantCool (d : Device) : sameExcept [.fridge] d (grantCool d) := by
  unfold grantCool
  exact same_ite (same_startCompressor d) (same_refl _ d)

theorem same_withdraw (new : PerLane Bool) (d : Device) :
    sameExcept [.sched, .heater, .fridge] d (withdraw new d) := by
  unfold withdraw
  dsimp only
  refine same_then ?_ (same_setOutlet _)
  refine same_trans ?_ (same_ite (same_mono (same_forceStop _)) (same_refl _ _))
  refine same_trans ?_ (same_ite (same_mono (same_dropStep _)) (same_refl _ _))
  intro b hb; cases b <;> first | rfl | exact absurd (by decide) hb

theorem same_bestow (new : PerLane Bool) (d : Device) : sameExcept [.sched, .heater, .fridge] d (bestow new d) := by
  unfold bestow
  dsimp only
  refine same_then ?_ (same_setOutlet _)
  refine same_trans ?_ (same_ite (same_mono (same_grantCool _)) (same_refl _ _))
  intro b hb; cases b <;> first | rfl | exact absurd (by decide) hb

theorem same_formPermissions (d : Device) : sameExcept [.sched, .heater, .fridge] d (formPermissions d) := by
  unfold formPermissions
  exact same_trans (same_withdraw _ d) (same_bestow _ _)

theorem same_handOutlet (on : Bool) (d : Device) : sameExcept [.sched] d (handOutlet on d) := by
  have h : sameExcept [.sched] d { d with sched := { d.sched with outletOn := on } } := by
    intro b hb; cases b <;> first | rfl | exact absurd (by decide) hb
  exact same_trans h (same_setOutlet _)

theorem same_reportClaim (d : Device) : sameExcept [.heater] d (reportClaim d) := by
  unfold reportClaim
  refine same_ite ?_ (same_refl _ d)
  intro b hb; cases b <;> first | rfl | exact absurd (by decide) hb

theorem same_takeClaim (d : Device) : sameExcept [.sched, .heater, .fridge] d (takeClaim d) := by
  unfold takeClaim
  refine same_then (same_trans ?_ (same_formPermissions _)) (same_reportClaim _)
  intro b hb; cases b <;> first | rfl | exact absurd (by decide) hb

theorem same_releaseClaim (d : Device) : sameExcept [.sched, .heater, .fridge] d (releaseClaim d) := by
  unfold releaseClaim
  refine same_trans ?_ (same_formPermissions _)
  intro b hb; cases b <;> first | rfl | exact absurd (by decide) hb

theorem same_setHeater (st : HeaterState) (d : Device) : sameExcept [.heater, .link] d (setHeater st d) := by
  intro b hb; cases b <;> first | rfl | exact absurd (by decide) hb

theorem same_discardStart (d : Device) : sameExcept [.heater] d (discardStart d) := by
  intro b hb; cases b <;> first | rfl | exact absurd (by decide) hb

theorem same_enterPrecheck (d : Device) : sameExcept [.heater, .link] d (enterPrecheck d) := by
  intro b hb; cases b <;> first | rfl | exact absurd (by decide) hb

theorem same_enterPurge (c : PurgeCause) (d : Device) : sameExcept [.heater, .link] d (enterPurge c d) := by
  intro b hb; cases b <;> first | rfl | exact absurd (by decide) hb

/-- The blocks that a stop, a demand or a voltage state can reach through the heater. -/
abbrev heaterBlocks : List Block := [.sched, .heater, .fridge, .link]

theorem same_stopHeater (d : Device) : sameExcept heaterBlocks d (stopHeater d) := by
  unfold stopHeater
  split
  · exact same_refl _ d
  · exact same_refl _ d
  · exact same_refl _ d
  · exact same_then (same_mono (same_discardStart d)) (same_setHeater _ _)
  · exact same_then (same_mono (same_discardStart d)) (same_setHeater _ _)
  · exact same_then (same_mono (same_releaseClaim d)) (same_setHeater _ _)
  · exact same_then (same_mono (same_releaseClaim d)) (same_enterPurge _ _)
  · exact same_mono (same_enterPurge _ _)
  · exact same_mono (same_setHeater _ _)

theorem same_demandHeat (d : Device) : sameExcept heaterBlocks d (demandHeat d) := by
  unfold demandHeat
  exact same_ite (same_mono (same_enterPrecheck d)) (same_refl _ d)

theorem same_voltageHeater (v : VState) (d : Device) : sameExcept heaterBlocks d (voltageHeater v d) := by
  unfold voltageHeater
  split
  · exact same_stopHeater d
  · exact same_ite (same_then (same_mono (same_discardStart d)) (same_enterPrecheck _)) (same_mono (same_dropStep d))
  · exact same_ite (same_then (same_mono (same_discardStart d)) (same_enterPrecheck _)) (same_refl _ d)
  · exact same_refl _ d

theorem same_holdMsg (m : HeaterMsg) (d : Device) : sameExcept [.heater] d (holdMsg m d) := by
  intro b hb; cases b <;> first | rfl | exact absurd (by decide) hb

theorem same_sendStop (d : Device) : sameExcept heaterBlocks d (sendStop d) := by
  unfold sendStop
  exact same_ite (same_mono (same_holdMsg _ d)) (same_stopHeater d)

theorem same_sendDemand (d : Device) : sameExcept heaterBlocks d (sendDemand d) := by
  unfold sendDemand
  exact same_ite (same_mono (same_holdMsg _ d)) (same_demandHeat d)

theorem same_sendVoltage (v : VState) (d : Device) : sameExcept heaterBlocks d (sendVoltage v d) := by
  unfold sendVoltage
  exact same_ite (same_mono (same_trans (same_ite (same_dropStep d) (same_refl _ d)) (same_holdMsg _ _)))
    (same_voltageHeater v d)

theorem same_coolGone (d : Device) : sameExcept [.fridge] d (coolGone d) := by
  unfold coolGone
  dsimp only
  intro b hb
  split <;> cases b <;> first | rfl | exact absurd (by decide) hb

theorem same_coolArrives (d : Device) : sameExcept [.fridge] d (coolArrives d) := by
  unfold coolArrives
  refine same_ite ?_ (same_refl _ d)
  intro b hb; cases b <;> first | rfl | exact absurd (by decide) hb

/-! ## Lamps and effective values -/

theorem same_changeLamp (c : Channel) (f : Lamp → Lamp) (d : Device) : sameExcept [.lamps] d (changeLamp c f d) := by
  intro b hb; cases b <;> first | rfl | exact absurd (by decide) hb

theorem same_applyCap (d : Device) : sameExcept [.lamps] d (applyCap d) := by
  intro b hb; cases b <;> first | rfl | exact absurd (by decide) hb

theorem same_rampStart (dr : Driver) (cs : PerChannel Bool) (n : Nat) (d : Device) :
    sameExcept [.lamps] d (rampStart dr cs n d) := by
  intro b hb; cases b <;> first | rfl | exact absurd (by decide) hb

theorem same_rampLevel (dr : Driver) (n : Nat) (d : Device) : sameExcept [.lamps] d (rampLevel dr n d) := by
  intro b hb; cases b <;> first | rfl | exact absurd (by decide) hb

theorem same_rampEnd (dr : Driver) (d : Device) : sameExcept [.lamps] d (rampEnd dr d) := by
  intro b hb; cases b <;> first | rfl | exact absurd (by decide) hb

theorem same_pushHeat (d : Device) : sameExcept heaterBlocks d (pushHeat d) := by
  have h : ∀ n, sameExcept heaterBlocks d { d with heater := { d.heater with demand := n } } := by
    intro n b hb; cases b <;> first | rfl | exact absurd (by decide) hb
  unfold pushHeat
  dsimp only
  split
  · exact same_trans (h _) (same_sendDemand _)
  · exact same_trans (h _) (same_sendStop _)
  · exact h _

theorem same_pushCool (d : Device) : sameExcept [.fridge] d (pushCool d) := by
  have h : ∀ n, sameExcept [.fridge] d { d with fridge := { d.fridge with target := n } } := by
    intro n b hb; cases b <;> first | rfl | exact absurd (by decide) hb
  unfold pushCool
  dsimp only
  split
  · exact same_trans (h _) (same_coolArrives _)
  · exact same_trans (h _) (same_coolGone _)
  · exact h _

/-- The blocks that a hand-over of an effective value can reach. -/
abbrev valueBlocks : List Block := [.sched, .heater, .fridge, .link, .lamps]

theorem same_pushValue (fn : Fn) (d : Device) : sameExcept valueBlocks d (pushValue fn d) := by
  unfold pushValue
  split
  · exact same_mono (same_pushHeat d)
  · exact same_mono (same_pushCool d)
  · exact same_mono (same_changeLamp _ _ d)
  · exact same_mono (same_handOutlet _ d)
  · exact same_refl _ d

/-- The blocks that a change of a record or of a cause can reach. -/
abbrev recordBlocks : List Block := [.table, .link, .sched, .heater, .fridge, .lamps]

theorem same_applyMap (fn : Fn) (d : Device) : sameExcept recordBlocks d (applyMap fn d) := by
  unfold applyMap
  exact same_then (same_foldl (fun d h => same_mono (same_revise h _ d)) _ d) (same_pushValue fn _)

theorem same_setCause (fn : Fn) (f : CauseSet → CauseSet) (d : Device) :
    sameExcept recordBlocks d (setCause fn f d) := by
  unfold setCause
  dsimp only
  refine same_ite (same_refl _ d) (same_trans ?_ (same_applyMap fn _))
  intro b hb; cases b <;> first | rfl | exact absurd (by decide) hb

/-- A channel whose target has just been formed meets R149. -/
theorem formLamp_formed (cap : Nat) (l : Lamp) : LampFormed cap (formLamp cap l) := by
  refine ⟨fun n => ?_, fun h => Nat.min_eq_left h, fun h => Nat.min_eq_right (Nat.le_of_lt h)⟩
  show targetBefore l = n ↔ _
  cases hf : l.fault
  · have e : targetBefore l = max l.effective (max (l.ramp.one.getD 0) (l.ramp.two.getD 0)) := by simp [targetBefore, hf]
    rw [e]
    refine ⟨fun h => .inr ⟨by simpa [formLamp] using hf, ?_, fun dr x hx => ?_, ?_⟩, fun h => ?_⟩
    · exact h ▸ Nat.le_max_left _ _
    · cases dr
      · have h1 : l.ramp.one = some x := hx
        simp [h1] at h; omega
      · have h2 : l.ramp.two = some x := hx
        simp [h2] at h; omega
    · rcases h1 : l.ramp.one with _ | x <;> rcases h2 : l.ramp.two with _ | y <;> simp only [h1, h2, Option.getD] at h
      · exact .inl (by simpa [formLamp] using h.symm)
      · by_cases g : n = l.effective
        · exact .inl g
        · refine .inr ⟨.two, ?_⟩
          show l.ramp.two = some n
          rw [h2]; congr 1; omega
      · by_cases g : n = l.effective
        · exact .inl g
        · refine .inr ⟨.one, ?_⟩
          show l.ramp.one = some n
          rw [h1]; congr 1; omega
      · by_cases g : n = l.effective
        · exact .inl g
        · by_cases k : n = x
          · exact .inr ⟨.one, by show l.ramp.one = some n; rw [h1, k]⟩
          · refine .inr ⟨.two, ?_⟩
            show l.ramp.two = some n
            rw [h2]; congr 1; omega
    · rcases h with ⟨k, _⟩ | ⟨_, a, b, c⟩
      · exact absurd (show l.fault = true from k) (by simp [hf])
      · have b1 := b .one
        have b2 := b .two
        change ∀ x, l.ramp.one = some x → x ≤ n at b1
        change ∀ x, l.ramp.two = some x → x ≤ n at b2
        change l.effective ≤ n at a
        have c' : n = l.effective ∨ l.ramp.one = some n ∨ l.ramp.two = some n := by
          rcases c with c | ⟨dr, c⟩
          · exact .inl c
          · cases dr
            · exact .inr (.inl c)
            · exact .inr (.inr c)
        rcases h1 : l.ramp.one with _ | x <;> rcases h2 : l.ramp.two with _ | y <;>
          simp only [h1, h2, Option.getD, Option.some.injEq, reduceCtorEq, false_or, or_false, forall_eq', false_implies,
            implies_true] at * <;> omega
  · have e : targetBefore l = 0 := by simp [targetBefore, hf]
    rw [e]
    refine ⟨fun h => .inl ⟨hf, h.symm⟩, fun h => ?_⟩
    rcases h with ⟨_, k⟩ | ⟨k, _⟩
    · exact k.symm
    · exact absurd (show l.fault = false from k) (by simp [hf])

/-! ## The budget unit -/

/-- The blocks that a recomputation can reach. -/
abbrev budgetBlocks : List Block := [.table, .link, .sched, .heater, .fridge, .lamps, .budget]

theorem same_onLanes {bs : List Block} (f : Lane → Device → Device) (h : ∀ l d, sameExcept bs d (f l d)) (d : Device) :
    sameExcept bs d (onLanes f d) := same_trans (same_trans (h _ d) (h _ _)) (h _ _)

theorem same_syncBudgetCause (m : PerLane LaneMode) (d : Device) :
    sameExcept recordBlocks d (syncBudgetCause m d) := same_onLanes _ (fun _ d => same_setCause _ _ d) d

theorem same_enterCutoff (d : Device) : sameExcept budgetBlocks d (enterCutoff d) := by
  unfold enterCutoff
  refine same_then ?_ (same_setBudget _ _)
  exact same_trans (same_onLanes _ (fun _ d => same_mono (same_setCause _ _ d)) d)
    (same_onLanes _ (fun _ d => same_mono (same_setCause _ _ d)) _)

theorem same_leaveCutoff (d : Device) : sameExcept budgetBlocks d (leaveCutoff d) := by
  unfold leaveCutoff
  refine same_trans ?_ (same_onLanes _ (fun _ d => same_mono (same_setCause _ _ d)) _)
  exact same_then (same_mono (same_setBudget _ d)) (same_syncBudgetCause _ _)

theorem same_enterCharging (d : Device) : sameExcept recordBlocks d (enterCharging d) :=
  same_onLanes _ (fun _ d => same_setCause _ _ d) d

theorem same_takeRegime (g : Option BudgetMode) (d : Device) : sameExcept budgetBlocks d (takeRegime g d) := by
  unfold takeRegime
  split
  · exact same_ite (same_refl _ d) (same_enterCutoff d)
  · exact same_then (same_trans (same_ite (same_leaveCutoff d) (same_refl _ d))
      (same_ite (same_mono (same_enterCharging _)) (same_refl _ _))) (same_setBudget _ _)

theorem same_advance (g : Option BudgetMode) (d : Device) : sameExcept [.budget] d (advance g d) := by
  unfold advance
  split
  · exact same_setBudget _ d
  · exact same_setBudget _ d
  · exact same_refl _ d

theorem same_setAtRisk (d : Device) : sameExcept [.table, .link] d (setAtRisk d) := by
  unfold setAtRisk
  exact same_foldl (fun d (hr : Handle × Record) => same_revise hr.1 _ d) _ d

theorem same_handModes (m : PerLane LaneMode) (d : Device) : sameExcept budgetBlocks d (handModes m d) := by
  unfold handModes
  dsimp only
  have h := same_then (same_mono (same_setBudget (fun b => { b with modes := m }) d)) (same_formPermissions _)
    (bs := budgetBlocks)
  exact same_ite (same_refl _ d) (same_ite (same_then h (same_sendStop _)) h)

theorem same_handCap (c : Nat) (d : Device) : sameExcept [.budget, .lamps] d (handCap c d) := by
  unfold handCap
  exact same_ite (same_refl _ d) (same_then (same_mono (same_setBudget _ d)) (same_applyCap _))

theorem same_handOn (d : Device) : sameExcept budgetBlocks d (handOn d) := by
  unfold handOn
  dsimp only
  refine same_ite ?_ ?_
  · exact same_then (same_handModes _ d) (same_handCap _ _)
  · exact same_then (same_then (same_handModes _ d) (same_handCap _ _)) (same_syncBudgetCause _ _)

theorem same_storeProjection (p : Projection) (d : Device) : sameExcept [.budget] d (storeProjection p d) :=
  same_setBudget _ d

theorem same_recomputeCore (d : Device) : sameExcept budgetBlocks d (recomputeCore d) := by
  unfold recomputeCore
  dsimp only
  refine same_then ?_ (same_storeProjection _ _)
  refine same_trans ?_ (same_handOn _)
  refine same_then ?_ (same_setAtRisk _)
  exact same_then (same_takeRegime _ d) (same_advance _ _)

theorem same_withBudgetNotice {bs : List Block} (f : Device → Device) (d : Device) (h : sameExcept bs d (f d))
    (hs : [Block.link] ⊆ bs := by decide) : sameExcept bs d (withBudgetNotice f d) := by
  unfold withBudgetNotice
  exact same_ite h (same_then h (same_raiseFlag _ _) hs)

/-- A recomputation leaves clock, settings, store, bank, accounts, plans, vehicle port and leads as they are (R79). -/
theorem same_recompute (d : Device) : sameExcept budgetBlocks d (recompute d) :=
  same_withBudgetNotice _ d (same_recomputeCore d)

theorem same_setCauseAndRecompute (fn : Fn) (f : CauseSet → CauseSet) (d : Device) :
    sameExcept budgetBlocks d (setCauseAndRecompute fn f d) := by
  unfold setCauseAndRecompute
  exact same_ite (same_mono (same_setCause fn f d)) (same_then (same_mono (same_setCause fn f d)) (same_recompute _))

theorem same_rebuildLadder (d : Device) : sameExcept [.budget] d (rebuildLadder d) := same_setBudget _ d

theorem same_grant (h : Handle) (w : Reason) (d : Device) : sameExcept recordBlocks d (grant h w d) := by
  unfold grant
  split
  · exact same_then (same_then (same_mono (same_leaveQueue h d)) (same_revise h _ _)) (same_pushValue _ _)
  · exact same_refl _ d

theorem same_defer (h : Handle) (w : Reason) (d : Device) : sameExcept [.table, .link] d (defer h w d) := by
  unfold defer
  split
  · exact same_then (same_revise h _ d) (same_joinQueue h _)
  · exact same_refl _ d

theorem same_admission (h : Handle) (l : Lane) (c : Class) (d : Device) :
    sameExcept budgetBlocks d (admission h l c d) := by
  unfold admission
  split
  · exact same_then (same_mono (same_grant h _ d)) (same_recompute _)
  · exact same_mono (same_defer h _ d)

theorem same_startRecord (h : Handle) (d : Device) : sameExcept budgetBlocks d (startRecord h d) := by
  unfold startRecord
  split
  · split
    · exact same_admission _ _ _ d
    · exact same_mono (same_grant _ _ d)
  · exact same_refl _ d

theorem same_restore (d : Device) : sameExcept budgetBlocks d (restore d) := by
  unfold restore
  exact same_ite (same_then (same_mono (same_setBudget _ d)) (same_recomputeCore _)) (same_refl _ d)

theorem same_admissionPass : ∀ (q : List Handle) (d : Device), sameExcept budgetBlocks d (admissionPass q d)
  | [], d => same_refl _ d
  | h :: hs, d => by
    unfold admissionPass
    split
    · split
      · refine same_ite (same_admissionPass hs d) (same_ite ?_ (same_refl _ d))
        exact same_trans (same_then (same_mono (same_grant h _ d)) (same_recomputeCore _)) (same_admissionPass hs _)
      · exact same_admissionPass hs d
    · exact same_admissionPass hs d

theorem same_frameWork (d : Device) : sameExcept budgetBlocks d (frameWork d) := by
  refine same_withBudgetNotice _ d ?_
  exact same_trans (same_trans (same_recomputeCore d) (same_restore _)) (same_admissionPass _ _)

end Sys2Proof.Machine
end

