-- ==== Sys2Proof/Laws/PerInstr.lean ====
section
/-! SUPPORT. The family `Encodes`: decoding the type and body of a request gives the request back, one lemma per
constructor of `Instr`. A command that is no request, or a request with a body that its type does not allow, has no
encoding. -/

namespace Sys2Proof.Laws.Encodes
open Sys2Proof Sys2Proof.Machine

-- Proofs in turn, so that the joined text keeps to a few threads.
set_option Elab.async false

/-- Whatever type and body encode a well-formed command, they decode to it. -/
def Statement (i : Instr) : Prop :=
  i.wf = true → ∀ ty body, encodeBody i = some (ty, body) → decodeBody ty body = i

/-! ## Fields -/

theorem word16_bytes (w : Word16) : word16 (byte (w.toNat / 256)) (byte w.toNat) = w := by
  apply BitVec.eq_of_toNat_eq
  have := w.isLt
  simp only [word16, byte, BitVec.toNat_append, BitVec.toNat_ofNat]
  rw [← Nat.shiftLeft_add_eq_or_of_lt (by omega), Nat.shiftLeft_eq]
  omega

theorem word32_bytes (w : Word32) :
    word32 (byte (w.toNat / 16777216)) (byte (w.toNat / 65536)) (byte (w.toNat / 256)) (byte w.toNat) = w := by
  apply BitVec.eq_of_toNat_eq
  have := w.isLt
  simp only [word32, byte, BitVec.toNat_append, BitVec.toNat_ofNat]
  rw [← Nat.shiftLeft_add_eq_or_of_lt (b := w.toNat / 65536 % 2 ^ 8) (by omega),
    ← Nat.shiftLeft_add_eq_or_of_lt (b := w.toNat % 2 ^ 8) (by omega),
    ← Nat.shiftLeft_add_eq_or_of_lt (by simp only [Nat.shiftLeft_eq]; omega)]
  simp only [Nat.shiftLeft_eq]
  omega

theorem fields_decode (k : Byte) (f : KindFields) (h : shapeFits k f = true) :
    decodeFields k (encodeFields f) = some f := by
  unfold shapeFits at h
  unfold decodeFields encodeFields
  split at h <;> simp_all [bytes16, be16, word16_bytes]

/-- A command without an encoding. -/
theorem nofun_enc {i : Instr} (h : encodeBody i = none) : Statement i := by
  intro _ ty body h'
  rw [h] at h'
  cases h'

/-- A command whose encoding is known, and that decodes where it is well-formed. -/
theorem of_wf {i : Instr} {ty : Byte} {body : List Byte} (h : encodeBody i = some (ty, body))
    (hd : i.wf = true → decodeBody ty body = i) : Statement i := by
  intro hw ty' body' h'
  rw [h] at h'
  cases h'
  exact hd hw

/-- A command whose encoding is known. -/
theorem of_encoding {i : Instr} {ty : Byte} {body : List Byte} (h : encodeBody i = some (ty, body))
    (hd : decodeBody ty body = i) : Statement i := of_wf h fun _ => hd

/-! ## One lemma per constructor -/

theorem powerOn (okA : Bool) (okB : Bool) : Statement (.powerOn okA okB) := nofun_enc rfl

theorem reset : Statement (.reset) := nofun_enc rfl

theorem storeWriteComplete : Statement (.storeWriteComplete) := nofun_enc rfl

theorem pollSend : Statement (.pollSend) := nofun_enc rfl

theorem cyclePauseEnd : Statement (.cyclePauseEnd) := nofun_enc rfl

theorem idleReply : Statement (.idleReply) := by
  exact of_encoding rfl rfl

theorem pollMissed : Statement (.pollMissed) := nofun_enc rfl

theorem unknownRequest (type : Byte) : Statement (.unknownRequest type) := nofun_enc rfl

theorem lookupByHandle (handle : Option Word16) : Statement (.lookupByHandle handle) := by
  cases handle with
  | none => exact nofun_enc rfl
  | some x => exact of_encoding rfl (by simp [decodeBody, decodeLookup, bytes16, be16, word16_bytes])

theorem lookupByFunction (query : Option FnQuery) : Statement (.lookupByFunction query) := by
  cases query with
  | none => exact nofun_enc rfl
  | some x => exact of_encoding rfl (by rfl)

theorem lookupOwnRecords (first : Option Byte) : Statement (.lookupOwnRecords first) := by
  cases first with
  | none => exact nofun_enc rfl
  | some x => exact of_encoding rfl (by rfl)

theorem create (body : Option CreateBody) : Statement (.create body) := by
  cases body with
  | none => exact nofun_enc rfl
  | some b =>
    refine of_wf rfl fun hw => ?_
    simp [decodeBody, decodeCreate, encodeCreate, bytes16, be16, word16_bytes, fields_decode _ _ hw]

theorem amend (body : Option AmendBody) : Statement (.amend body) := by
  cases body with
  | none => exact nofun_enc rfl
  | some b =>
    refine of_wf rfl fun hw => ?_
    simp [decodeBody, decodeAmend, encodeAmend, bytes16, be16, word16_bytes, fields_decode _ _ hw]

theorem retire (handle : Option Word16) : Statement (.retire handle) := by
  cases handle with
  | none => exact nofun_enc rfl
  | some x => exact of_encoding rfl (by simp [decodeBody, decodeWord, bytes16, be16, word16_bytes])

theorem status (bodyOk : Bool) : Statement (.status bodyOk) := by
  cases bodyOk
  · exact nofun_enc rfl
  · exact of_encoding rfl rfl

theorem ackWarning (driver : Option Byte) : Statement (.ackWarning driver) := by
  cases driver with
  | none => exact nofun_enc rfl
  | some x => exact of_encoding rfl (by rfl)

theorem scheduleWrite (run : Option ScheduleRun) : Statement (.scheduleWrite run) := by
  cases run with
  | none => exact nofun_enc rfl
  | some r =>
    refine of_wf rfl fun hw => ?_
    have h : r.entries.length = r.count.toNat := by
      have hw' : (decide (r.entries.length = r.count.toNat) && decide (r.entries.length ≤ 37)) = true := hw
      simp only [Bool.and_eq_true, decide_eq_true_eq] at hw'
      exact hw'.1
    simp [decodeBody, decodeRun, h]

theorem scheduleLength (body : Option LengthBody) : Statement (.scheduleLength body) := by
  cases body with
  | none => exact nofun_enc rfl
  | some x => exact of_encoding rfl (by rfl)

theorem scheduleCopy (bodyOk : Bool) : Statement (.scheduleCopy bodyOk) := by
  cases bodyOk
  · exact nofun_enc rfl
  · exact of_encoding rfl rfl

theorem scheduleSwap (bodyOk : Bool) : Statement (.scheduleSwap bodyOk) := by
  cases bodyOk
  · exact nofun_enc rfl
  · exact of_encoding rfl rfl

theorem scheduleSwapCancel : Statement (.scheduleSwapCancel) := by
  exact of_encoding rfl rfl

theorem setFloor (floor : Option Word16) : Statement (.setFloor floor) := by
  cases floor with
  | none => exact nofun_enc rfl
  | some x => exact of_encoding rfl (by simp [decodeBody, decodeWord, bytes16, be16, word16_bytes])

theorem setProtect (lanes : Option Byte) : Statement (.setProtect lanes) := by
  cases lanes with
  | none => exact nofun_enc rfl
  | some x => exact of_encoding rfl (by rfl)

theorem lockMark (bodyOk : Bool) : Statement (.lockMark bodyOk) := by
  cases bodyOk
  · exact nofun_enc rfl
  · exact of_encoding rfl rfl

theorem clearLockout (bodyOk : Bool) : Statement (.clearLockout bodyOk) := by
  cases bodyOk
  · exact nofun_enc rfl
  · exact of_encoding rfl rfl

theorem restart (bodyOk : Bool) : Statement (.restart bodyOk) := by
  cases bodyOk
  · exact nofun_enc rfl
  · exact of_encoding rfl rfl

theorem configureCapacity (v : Word16) : Statement (.configureCapacity v) := by
  refine of_encoding rfl ?_
  simp [decodeBody, decodeConfigure, decodeParam, decodeParam2, bytes16, be16, word16_bytes]

theorem configureFullVoltage (v : Word16) : Statement (.configureFullVoltage v) := by
  refine of_encoding rfl ?_
  simp [decodeBody, decodeConfigure, decodeParam, decodeParam2, bytes16, be16, word16_bytes]

theorem configureThreshold (which : Threshold) (v : Word16) : Statement (.configureThreshold which v) := by
  cases which <;> (refine of_encoding rfl ?_; simp [thresholdNumber, decodeBody, decodeConfigure, decodeParam, decodeParam2, bytes16, be16, word16_bytes])

theorem configureDebounce (which : Threshold) (v : Byte) : Statement (.configureDebounce which v) := by
  cases which <;> exact of_encoding rfl rfl

theorem configureSenseScaling (which : SenseScale) (v : Word16) : Statement (.configureSenseScaling which v) := by
  cases which <;> (refine of_encoding rfl ?_; simp [scaleNumber, decodeBody, decodeConfigure, decodeParam, decodeParam2, bytes16, be16, word16_bytes])

theorem configureShedOrder (first : Byte) (second : Byte) (third : Byte) : Statement (.configureShedOrder first second third) := by
  exact of_encoding rfl rfl

theorem configureBudgetSetting (field : BudgetField) : Statement (.configureBudgetSetting field) := by
  cases field with
  | horizon v => exact of_encoding rfl rfl
  | margin v =>
    refine of_encoding rfl ?_
    simp [decodeBody, decodeConfigure, decodeParam, bytes32, be32, word32_bytes]

theorem configureCurrents (which : CurrentSetting) (v : Word16) : Statement (.configureCurrents which v) := by
  cases which
  case lamp c =>
    cases c <;> (refine of_encoding rfl ?_; simp [currentNumber, decodeBody, decodeConfigure, decodeParam, decodeParam2, bytes16, be16, word16_bytes])
  all_goals (refine of_encoding rfl ?_; simp [currentNumber, decodeBody, decodeConfigure, decodeParam, decodeParam2, bytes16, be16, word16_bytes])

theorem configureSlotLength (v : Byte) : Statement (.configureSlotLength v) := by
  exact of_encoding rfl rfl

theorem configureDeferralLimit (v : Byte) : Statement (.configureDeferralLimit v) := by
  exact of_encoding rfl rfl

theorem configureFadeRate (v : Byte) : Statement (.configureFadeRate v) := by
  exact of_encoding rfl rfl

theorem configureRestParameter (which : RestParam) (v : Word16) : Statement (.configureRestParameter which v) := by
  cases which <;> (refine of_encoding rfl ?_; simp [restNumber, decodeBody, decodeConfigure, decodeParam, decodeParam2, bytes16, be16, word16_bytes])

theorem configureWindow (station : Station) (index : WindowIndex) (fields : WindowFields) : Statement (.configureWindow station index fields) := by
  cases station <;> cases index <;> exact of_encoding rfl rfl

theorem configureStationLevel (station : Station) (fields : LevelFields) : Statement (.configureStationLevel station fields) := by
  cases station <;> exact of_encoding rfl rfl

theorem configureIdentifierBase (v : Word16) : Statement (.configureIdentifierBase v) := by
  refine of_encoding rfl ?_
  simp [decodeBody, decodeConfigure, decodeParam, decodeParam2, bytes16, be16, word16_bytes]

theorem configureUnknown (number : Option Byte) (size : Nat) : Statement (.configureUnknown number size) := nofun_enc rfl

theorem readConfig (number : Option Byte) : Statement (.readConfig number) := by
  cases number with
  | none => exact nofun_enc rfl
  | some n =>
    refine of_wf rfl fun hw => ?_
    have hw' : (n != 0x70#8 && n != 0x71#8) = true := hw
    simp only [Bool.and_eq_true, bne_iff_ne, ne_eq] at hw'
    simp [decodeBody, decodeReadConfig, hw'.1, hw'.2]

theorem readTable (table : TableId) (run : Option TableRun) : Statement (.readTable table run) := by
  cases run with
  | none => exact nofun_enc rfl
  | some r => cases table <;> exact of_encoding rfl rfl

theorem recordStart (h : Handle) : Statement (.recordStart h) := nofun_enc rfl

theorem recordEnd (h : Handle) : Statement (.recordEnd h) := nofun_enc rfl

theorem deferExpired (h : Handle) : Statement (.deferExpired h) := nofun_enc rfl

theorem batterySample (rawV : BitVec 12) (rawI : BitVec 12) : Statement (.batterySample rawV rawI) := nofun_enc rfl

theorem chargeIntegration : Statement (.chargeIntegration) := nofun_enc rfl

theorem fullAnchor : Statement (.fullAnchor) := nofun_enc rfl

theorem voltageStateChange : Statement (.voltageStateChange) := nofun_enc rfl

theorem marksClear : Statement (.marksClear) := nofun_enc rfl

theorem slotBoundary (workFirst : Bool) (heaterFirst : Bool) : Statement (.slotBoundary workFirst heaterFirst) := nofun_enc rfl

theorem heaterReading (cab : Int) (hx : Int) : Statement (.heaterReading cab hx) := nofun_enc rfl

theorem glowWaitFailed : Statement (.glowWaitFailed) := nofun_enc rfl

theorem preglowEnd : Statement (.preglowEnd) := nofun_enc rfl

theorem noFlame : Statement (.noFlame) := nofun_enc rfl

theorem stepChange : Statement (.stepChange) := nofun_enc rfl

theorem pauseEntry : Statement (.pauseEntry) := nofun_enc rfl

theorem flameLoss : Statement (.flameLoss) := nofun_enc rfl

theorem overheat : Statement (.overheat) := nofun_enc rfl

theorem runProved : Statement (.runProved) := nofun_enc rfl

theorem purgeEnd : Statement (.purgeEnd) := nofun_enc rfl

theorem purgeHot : Statement (.purgeHot) := nofun_enc rfl

theorem fridgeSample (raw : Int) : Statement (.fridgeSample raw) := nofun_enc rfl

theorem sensorFaultClear : Statement (.sensorFaultClear) := nofun_enc rfl

theorem blindWindowChange : Statement (.blindWindowChange) := nofun_enc rfl

theorem guardEnd : Statement (.guardEnd) := nofun_enc rfl

theorem lampFadeStep : Statement (.lampFadeStep) := nofun_enc rfl

theorem lampSenseSample (trips : PerChannel Bool) : Statement (.lampSenseSample trips) := nofun_enc rfl

theorem overCurrent (c : Channel) : Statement (.overCurrent c) := nofun_enc rfl

theorem engineState (id : CanId) (data : List Byte) : Statement (.engineState id data) := nofun_enc rfl

theorem engineFrameLost : Statement (.engineFrameLost) := nofun_enc rfl

theorem driverActivity (id : CanId) (data : List Byte) : Statement (.driverActivity id data) := nofun_enc rfl

theorem activityFrameLost : Statement (.activityFrameLost) := nofun_enc rfl

theorem canFrameIgnored (id : CanId) (data : List Byte) : Statement (.canFrameIgnored id data) := nofun_enc rfl

theorem cabStatus : Statement (.cabStatus) := nofun_enc rfl

theorem canTxSuccess : Statement (.canTxSuccess) := nofun_enc rfl

theorem canTxError : Statement (.canTxError) := nofun_enc rfl

theorem busOffRejoin : Statement (.busOffRejoin) := nofun_enc rfl

theorem accrual : Statement (.accrual) := nofun_enc rfl

theorem activitySettled (dr : Driver) : Statement (.activitySettled dr) := nofun_enc rfl

theorem incompleteSet (dr : Driver) : Statement (.incompleteSet dr) := nofun_enc rfl

theorem dashRepeatOnset (dr : Driver) : Statement (.dashRepeatOnset dr) := nofun_enc rfl

theorem dashSoundingEnd (dr : Driver) : Statement (.dashSoundingEnd dr) := nofun_enc rfl

theorem bunkSoundingEnd (dr : Driver) : Statement (.bunkSoundingEnd dr) := nofun_enc rfl

theorem planWaking (dr : Driver) : Statement (.planWaking dr) := nofun_enc rfl

theorem planDue (dr : Driver) : Statement (.planDue dr) := nofun_enc rfl

theorem rampLevelTick (dr : Driver) : Statement (.rampLevelTick dr) := nofun_enc rfl

theorem bunkCallOnset (dr : Driver) : Statement (.bunkCallOnset dr) := nofun_enc rfl

theorem wakeUnanswered (dr : Driver) : Statement (.wakeUnanswered dr) := nofun_enc rfl

end Sys2Proof.Laws.Encodes
end

