-- ==== Sys2Proof/Laws/Reach.lean ====
section
/-! SUPPORT. The reach of the rest plan unit's, the accounts unit's, the heater sequencer's and the scheduler's
operations: every block outside the list of each lemma is the same after it. -/

namespace Sys2Proof.Machine
open Sys2Proof

-- Proofs in turn, so that the joined text keeps to a few threads.
set_option Elab.async false

/-! ## Plans -/

/-- The blocks that a retirement or a move of a plan can reach. -/
abbrev planBlocks : List Block :=
  [.table, .link, .sched, .heater, .fridge, .lamps, .budget, .accounts, .plans]

theorem same_reportRetired (st : Option Station) (h : Handle) (fn : Fn) (w : RetireReason) (how : Report) (d : Device) :
    sameExcept [.link] d (reportRetired st h fn w how d) := by
  unfold reportRetired
  split
  · exact same_updateStation _ _ d
  · exact same_updateStation _ _ d
  · exact same_refl _ d

theorem same_dropRecord (h : Handle) (st : Option Station) (w : RetireReason) (how : Report) (d : Device) :
    sameExcept recordBlocks d (dropRecord h st w how d) := by
  unfold dropRecord
  split
  · refine same_then ?_ (same_pushValue _ _)
    refine same_then ?_ (same_reportRetired _ _ _ _ _ _)
    exact same_then (same_mono (same_freeSlot _ d)) (same_leaveQueue _ _)
  · exact same_refl _ d

theorem same_storeInternal (ph : Handle) (h : Option Handle) (d : Device) :
    sameExcept [.table] d (storeInternal ph h d) := by
  unfold storeInternal
  split
  · exact same_putRecord _ _ d
  · exact same_refl _ d

theorem same_preheat (dr : Driver) (ph : Handle) (t : Int) (d : Device) :
    sameExcept budgetBlocks d (preheat dr ph t d) := by
  unfold preheat
  dsimp only
  split
  · split
    · refine same_then ?_ (same_admission _ _ _ _)
      refine same_then ?_ (same_storeInternal _ _ _)
      exact same_then (same_mono (same_takeSequence d)) (same_putRecord _ _ _)
    · refine same_then ?_ (same_recompute _)
      refine same_then ?_ (same_pushValue _ _)
      exact same_then (same_mono (same_takeSequence d)) (same_revise _ _ _)
  · exact same_refl _ d

theorem same_handRamp (dr : Driver) (p : PlanRec) (w : WakeLight) (d : Device) :
    sameExcept [.plans, .lamps] d (handRamp dr p w d) := by
  unfold handRamp
  exact same_then (same_mono (same_setUnit dr _ d)) (same_rampLevel _ _ _)

theorem same_beginRamp (dr : Driver) (p : PlanRec) (w : WakeLight) (d : Device) :
    sameExcept [.plans, .lamps] d (beginRamp dr p w d) :=
  same_trans (same_mono (same_rampStart _ _ _ d)) (same_handRamp _ _ _ _)

theorem same_endRamp (dr : Driver) (d : Device) : sameExcept [.plans, .lamps] d (endRamp dr d) := by
  unfold endRamp
  exact same_ite (same_refl _ d) (same_then (same_mono (same_setUnit dr _ d)) (same_rampEnd _ _))

theorem same_soundBunk (dr : Driver) (d : Device) : sameExcept [.accounts] d (soundBunk dr d) := same_setAccount _ _ d

theorem same_stopBunk (dr : Driver) (d : Device) : sameExcept [.accounts] d (stopBunk dr d) := same_setAccount _ _ d

theorem same_callOnset (dr : Driver) (d : Device) : sameExcept [.plans, .accounts] d (callOnset dr d) :=
  same_then (same_mono (same_setUnit dr _ d)) (same_soundBunk _ _)

theorem same_beginCall (dr : Driver) (d : Device) : sameExcept [.plans, .accounts] d (beginCall dr d) :=
  same_trans (same_mono (same_setUnit dr _ d)) (same_callOnset _ _)

theorem same_silenceCall (dr : Driver) (d : Device) : sameExcept [.plans, .accounts] d (silenceCall dr d) := by
  unfold silenceCall
  exact same_ite (same_then (same_mono (same_setUnit dr _ d)) (same_stopBunk _ _)) (same_refl _ d)

theorem same_enterSub (h : Handle) (s : SubState) (d : Device) : sameExcept budgetBlocks d (enterSub h s d) :=
  same_then (same_mono (same_revise h _ d)) (same_recompute _)

theorem same_enterWaking (dr : Driver) (d : Device) : sameExcept planBlocks d (enterWaking dr d) := by
  unfold enterWaking
  split
  · dsimp only
    split
    · split
      · exact same_then (same_then (same_mono (same_enterSub _ _ d)) (same_preheat _ _ _ _)) (same_beginRamp _ _ _ _)
      · exact same_then (same_mono (same_enterSub _ _ d)) (same_beginRamp _ _ _ _)
    · split
      · exact same_then (same_mono (same_enterSub _ _ d)) (same_preheat _ _ _ _)
      · exact same_mono (same_enterSub _ _ d)
  · exact same_refl _ d

theorem same_enterDue (dr : Driver) (d : Device) : sameExcept planBlocks d (enterDue dr d) := by
  unfold enterDue
  split
  · dsimp only
    refine same_trans ?_ (same_ite (same_mono (same_beginCall _ _)) (same_refl _ _))
    refine same_then ?_ (same_setUnit _ _ _)
    split
    · exact same_then (same_mono (same_enterSub _ _ d)) (same_handRamp _ _ _ _)
    · exact same_mono (same_enterSub _ _ d)
  · exact same_refl _ d

theorem same_moveForward (dr : Driver) (a b : SubState) (d : Device) :
    sameExcept planBlocks d (moveForward dr a b d) := by
  unfold moveForward
  split
  · exact same_enterWaking dr d
  · exact same_enterWaking dr d
  · exact same_trans (same_enterWaking dr d) (same_enterDue dr _)
  · exact same_trans (same_enterWaking dr d) (same_enterDue dr _)
  · exact same_enterDue dr d
  · exact same_refl _ d

theorem same_bindPlan (dr : Driver) (r : Option Nat) (d : Device) : sameExcept planBlocks d (bindPlan dr r d) := by
  unfold bindPlan
  split
  · dsimp only
    split
    · exact same_then (same_then (same_mono (same_setUnit dr _ d)) (same_revise _ _ _)) (same_enterSub _ _ _)
    · exact same_trans (same_then (same_mono (same_setUnit dr _ d)) (same_revise _ _ _)) (same_moveForward _ _ _ _)
  · exact same_refl _ d

theorem same_takePlan (dr : Driver) (h : Handle) (d : Device) : sameExcept planBlocks d (takePlan dr h d) := by
  unfold takePlan
  dsimp only
  refine same_then ?_ (same_recompute _)
  have hd := same_mono (cs := planBlocks) (same_setUnit dr (fun _ => { PlanUnit.empty with plan := some h }) d)
  exact same_ite (same_trans hd (same_bindPlan _ _ _)) hd

theorem same_endPlan (dr : Driver) (st : Option Station) (how : Report) (d : Device) :
    sameExcept planBlocks d (endPlan dr st how d) := by
  unfold endPlan
  dsimp only
  refine same_then ?_ (same_setUnit _ _ _)
  have h1 : sameExcept planBlocks d (if (d.plans.get dr).call = .calling then stopBunk dr d else d) :=
    same_ite (same_mono (same_stopBunk dr d)) (same_refl _ d)
  have h2 := same_then h1 (same_endRamp dr _)
  split
  · split
    · split
      · exact same_then h2 (same_dropRecord _ _ _ _ _)
      · exact same_then (same_then h2 (same_dropRecord _ _ _ _ _)) (same_recompute _)
    · exact h2
  · exact h2

theorem same_departing (h : Handle) (st : Option Station) {bs : List Block} (f : Device → Device) (ht : .table ∈ bs)
    (hf : ∀ d, sameExcept bs d (f d)) (d : Device) : sameExcept bs d (departing h st f d) := by
  have hl : ∀ (l : Option (Handle × Station)) (d : Device),
      sameExcept bs d { d with table := { d.table with leaving := l } } := by
    intro l d b hb; cases b <;> first | rfl | exact absurd ht hb
  exact same_trans (same_trans (hl _ d) (hf _)) (hl _ _)

theorem same_retireRecord (h : Handle) (w : RetireReason) (how : Report) (d : Device) :
    sameExcept planBlocks d (retireRecord h w how d) := by
  unfold retireRecord
  split
  · dsimp only
    split
    · exact same_departing _ _ _ (by decide) (fun d =>
        same_trans (same_then (same_mono (same_dropRecord _ _ _ _ d)) (same_recompute _)) (same_endPlan _ _ _ _)) d
    · exact same_then (same_mono (same_dropRecord _ _ _ _ d)) (same_recompute _)
  · exact same_refl _ d

theorem same_retirePlan (dr : Driver) (w : RetireReason) (d : Device) : sameExcept planBlocks d (retirePlan dr w d) := by
  unfold retirePlan
  split
  · exact same_retireRecord _ _ _ d
  · exact same_refl _ d

theorem same_handPlan (dr : Driver) (a b : Activity) (d : Device) : sameExcept planBlocks d (handPlan dr a b d) := by
  unfold handPlan
  split
  · refine same_ite (same_ite (same_bindPlan _ _ d) (same_refl _ d)) (same_ite (same_retirePlan _ _ d) (same_refl _ d))
  · exact same_refl _ d

theorem same_amendedForward (dr : Driver) (old p : PlanRec) (d : Device) :
    sameExcept planBlocks d (amendedForward dr old p d) := by
  unfold amendedForward
  exact same_ite (same_refl _ _) (same_moveForward _ _ _ _)

/-- A plan's end alone changes, and only of a bound plan whose length or lead has changed (R185). -/
theorem retimed_eq (b : Option Nat) (old p : PlanRec) :
    (retimed b old p = p ∧ (b = none ∨ timesChanged old p = false)) ∨
      ∃ start, b = some start ∧ timesChanged old p = true ∧ retimed b old p = setEnd (start + p.len * 60) p := by
  cases b <;> cases h : timesChanged old p <;> simp [retimed, h]

theorem same_planAmended (dr : Driver) (h : Handle) (old : PlanRec) (d : Device) :
    sameExcept planBlocks d (planAmended dr h old d) := by
  have hl : ∀ (o : Option WakeLight) (p : PlanRec) (d : Device), sameExcept planBlocks d
      (match o with
        | some w => beginRamp dr p w (endRamp dr d)
        | none => endRamp dr d) := by
    intro o p d
    cases o
    · exact same_mono (same_endRamp _ _)
    · exact same_then (bs := planBlocks) (same_mono (same_endRamp _ _)) (same_beginRamp _ _ _ _)
  unfold planAmended
  split
  · split
    · dsimp only
      refine same_trans ?_ (same_amendedForward _ _ _ _)
      refine same_trans ?_ (same_ite (same_ite (same_ite (same_mono (same_beginCall _ _)) (same_refl _ _))
        (same_mono (same_silenceCall _ _))) (same_refl _ _))
      refine same_trans (e := _) ?_ (same_ite (c := _) ?_ (same_refl _ _))
      · split
        · refine same_trans ?_ (same_ite (same_mono (same_preheat _ _ _ _)) (same_refl _ _))
          exact same_then (bs := planBlocks) (same_mono (same_revise _ _ d)) (same_recompute _)
        · exact same_then (bs := planBlocks) (same_mono (same_revise _ _ d)) (same_recompute _)
      · exact hl _ _ _
    · exact same_refl _ d
  · exact same_refl _ d

/-! ## Accounts -/

theorem same_formSubjects (r : Option Driver) (d : Device) : sameExcept [.accounts] d (formSubjects r d) := by
  intro b hb; cases b <;> first | rfl | exact absurd (by decide) hb

theorem same_applyWarnings (dr : Driver) (w : Warnings) (d : Device) :
    sameExcept [.accounts, .link] d (applyWarnings dr w d) := by
  unfold applyWarnings
  dsimp only
  refine same_ite (same_refl _ d) ?_
  exact same_then (same_then (same_mono (same_setAccount dr _ d)) (same_formSubjects _ _)) (same_raiseFlag _ _)

theorem same_evaluate (dr : Driver) (d : Device) : sameExcept [.accounts, .link] d (evaluate dr d) :=
  same_applyWarnings _ _ d

theorem same_evaluateBoth (d : Device) : sameExcept [.accounts, .link] d (evaluateBoth d) :=
  same_trans (same_evaluate .one d) (same_evaluate .two _)

theorem same_accrue (dr : Driver) (d : Device) : sameExcept [.accounts, .link] d (accrue dr d) :=
  same_ite (same_refl _ d) (same_trans (same_mono (same_setAccount dr _ d)) (same_evaluate dr _))

theorem same_accrueBoth (d : Device) : sameExcept [.accounts, .link] d (accrueBoth d) :=
  same_then (same_then (same_trans (same_accrue .one d) (same_accrue .two _)) (same_setAccount _ _ _))
    (same_setAccount _ _ _)

theorem same_changeActivity (dr : Driver) (a b : Activity) (d : Device) :
    sameExcept planBlocks d (changeActivity dr a b d) := by
  unfold changeActivity
  dsimp only
  refine same_trans ?_ (same_handPlan _ _ _ _)
  refine same_then ?_ (same_evaluate _ _)
  exact same_then (same_mono (same_setAccount dr _ d)) (same_applyWarnings _ _ _)

theorem same_offerCandidate (dr : Driver) (a b : Activity) (d : Device) :
    sameExcept planBlocks d (offerCandidate dr a b d) := by
  unfold offerCandidate
  exact same_ite (same_changeActivity _ _ _ d) (same_ite (same_refl _ d) (same_mono (same_setAccount dr _ d)))

theorem same_report (dr : Driver) (a : Activity) (d : Device) : sameExcept planBlocks d (report dr a d) := by
  unfold report
  dsimp only
  have h := same_mono (cs := planBlocks) (same_setAccount dr (fun x => { x with reported := a }) d)
  refine same_ite (same_trans (same_then h (same_setAccount _ _ _)) (same_handPlan _ _ _ _)) (same_ite ?_ (same_ite ?_ ?_))
  · split
    · exact same_trans (same_then h (same_setAccount _ _ _)) (same_handPlan _ _ _ _)
    · exact same_ite (same_trans (same_then h (same_setAccount _ _ _)) (same_handPlan _ _ _ _))
        (same_trans h (same_offerCandidate _ _ _ _))
  · exact same_then h (same_setAccount _ _ _)
  · exact same_trans h (same_offerCandidate _ _ _ _)

theorem same_settle (dr : Driver) (d : Device) : sameExcept planBlocks d (settle dr d) := by
  unfold settle
  dsimp only
  split
  · exact same_changeActivity _ _ _ d
  · exact same_refl _ d

theorem same_acknowledge (dr : Driver) (d : Device) : sameExcept [.accounts, .link, .plans] d (acknowledge dr d) := by
  unfold acknowledge planAcknowledged
  dsimp only
  refine same_then (same_ite ?_ (same_refl _ d)) (same_silenceCall _ _)
  exact same_then (same_then (same_mono (same_setAccount dr _ d)) (same_formSubjects _ _)) (same_raiseFlag _ _)

/-! ## The store -/

theorem same_beginWrite (d : Device) : sameExcept [.store] d (beginWrite d) := by
  unfold beginWrite
  split
  · intro b hb; cases b <;> first | rfl | exact absurd (by decide) hb
  · exact same_refl _ d

/-- A write asked for changes the store alone: no setting is in force before the write is complete (R191). -/
theorem same_askWrite (c : Change) (k : Cont) (d : Device) : sameExcept [.store] d (askWrite c k d) := by
  refine same_trans ?_ (same_beginWrite _)
  intro b hb; cases b <;> first | rfl | exact absurd (by decide) hb

/-! ## The heater sequencer -/

/-- The blocks that the heater sequencer's own work can reach. -/
abbrev burnerBlocks : List Block := [.table, .link, .sched, .heater, .fridge, .lamps, .budget, .store]

theorem same_heaterWrite (c : Change) (k : Cont) (d : Device) :
    sameExcept [.heater, .store] d (heaterWrite c k d) :=
  same_then (same_mono (same_setHeat _ d)) (same_askWrite _ _ _)

theorem same_swapReported (d : Device) : sameExcept budgetBlocks d (swapReported d) :=
  same_setCauseAndRecompute _ _ d

theorem same_enterPreglow (d : Device) : sameExcept heaterBlocks d (enterPreglow d) :=
  same_then (same_mono (same_setHeater _ d)) (same_takeClaim _)

theorem same_slotReport (g f w : Bool) (d : Device) : sameExcept budgetBlocks d (slotReport g f w d) := by
  unfold slotReport
  dsimp only
  have hs : sameExcept budgetBlocks d (if w then swapReported d else d) :=
    same_ite (same_swapReported d) (same_refl _ d)
  refine same_ite (same_ite ?_ (same_ite ?_ hs)) (same_ite (same_mono (same_setHeat _ d)) hs)
  · exact same_trans (same_mono (same_enterPreglow d)) (same_ite (same_swapReported _) (same_refl _ _))
  · refine same_trans (same_mono (same_setHeat (fun h => { h with glowFrames := h.glowFrames + 1 }) d)) ?_
    exact same_ite (same_mono (same_setHeat _ _)) (same_ite (same_swapReported _) (same_refl _ _))

theorem same_glowWaitFailed (d : Device) : sameExcept budgetBlocks d (glowWaitFailed d) := by
  unfold glowWaitFailed
  dsimp only
  refine same_ite ?_ (same_refl _ d)
  refine same_trans ?_ (same_ite (same_swapReported _) (same_refl _ _))
  refine same_then ?_ (same_reportFailure _ _)
  exact same_then (same_then (same_mono (same_discardStart d)) (same_setHeater _ _)) (same_setCauseAndRecompute _ _ _)

theorem same_takeReading (cab hx : Int) (d : Device) : sameExcept heaterBlocks d (takeReading cab hx d) := by
  have hp : ∀ a b d, sameExcept heaterBlocks d (proveFlame a b d) := fun a b d =>
    same_then (same_then (same_mono (same_releaseClaim d)) (same_setHeater _ _)) (same_setHeat _ _)
  unfold takeReading
  dsimp only
  split
  · unfold readPrecheck
    exact same_trans (same_mono (same_setHeat _ d))
      (same_ite (same_then (same_mono (same_setHeat _ _)) (same_setHeater _ _)) (same_refl _ _))
  · unfold readIgnite
    dsimp only
    split
    · exact same_trans (same_mono (same_setHeat _ d))
        (same_ite (same_trans (same_mono (same_setHeat _ _)) (hp _ _ _)) (same_mono (same_setHeat _ _)))
    · exact same_then (same_mono (same_setHeat _ d)) (same_setHeat _ _)
  · exact same_then (same_then (same_mono (same_setHeat _ d)) (same_setHeat _ _)) (same_setHeat _ _)
  · unfold readPause
    split
    · exact same_trans (same_mono (same_setHeat _ d)) (same_ite (same_mono (same_enterPrecheck _)) (same_refl _ _))
    · exact same_mono (same_setHeat _ d)
  · exact same_mono (same_setHeat _ d)

theorem same_purgeFailed (d : Device) : sameExcept [.heater, .link] d (purgeFailed d) :=
  same_then (same_mono (same_enterPurge _ d)) (same_reportFailure _ _)

theorem same_attemptFailed (d : Device) : sameExcept burnerBlocks d (attemptFailed d) := by
  unfold attemptFailed
  dsimp only
  refine same_trans (same_mono (same_setHeat (fun h => { h with attempts := bump Config.attemptLimit h.attempts }) d)) ?_
  exact same_ite (same_mono (same_heaterWrite _ _ _)) (same_mono (same_purgeFailed _))

theorem same_overheatWritten (d : Device) : sameExcept heaterBlocks d (overheatWritten d) := by
  unfold overheatWritten
  dsimp only
  refine same_then ?_ (same_enterPurge _ _)
  exact same_trans (same_mono (same_reportFailure _ d)) (same_ite (same_mono (same_releaseClaim _)) (same_refl _ _))

theorem same_endPurge (d : Device) : sameExcept burnerBlocks d (endPurge d) := same_mono (same_heaterWrite _ _ d)

theorem same_purgeWritten (n : PurgeNext) (d : Device) : sameExcept burnerBlocks d (purgeWritten n d) := by
  unfold purgeWritten
  dsimp only
  split
  · exact same_then (same_then (same_mono (same_setHeat _ d)) (same_setHeater _ _)) (same_setCauseAndRecompute _ _ _)
  · exact same_then (same_mono (same_setHeat _ d)) (same_enterPrecheck _)
  · exact same_then (same_mono (same_setHeat _ d)) (same_setHeater _ _)
  · exact same_then (same_mono (same_setHeat _ d)) (same_setHeater _ _)

theorem same_hotWritten (d : Device) : sameExcept burnerBlocks d (hotWritten d) :=
  same_trans (same_mono (same_setFailure _ d)) (same_endPurge _)

theorem same_clearLockout (st : Station) (d : Device) : sameExcept burnerBlocks d (clearLockout st d) := by
  unfold clearLockout
  exact same_ite (same_mono (same_heaterWrite _ _ d)) (same_mono (same_answer _ _ _ _ d))

theorem same_seeDemand (d : Device) : sameExcept heaterBlocks d (seeDemand d) := by
  unfold seeDemand
  exact same_ite (same_demandHeat d) (same_refl _ d)

theorem same_lockoutCleared (st : Station) (d : Device) : sameExcept burnerBlocks d (lockoutCleared st d) := by
  unfold lockoutCleared
  dsimp only
  refine same_then ?_ (same_answerAfter _ _ _ _ _ _)
  refine same_then ?_ (same_seeDemand _)
  exact same_then (same_then (same_mono (same_setHeat _ d)) (same_setHeater _ _)) (same_setCauseAndRecompute _ _ _)

theorem same_takeTimer (t : HeaterTimer) (d : Device) : sameExcept burnerBlocks d (takeTimer t d) := by
  cases t
  · exact same_mono (same_glowWaitFailed d)
  · exact same_ite (same_then (same_then (same_mono (same_setHeater _ d)) (same_setHeat _ _)) (same_heaterWrite _ _ _))
      (same_refl _ d)
  · exact same_ite (same_trans (same_mono (same_releaseClaim d)) (same_attemptFailed _)) (same_refl _ d)
  · exact same_ite (same_mono (same_setHeat _ d)) (same_refl _ d)
  · exact same_ite (same_mono (same_enterPurge _ d)) (same_refl _ d)
  · exact same_ite (same_trans (same_mono (same_setHeat _ d)) (same_attemptFailed _)) (same_refl _ d)
  · exact same_ite (same_mono (same_heaterWrite _ _ d)) (same_refl _ d)
  · exact same_ite (same_mono (same_setHeat _ d)) (same_refl _ d)
  · exact same_ite (same_endPurge d) (same_refl _ d)
  · exact same_ite (same_ite (same_hotWritten d) (same_mono (same_heaterWrite _ _ d))) (same_refl _ d)

/-- The sequencer's work on one message leaves clock, settings, bank, accounts, plans, vehicle port and leads as they
are. -/
theorem same_heaterTake (d : Device) (m : HeaterMsg) : sameExcept burnerBlocks d (heaterTake d m) := by
  unfold heaterTake
  refine same_ite (same_mono (same_holdMsg m d)) ?_
  cases m
  · exact same_mono (same_demandHeat d)
  · exact same_mono (same_stopHeater d)
  · exact same_mono (same_voltageHeater _ d)
  · exact same_mono (same_slotReport _ _ _ d)
  · exact same_mono (same_takeReading _ _ d)
  · exact same_takeTimer _ d
  · exact same_clearLockout _ d

theorem same_heaterResume (f : Device → Device) (h : ∀ d, sameExcept burnerBlocks d (f d)) (d : Device) :
    sameExcept burnerBlocks d (heaterResume f d) :=
  same_trans (same_trans (same_mono (same_setHeat _ d)) (h _)) (same_foldl same_heaterTake _ _)

/-! ## Slots and writes -/

theorem same_openSlot (d : Device) : sameExcept [.sched, .heater, .fridge] d (openSlot d) :=
  same_trans (same_mono (same_setSched _ d)) (same_formPermissions _)

theorem same_reportSlot (f w : Bool) (d : Device) : sameExcept burnerBlocks d (reportSlot f w d) :=
  same_heaterTake d _

theorem same_slotWithin (d : Device) : sameExcept burnerBlocks d (slotWithin d) :=
  same_trans (same_then (same_mono (same_setSched _ d)) (same_openSlot _)) (same_reportSlot _ _ _)

theorem same_reportBudget (w k : Bool) (d : Device) : sameExcept budgetBlocks d (reportBudget w k d) := by
  unfold reportBudget
  dsimp only
  exact same_trans (same_ite (same_recompute d) (same_refl _ d)) (same_ite (same_refl _ _) (same_frameWork _))

theorem same_openFirst (d : Device) : sameExcept [.sched, .heater, .fridge] d (openFirst d) :=
  same_then (same_mono (same_setSched _ d)) (same_openSlot _)

theorem same_openFrame (w k h : Bool) (d : Device) : sameExcept burnerBlocks d (openFrame w k h d) := by
  unfold openFrame
  dsimp only
  have hd := same_mono (cs := burnerBlocks) (same_openFirst d)
  exact same_ite (same_then (same_trans hd (same_reportSlot _ _ _)) (same_reportBudget _ _ _))
    (same_trans (same_then hd (same_reportBudget _ _ _)) (same_reportSlot _ _ _))

theorem same_swapTables (k h : Bool) (d : Device) :
    sameExcept (.settings :: burnerBlocks) d (swapTables k h d) := by
  refine same_then (same_then (bs := .settings :: burnerBlocks)
    (e := { d with settings := { d.settings with active := otherTable d.settings.active } }) ?_
    (same_setSched _ _)) (same_askWrite _ _ _)
  intro b hb; cases b <;> first | rfl | exact absurd (by decide) hb

theorem same_takeLength (d : Device) : sameExcept [.sched] d (takeLength d) := same_setSched _ d

theorem same_frameBoundary (k h : Bool) (d : Device) : sameExcept (.settings :: burnerBlocks) d (frameBoundary k h d) := by
  have hd : sameExcept (.settings :: burnerBlocks) d
      (takeLength (if d.sched.swapPending && k then frameWork d else d)) :=
    same_then (same_ite (same_mono (same_frameWork d)) (same_refl _ d)) (same_takeLength _)
  exact same_ite (same_trans hd (same_swapTables k h _)) (same_then hd (same_openFrame _ _ _ _))

/-- A slot boundary, taken or kept for later, can reach the active-table mark and what a write's rest can reach. -/
theorem same_slotBoundary (k h : Bool) (d : Device) : sameExcept (.settings :: burnerBlocks) d (slotBoundary k h d) := by
  unfold slotBoundary
  exact same_ite (same_mono (same_setSched _ d)) (same_ite (same_mono (same_slotWithin d)) (same_frameBoundary k h d))

theorem same_takeLate (d : Device) : sameExcept (.settings :: burnerBlocks) d (takeLate d) := by
  have hf := same_foldl (bs := .settings :: burnerBlocks)
    (f := fun (d : Device) (b : Bool × Bool) => slotBoundary b.1 b.2 d) (fun d b => same_slotBoundary b.1 b.2 d)
  have hs : sameExcept (.settings :: burnerBlocks) d (setSched (fun s => { s with late := [] }) d) :=
    same_mono (same_setSched (fun s => { s with late := [] }) d)
  exact same_trans hs (hf d.sched.late _)

theorem same_boundaryWritten (k h : Bool) (d : Device) : sameExcept burnerBlocks d (boundaryWritten k h d) :=
  same_ite (same_mono (same_setSched _ d)) (same_openFrame _ _ _ d)

theorem same_idleEnds (d : Device) : sameExcept burnerBlocks d (idleEnds d) := by
  unfold idleEnds
  split
  · exact same_openFrame _ _ _ d
  · exact same_trans (same_mono (same_setSched _ d)) (same_mono (same_formPermissions _))

/-- The rest of what waited for a write can reach the store again, the heater and the blocks a recomputation reaches. -/
theorem same_goOn (k : Cont) (old d : Device) : sameExcept burnerBlocks d (goOn k old d) := by
  unfold goOn
  split
  · refine same_then ?_ (same_answerAfter _ _ _ _ _ _)
    intro b hb; cases b <;> first | rfl | exact absurd (by decide) hb
  · exact same_heaterResume _ (fun d => same_mono (same_setHeat _ d)) d
  · exact same_heaterResume _ (fun d => same_mono (same_overheatWritten d)) d
  · exact same_heaterResume _ (fun d => same_mono (same_purgeFailed d)) d
  · exact same_heaterResume _ same_hotWritten d
  · exact same_heaterResume _ (same_purgeWritten _) d
  · exact same_heaterResume _ (same_lockoutCleared _) d
  · exact same_boundaryWritten _ _ d
  · exact same_refl _ d

end Sys2Proof.Machine
end

