-- ==== Sys2Proof/Laws/Table.lean ====
section
/-! SUPPORT. The table's two views of a record: a handle that names one, and the list of the live ones. -/

namespace Sys2Proof.Machine
open Sys2Proof

theorem mem_recordsFrom {g : Nat} {r : Record} : ∀ (slots : List Slot) (k i : Nat), slots[i]? = some ⟨g, some r⟩ →
    (⟨k + i, g⟩, r) ∈ recordsFrom k slots
  | [], _, _, h => by simp at h
  | s :: ss, k, 0, h => by
    obtain rfl : s = ⟨g, some r⟩ := by simpa using h
    simp [recordsFrom]
  | s :: ss, k, i + 1, h => by
    have m := mem_recordsFrom ss (k + 1) i (by simpa using h)
    rw [show k + 1 + i = k + (i + 1) by omega] at m
    unfold recordsFrom
    split
    · exact List.mem_cons_of_mem _ m
    · exact m

/-- A record that a handle names is one of the live records (R6). -/
theorem mem_records_of_lookup {d : Device} {h : Handle} {r : Record} (e : lookup d h = some r) : (h, r) ∈ records d := by
  unfold lookup at e
  split at e
  · split at e
    · rename_i s hs
      split at e
      · rename_i hg
        have m := mem_recordsFrom (g := h.gen) (r := r) d.table.slots 0 h.slot (by rw [hs, ← hg, ← e])
        rw [Nat.zero_add] at m
        exact m
      · cases e
    · cases e
  · cases e

end Sys2Proof.Machine
end

