-- ==== Sys2Proof/Tests/Slice0.lean ====
section
/-! SUPPORT. Tests: reply frames written out from R196, R197 and R201 with their CRC worked outside the model, ill-formed
commands that the check refuses, figures that the manual works out, and for each statement a state and operands that
meet its hypotheses. -/

namespace Sys2Proof.Tests
open Sys2Proof Sys2Proof.Machine

-- One thread for each kernel evaluation would ask for more stacks than the check allows.
set_option Elab.async false

/-! ## Reply frames (R27, R196, R197, R201) -/

/-- R196: IDLE, empty body, from station 3. -/
theorem test_decodes_idle : decodeReply 3
    [0xA5#8, 0x83#8, 0x00#8, 0x10#8, 0xBC#8, 0xA7#8] =
      .idleReply := by decide +kernel

/-- R197: form 0, handle 6:1. -/
theorem test_decodes_lookup_handle : decodeReply 2
    [0xA5#8, 0x82#8, 0x03#8, 0x11#8, 0x00#8, 0x06#8, 0x01#8, 0x68#8, 0x36#8] =
      .lookupByHandle (some 0x0601#16) := by decide +kernel

/-- R197: form 1, local function 20, first slot 0. -/
theorem test_decodes_lookup_function : decodeReply 1
    [0xA5#8, 0x81#8, 0x03#8, 0x11#8, 0x01#8, 0x14#8, 0x00#8, 0xE4#8, 0xD6#8] =
      .lookupByFunction (some ⟨20#8, 0#8⟩) := by decide +kernel

/-- R197: form 2, first slot 9. -/
theorem test_decodes_lookup_own : decodeReply 1
    [0xA5#8, 0x81#8, 0x02#8, 0x11#8, 0x02#8, 0x09#8, 0xF7#8, 0xFD#8] =
      .lookupOwnRecords (some 9#8) := by decide +kernel

/-- R21: a list body that ends before its first slot gives none, and the list begins at slot 0. -/
theorem test_decodes_list_without_slot :
    decodeLookup [1#8, 20#8] = .lookupByFunction (some ⟨20#8, 0#8⟩) ∧ decodeLookup [2#8] = .lookupOwnRecords (some 0#8) := by
  decide

/-- R197, R195: HEAT_HOLD of 21.0 °C (42 half degrees), no class, no delay, 30 min, no limit. -/
theorem test_decodes_create_heat : decodeReply 3
    [0xA5#8, 0x83#8, 0x0A#8, 0x12#8, 0x00#8, 0x00#8, 0xFF#8, 0xFF#8, 0xFF#8, 0x00#8, 0x1E#8, 0x00#8, 0x00#8,
      0x2A#8, 0xE3#8, 0x91#8] =
      .create (some ⟨0#8, 0#8, 0xFF#8, 0xFFFF#16, 30#16, 0#8, .temp 42#16⟩) := by decide +kernel

/-- R197: the plan of section 10.9: 540 min, lead 30, preheat 20.0 °C, channels 8 and 9 at 60 %, buzzer. -/
theorem test_decodes_create_plan : decodeReply 2
    [0xA5#8, 0x82#8, 0x10#8, 0x12#8, 0x04#8, 0x04#8, 0xFF#8, 0xFF#8, 0xFF#8, 0xFF#8, 0xFF#8, 0x00#8, 0x02#8,
      0x1C#8, 0x1E#8, 0x00#8, 0x28#8, 0x03#8, 0x3C#8, 0x01#8, 0xD0#8, 0xEF#8] =
      .create (some ⟨4#8, 4#8, 0xFF#8, 0xFFFF#16, 0xFFFF#16, 0#8, .plan ⟨540#16, 30#8, 40#16, 3#8, 60#8, 1#8⟩⟩) := by decide +kernel

/-- R197: handle 0:1, kind LAMP, mask bit 1, duration 15 min, level 60 %. -/
theorem test_decodes_amend_lamp : decodeReply 2
    [0xA5#8, 0x82#8, 0x09#8, 0x13#8, 0x00#8, 0x01#8, 0x02#8, 0x02#8, 0x00#8, 0x00#8, 0x0F#8, 0x00#8, 0x3C#8,
      0x00#8, 0xB2#8] =
      .amend (some ⟨0x0001#16, 2#8, 2#8, 0#8, 15#16, 0#8, .level 60#8⟩) := by decide +kernel

/-- R197: handle 5:1. -/
theorem test_decodes_retire : decodeReply 4
    [0xA5#8, 0x84#8, 0x02#8, 0x14#8, 0x05#8, 0x01#8, 0x27#8, 0xC5#8] =
      .retire (some 0x0501#16) := by decide +kernel

/-- R197: empty body. -/
theorem test_decodes_status : decodeReply 1
    [0xA5#8, 0x81#8, 0x00#8, 0x15#8, 0x82#8, 0x62#8] =
      .status true := by decide +kernel

/-- R197: driver 1. -/
theorem test_decodes_ack : decodeReply 2
    [0xA5#8, 0x82#8, 0x01#8, 0x16#8, 0x01#8, 0x3A#8, 0x54#8] =
      .ackWarning (some 1#8) := by decide +kernel

/-- R197: table B, first index 4, two entries: HEAT with COOL, and none. -/
theorem test_decodes_write : decodeReply 1
    [0xA5#8, 0x81#8, 0x05#8, 0x20#8, 0x01#8, 0x04#8, 0x02#8, 0x05#8, 0x00#8, 0x36#8, 0xF6#8] =
      .scheduleWrite (some ⟨1#8, 4#8, 2#8, [5#8, 0#8]⟩) := by decide +kernel

/-- R197: table B, length 24. -/
theorem test_decodes_length : decodeReply 1
    [0xA5#8, 0x81#8, 0x02#8, 0x21#8, 0x01#8, 0x18#8, 0x65#8, 0x1B#8] =
      .scheduleLength (some ⟨1#8, 24#8⟩) := by decide +kernel

/-- R197: empty body. -/
theorem test_decodes_copy : decodeReply 1
    [0xA5#8, 0x81#8, 0x00#8, 0x22#8, 0xC4#8, 0xD6#8] =
      .scheduleCopy true := by decide +kernel

/-- R197: cancel flag clear. -/
theorem test_decodes_swap : decodeReply 4
    [0xA5#8, 0x84#8, 0x01#8, 0x23#8, 0x00#8, 0xF7#8, 0x8C#8] =
      .scheduleSwap true := by decide +kernel

/-- R197: cancel flag set. -/
theorem test_decodes_swap_cancel : decodeReply 4
    [0xA5#8, 0x84#8, 0x01#8, 0x23#8, 0x01#8, 0xE7#8, 0xAD#8] =
      .scheduleSwapCancel := by decide +kernel

/-- R197: 90 Ah. -/
theorem test_decodes_floor : decodeReply 1
    [0xA5#8, 0x81#8, 0x02#8, 0x24#8, 0x00#8, 0x5A#8, 0xD5#8, 0x5C#8] =
      .setFloor (some 90#16) := by decide +kernel

/-- R195, R197: HEAT and COOL. -/
theorem test_decodes_protect : decodeReply 4
    [0xA5#8, 0x84#8, 0x01#8, 0x25#8, 0x05#8, 0x0D#8, 0x8F#8] =
      .setProtect (some 5#8) := by decide +kernel

/-- R197: empty body. -/
theorem test_decodes_clear : decodeReply 1
    [0xA5#8, 0x81#8, 0x00#8, 0x26#8, 0x84#8, 0x52#8] =
      .clearLockout true := by decide +kernel

/-- R197: empty body. -/
theorem test_decodes_restart : decodeReply 1
    [0xA5#8, 0x81#8, 0x00#8, 0x27#8, 0x94#8, 0x73#8] =
      .restart true := by decide +kernel

/-- R197: empty body. -/
theorem test_decodes_lock_mark : decodeReply 4
    [0xA5#8, 0x84#8, 0x00#8, 0x28#8, 0x8E#8, 0x6C#8] =
      .lockMark true := by decide +kernel

/-- R201: number 0x01, 225 Ah. -/
theorem test_decodes_capacity : decodeReply 1
    [0xA5#8, 0x81#8, 0x03#8, 0x30#8, 0x01#8, 0x00#8, 0xE1#8, 0x87#8, 0x94#8] =
      .configureCapacity 225#16 := by decide +kernel

/-- R201: number 0x12, 3,600 A·s in four bytes. -/
theorem test_decodes_margin : decodeReply 1
    [0xA5#8, 0x81#8, 0x05#8, 0x30#8, 0x12#8, 0x00#8, 0x00#8, 0x0E#8, 0x10#8, 0xAC#8, 0xA0#8] =
      .configureBudgetSetting (.margin 3600#32) := by decide +kernel

/-- R201: number 0x10, AUX, COOL, HEAT. -/
theorem test_decodes_shed : decodeReply 1
    [0xA5#8, 0x81#8, 0x04#8, 0x30#8, 0x10#8, 0x03#8, 0x02#8, 0x00#8, 0xCC#8, 0x8C#8] =
      .configureShedOrder 3#8 2#8 0#8 := by decide +kernel

/-- R201: window 1 of station 3 is number 0x40 + 5 × 2 + 1. -/
theorem test_decodes_window : decodeReply 1
    [0xA5#8, 0x81#8, 0x06#8, 0x30#8, 0x4B#8, 0x01#8, 0x02#8, 0x02#8, 0x0A#8, 0x0B#8, 0x4B#8, 0xEE#8] =
      .configureWindow .s3 .w1 ⟨1#8, 2#8, 2#8, 10#8, 0x0B#8⟩ := by decide +kernel

/-- R201: the level of station 6 is number 0x44 + 5 × 5. -/
theorem test_decodes_level : decodeReply 1
    [0xA5#8, 0x81#8, 0x04#8, 0x30#8, 0x5D#8, 0x03#8, 0x02#8, 0x08#8, 0x1A#8, 0x9E#8] =
      .configureStationLevel .s6 ⟨3#8, 2#8, 8#8⟩ := by decide +kernel

/-- R201: the floor is read-only. -/
theorem test_decodes_unassigned : decodeReply 1
    [0xA5#8, 0x81#8, 0x03#8, 0x30#8, 0x0C#8, 0x00#8, 0x50#8, 0x72#8, 0x3F#8] =
      .configureUnknown (some 0x0C#8) 2 := by decide +kernel

/-- R201: a slot length has one byte. -/
theorem test_decodes_wrong_size : decodeReply 1
    [0xA5#8, 0x81#8, 0x03#8, 0x30#8, 0x28#8, 0x00#8, 0x0F#8, 0x83#8, 0x23#8] =
      .configureUnknown (some 0x28#8) 2 := by decide +kernel

/-- R201: number 0x60. -/
theorem test_decodes_read_config : decodeReply 4
    [0xA5#8, 0x84#8, 0x01#8, 0x31#8, 0x60#8, 0xFE#8, 0x3B#8] =
      .readConfig (some 0x60#8) := by decide +kernel

/-- R198, R201: table B, first index 48, count 16. -/
theorem test_decodes_read_table : decodeReply 4
    [0xA5#8, 0x84#8, 0x03#8, 0x31#8, 0x71#8, 0x30#8, 0x10#8, 0x90#8, 0x82#8] =
      .readTable .b (some ⟨48#8, 16#8⟩) := by decide +kernel

/-- R196, R197: 0x29 is no request type. -/
theorem test_decodes_unknown_type : decodeReply 5
    [0xA5#8, 0x85#8, 0x01#8, 0x29#8, 0x07#8, 0x1E#8, 0x14#8] =
      .unknownRequest 0x29#8 := by decide +kernel

/-- R37 check 2: a RETIRE has two body bytes. -/
theorem test_decodes_short_body : decodeReply 2
    [0xA5#8, 0x82#8, 0x01#8, 0x14#8, 0x05#8, 0x1C#8, 0xB2#8] =
      .retire none := by decide +kernel

/-- R27: a reply whose CRC does not match is a missed poll. -/
theorem test_bad_crc_misses : decodeReply 3 [0xA5#8, 0x83#8, 0x00#8, 0x10#8, 0xBC#8,
      0xA6#8] = .pollMissed := by decide +kernel

/-- R27: a reply of another station is a missed poll. -/
theorem test_wrong_address_misses : decodeReply 2 [0xA5#8, 0x83#8, 0x00#8, 0x10#8, 0xBC#8,
      0xA7#8] = .pollMissed := by decide +kernel

/-- R27: no reply is a missed poll. -/
theorem test_silence_misses : decodeReply 3 [] = .pollMissed := by decide +kernel


/-! ## Well-formedness refuses -/

/-- R37: a known type is no unknown request. -/
theorem test_wf_known_type : (Instr.unknownRequest 0x14#8).wf = false := by decide
/-- R197: a CREATE of a LAMP carries a level, not a temperature. -/
theorem test_wf_create_shape :
    (Instr.create (some ⟨8#8, 2#8, 0xFF#8, 0xFFFF#16, 0xFFFF#16, 0#8, .temp 42#16⟩)).wf = false := by decide
/-- R197: an AMEND of an AUX_ON carries no kind parameter. -/
theorem test_wf_amend_shape :
    (Instr.amend (some ⟨0x0001#16, 3#8, 0#8, 0#8, 0#16, 0#8, .level 5#8⟩)).wf = false := by decide
/-- R197: a SCHEDULE_WRITE carries one lane set per entry. -/
theorem test_wf_write_count : (Instr.scheduleWrite (some ⟨1#8, 0#8, 2#8, [1#8]⟩)).wf = false := by decide
/-- R196: a body of 40 bytes holds at most 37 lane sets. -/
theorem test_wf_write_length :
    (Instr.scheduleWrite (some ⟨1#8, 0#8, 38#8, List.replicate 38 1#8⟩)).wf = false := by decide
/-- R201: a value of the right size for an assigned number is no unknown CONFIGURE. -/
theorem test_wf_assigned : (Instr.configureUnknown (some 0x01#8) 2).wf = false := by decide
/-- R196: a value of 40 bytes leaves no room for the number. -/
theorem test_wf_unknown_size : (Instr.configureUnknown (some 0x7F#8) 40).wf = false := by decide
/-- R201: an empty body has no value. -/
theorem test_wf_unknown_empty : (Instr.configureUnknown none 1).wf = false := by decide
/-- R201: table A is read by READ_TABLE. -/
theorem test_wf_read_table : (Instr.readConfig (some 0x70#8)).wf = false := by decide
/-- R6: there is no slot 48, no generation 0 and no generation 256. -/
theorem test_wf_handles :
    (Instr.recordStart ⟨48, 1⟩).wf = false ∧ (Instr.recordEnd ⟨0, 0⟩).wf = false ∧
    (Instr.deferExpired ⟨0, 256⟩).wf = false := by decide
/-- R136: the converter's span ends at −100.0 and +200.0 °C. -/
theorem test_wf_span : (Instr.fridgeSample (-201)).wf = false ∧ (Instr.fridgeSample 401).wf = false := by decide
/-- A CAN frame carries at most 8 data bytes. -/
theorem test_wf_can : (Instr.engineState 1280#11 (List.replicate 9 0#8)).wf = false ∧
    (Instr.driverActivity 1281#11 (List.replicate 9 0#8)).wf = false ∧
    (Instr.canFrameIgnored 5#11 (List.replicate 9 0#8)).wf = false := by decide

/-! ## The manual's worked figures -/

/-- R27: the generator, start value, bit order and missing final inversion are those of the check value 0x29B1. -/
theorem test_crc_check :
    crc16 [0x31#8, 0x32#8, 0x33#8, 0x34#8, 0x35#8, 0x36#8, 0x37#8, 0x38#8, 0x39#8] = 0x29B1#16 := by decide +kernel

/-- R193: power-on with two images that fail their check is the state after reset. -/
theorem test_power_on_is_reset : powerUp true true State.reset.dev = resetDevice := by decide +kernel

/-- Section 3.2.1: the remainder carried over four seconds, and the upper clamp. -/
theorem test_integration_table :
    let start : Bank := { resetDevice.bank with q := 486000, r := 0, sum := 12345 }
    let one := integrate 810000 start
    let two := integrate 810000 { one with sum := -500 }
    let three := integrate 810000 { two with sum := -957 }
    let four := integrate 810000 three
    let full := integrate 810000 { start with q := 809999, r := -60, sum := -2500 }
    [(one.q, one.r), (two.q, two.r), (three.q, three.r), (four.q, four.r), (full.q, full.r)] =
      [(485988, 34), (485988, -16), (485989, -11), (485989, -11), (810000, 0)] := by decide +kernel

/-- R48: the full code maps to 32,760 mV at the factory gain. -/
theorem test_voltage_scale : voltageOf Config.factory 4095#12 = 32760 := by decide +kernel

/-- R70: the factory ladder, and the one of section 4.3's order with nothing protected has eight steps. -/
theorem test_ladders :
    buildLadder Config.factory.shedOrder Config.factory.protectedSet =
      [.slow .aux, .slow .cool, .slow .heat, .cap 50, .stop .aux, .stop .cool, .cap 25] ∧
    (buildLadder Config.factory.shedOrder ⟨false, false, false⟩).length = 8 := by decide +kernel

/-- A record as the witnesses need it. -/
def mkRecord (kind : Kind) (fn : Fn) (o : Owner) (state : RecState) (reason : Reason) (p : Params) : Record where
  kind := kind
  fn := fn
  owner := o
  cls := .comfort
  state := state
  reason := reason
  seq := 1
  start := none
  endAt := none
  limit := 30
  deadline := none
  params := p

def withSlot (i : Nat) (x : Slot) (d : Device) : Device :=
  { d with table := { d.table with slots := d.table.slots.set i x } }

def withRecord (i : Nat) (r : Record) (d : Device) : Device := withSlot i ⟨1, some r⟩ d

/-- The plan of section 4.9: 9 h, a lead of 30 min, a preheat of 20.0 °C. -/
def plan (sub : SubState) (e : Nat) : PlanRec :=
  ⟨540, 30, some 40, some ⟨⟨true, true, false, false, false, false⟩, 60⟩, true, sub, some e, false, none⟩

def planRecord (dr : Driver) (p : PlanRec) : Record :=
  mkRecord .restPlan (.rest dr) (.station .s2) .granted .immediate (.plan p)

/-- Section 4.9's starting state: two lanes engaged, two lamps lit, driver 1's plan ACTIVE with 9 h to go. -/
def evening : Device :=
  let d := withRecord 0 (mkRecord .heatHold .heater (.station .s3) .granted .admitted (.heat 42 none))
    (withRecord 1 (mkRecord .coolHold .fridge (.station .s2) .granted .admitted (.cool 8))
      (withRecord 6 (planRecord .one (plan .active 32400)) resetDevice))
  { d with
    bank := { d.bank with q := 486000, uncalibrated := false }
    plans := ⟨⟨some ⟨6, 1⟩, some 0, .none, 0, .none, 0⟩, PlanUnit.empty⟩
    lamps := { d.lamps with
      c8 := { d.lamps.c8 with effective := 60, before := 60, target := 60 }
      c9 := { d.lamps.c9 with effective := 20, before := 20, target := 20 } } }

/-- Section 4.9: the projection of the starting state, and the test with AUX engaged. -/
theorem test_worked_projection :
    projectAt evening 0 none = ⟨234000, 634, 32400, 8240, 213656, 20344, 615⟩ ∧
    (projectAt evening 0 (some .aux)).m = -44456 ∧
    (projectAt evening 1 (some .aux)).m = -12056 ∧ (projectAt evening 2 (some .aux)).m = 16132 := by decide +kernel

/-- Section 8.9: 30 % at 20 tenths a step takes fifteen steps. -/
theorem test_fade_steps :
    let rise := fun l : Lamp => fadeLamp 20 l
    let l : Lamp := ⟨30, ⟨none, none⟩, 30, 30, 0, 0, false⟩
    ((Nat.repeat rise 14 l).out, (Nat.repeat rise 15 l).out, (Nat.repeat rise 16 l).out) = (280, 300, 300) := by
  decide +kernel

/-- R92: with rGLOW 1,200 the entries of HEAT and GLOW pass the peak limit and are emptied. -/
theorem test_revalidation :
    let t := revalidate { Config.factoryCurrents with rGlow := 1200 } Config.factorySchedule
    t.trimmed = true ∧ t.entries.take 5 =
      [LaneSet.none, LaneSet.none, LaneSet.none, LaneSet.none, ⟨true, false, true, false⟩] := by decide +kernel

/-- Section 2.9: local 3 of the lower bunk is global 11, and local 6 is not mapped. -/
theorem test_translation :
    (translate resetDevice .s3 3).map Prod.fst = some 11 ∧ translate resetDevice .s3 6 = none ∧
    windowOf resetDevice .s3 .outlet = none ∧ localNumber resetDevice .s2 (.rest .one) = 4 := by decide +kernel

/-- Section 10.9: the ramp stands at 30 at half of its lead. -/
theorem test_ramp_level :
    rampFor 92160 (plan .waking 93060) ⟨⟨true, true, false, false, false, false⟩, 60⟩ = .rising 30 := by decide +kernel

/-! ## Witnesses: a state and operands that meet the hypotheses of each statement, clause by clause -/

def quiet : Device := resetDevice

def withStation (st : Station) (f : StationLink → StationLink) (d : Device) : Device :=
  { d with link := { d.link with stations := d.link.stations.set (f (d.link.stations.get st)) st } }

def onlineAt (st : Station) (d : Device) : Device := withStation st (fun p => { p with link := .online }) d

def phased (p : LinkPhase) (d : Device) : Device := { d with link := { d.link with phase := p } }

/-- A station's poll is open. -/
def polled (st : Station) (d : Device) : Device := phased (.awaiting st true) (onlineAt st d)

def settled (f : Settings → Settings) (d : Device) : Device := { d with settings := f d.settings }

def stationSet (st : Station) (f : StationSettings → StationSettings) (d : Device) : Device :=
  settled (fun s => { s with stations := s.stations.set (f (s.stations.get st)) st }) d

def sec (n : Nat) (d : Device) : Device := { d with clock := ⟨n, 0, true⟩ }

theorem polled_holds (st : Station) : Polled st (polled st quiet) := ⟨rfl, true, rfl⟩

theorem polledIdle_holds (st : Station) : PolledIdle st (polled st quiet) := ⟨⟨rfl, true, rfl⟩, ⟨rfl, rfl⟩, rfl, rfl⟩

theorem tableOk_quiet : TableOk quiet := by
  refine ⟨by decide +kernel, ?_, by decide +kernel⟩
  decide +kernel

/-- FrontCommandRuns: the clock in reset, before and after the events of its instant have joined, with and without
something due, within a second and at its end, and each event that the statement names, due. -/
theorem witness_clock :
    let begun : Device := { quiet with clock := ⟨5, 0, true⟩ }
    let still : Device := phased (.serving .s1) begun
    let settledNow : Device := { quiet with accounts :=
      { quiet.accounts with two := { quiet.accounts.two with settled := true, candidate := some .rest } } }
    let waits := mkRecord .lamp (.lamp .c8) (.station .s2) .scheduled .awaitStart (.lamp 60)
    let woken : SubState → Device := fun sub =>
      { withRecord 6 (planRecord .one (plan sub 0)) still with
        clock := ⟨5, 99, true⟩, plans := ⟨⟨some ⟨6, 1⟩, some 0, .none, 7, .silent, 0⟩, PlanUnit.empty⟩ }
    ({ quiet with inReset := true } : Device).inReset = true ∧ quiet.inReset = false ∧ quiet.clock.begun = false ∧
    begun.clock.begun = true ∧ dueEvents begun ≠ [] ∧ dueEvents still = [] ∧ boundaryWaits still = false ∧
    dueEvents ({ still with clock := ⟨5, 99, true⟩ } : Device) = [] ∧
    boundaryWaits { still with sched := { still.sched with owed := some (false, false) } } = true ∧
    (settledNow.accounts.get .two).settled = true ∧ (settledNow.accounts.get .two).candidate ≠ none ∧
    ((⟨1, 1⟩ : Handle), waits) ∈ records (withRecord 1 waits quiet) ∧
    dueEvents (woken .due) = [] ∧ dueEvents (woken .waiting) = [] ∧
    livePlan (woken .due) .one = some (⟨6, 1⟩, planRecord .one (plan .due 0), plan .due 0) ∧
    livePlan (woken .waiting) .one = some (⟨6, 1⟩, planRecord .one (plan .waiting 0), plan .waiting 0) ∧
    livePlan (woken .due) .two = none := by decide +kernel

/-- InResetOnlyPowerOnActs. -/
theorem witness_in_reset : ({ quiet with inReset := true } : Device).inReset = true ∧ Instr.pollSend ≠ .reset ∧
    ∀ a b, Instr.pollSend ≠ .powerOn a b := by
  refine ⟨rfl, by decide, fun a b => by simp⟩

/-- WritesKeepOneGoodImage: both choices of the image, and both images under writing. -/
theorem witness_images :
    let rest := quiet.store
    let bUnder : Store := { rest with b := ⟨true, 3, Config.factory⟩ }
    let writesA : Store := { rest with a := ⟨false, 4, Config.factory⟩, b := ⟨true, 3, Config.factory⟩, writing := some .a, jobs := [⟨.floor 80, .nothing⟩] }
    (rest.writing = none ∧ rest.jobs = [] ∧ imageCount rest.a ≤ imageCount rest.b) ∧
    (bUnder.writing = none ∧ imageCount bUnder.a < imageCount bUnder.b ∧
      imageCount { bUnder with a := bUnder.b, b := rest.a }.b < imageCount { bUnder with a := bUnder.b, b := rest.a }.a) ∧
    StoreOk { quiet with store := writesA } ∧
    StoreOk { quiet with store := { writesA with a := writesA.b, b := writesA.a, writing := some .b } } ∧
    (∃ t u, exec .reset ⟨{ quiet with store := writesA }, []⟩ = .next t ∧
      exec (.powerOn true true) t = .next u) := by
  refine ⟨by decide, by decide, ?_, ?_, ⟨_, _, rfl, rfl⟩⟩
  · simp [StoreOk]
  · simp [StoreOk]

/-- AnsweredWriteCompletes: the end of a purge, with the answer of a CREATE held for it. -/
theorem witness_held_answer :
    let a : HeldAnswer := ⟨.s1, 0x12#8, .ok, .block ⟨0, 1⟩ 0 []⟩
    let j : Job := ⟨.markAndLockout false .none, .purgeEnd .off⟩
    let d := { quiet with
      store := { quiet.store with writing := some .a, jobs := [j] }
      link := { quiet.link with phase := .serving .s1, heldAnswer := some a }
      heater := { quiet.heater with state := .purge, waiting := true } }
    d.inReset = false ∧ d.store.writing = some .a ∧ d.store.jobs = j :: [] ∧ j.answers = false ∧
    (∀ st, j.cont ≠ .lockoutCleared st) ∧ (∀ st, .clear st ∉ d.heater.held) ∧ d.sched.late = [] ∧
    d.link.heldAnswer = some a := by
  refine ⟨by decide, by decide, by decide, by decide, ?_, ?_, by decide, by decide⟩
  · intro st h; injection h
  · intro st; simp [quiet, resetDevice, startDevice, startHeater]

/-- AnsweredWriteCompletes. -/
theorem witness_answered_write :
    let s := { quiet.store with writing := some .a, jobs := [⟨.floor 80, .answer .s1 0x24#8 .ok .floorAndMarks⟩] }
    quiet.inReset = false ∧ s.writing = some .a ∧ s.jobs = [⟨.floor 80, .answer .s1 0x24#8 .ok .floorAndMarks⟩] ∧
    quiet.heater.waiting = false ∧ quiet.sched.waiting = false := by
  decide

/-- PollingVisitsTheStations: ONLINE, OFFLINE with count 0, OFFLINE with the count at 1 and the next ONLINE, nobody
enabled, and the pause. -/
theorem witness_polling :
    quiet.link.phase = .ready ∧ quiet.link.pos = stationAddress .s1 ∧
    ((onlineAt .s1 quiet).link.stations.get .s1).link = .online ∧
    (quiet.link.stations.get .s1).link = .offline ∧ (quiet.link.stations.get .s1).skip = 0 ∧
    (let d := onlineAt .s2 (withStation .s1 (fun p => { p with skip := 1 }) quiet)
     stationAddress .s2 = stationAddress .s1 + 1 ∧ (d.link.stations.get .s1).link = .offline ∧
     (d.link.stations.get .s1).skip = 0 + 1 ∧ (d.link.stations.get .s2).link = .online) ∧
    quiet.link.polled = false ∧ (phased .pausing quiet).link.phase = .pausing := by decide

/-- PollingVisitsTheStations: after the last address, a cycle that has polled and whose first enabled station is ONLINE,
and every enabled station OFFLINE with a count of 1, at that address and at the first. -/
theorem witness_nobody :
    let p : StationLink := ⟨.disabled, 0, 0, [], Flags.none, .none⟩
    let q : StationLink := ⟨.offline, 0, 1, [], Flags.none, .none⟩
    let off : Link := { quiet.link with stations := ⟨q, q, q, q, p, p⟩ }
    let last : Link := { quiet.link with
      stations := ⟨p, { q with link := .online }, q, q, p, p⟩, pos := 7, polled := true }
    (last.phase = .ready ∧ last.pos = 7 ∧ last.polled = true ∧ (last.stations.get .s2).link = .online ∧
      (last.stations.get .s1).link = .disabled ∧ stationAddress .s1 < stationAddress .s2) ∧
    (off.phase = .ready ∧ off.pos = 1 ∧ off.polled = false ∧ ({ off with pos := 7, polled := true } : Link).pos = 7) ∧
    (∀ st, (off.stations.get st).link = .disabled ∨
      ((off.stations.get st).link = .offline ∧ 0 < (off.stations.get st).skip)) := by
  intro p q off last
  refine ⟨by decide, by decide, fun st => ?_⟩
  cases st
  · exact .inr (by decide)
  · exact .inr (by decide)
  · exact .inr (by decide)
  · exact .inr (by decide)
  · exact .inl (by decide)
  · exact .inl (by decide)

/-- NoticesGoInOrder: one station record for each notice. -/
theorem witness_notices :
    let f := Flags.none
    let p : Flags → List Entry → StationLink := fun f es => ⟨.online, 0, 0, es, f, .none⟩
    (p f []).link = .online ∧ (p { f with restarted := true } []).flags.restarted = true ∧
    (p { f with resync := true } []).flags.restarted = false ∧ (p { f with resync := true } []).flags.resync = true ∧
    (p { f with warning := ⟨true, false⟩ } []).flags.warning.one = true ∧
    (p { f with warning := ⟨false, true⟩ } []).flags.warning.one = false ∧
    (p { f with warning := ⟨false, true⟩ } []).flags.warning.two = true ∧
    (p { f with heater := true } []).flags.heater = true ∧
    (p { f with budget := true } []).flags.heater = false ∧ (p { f with budget := true } []).flags.budget = true ∧
    (p f []).entries = [] ∧ (p f [.live ⟨2, 1⟩]).entries = [.live ⟨2, 1⟩] ∧
    (p f [.retired ⟨5, 1⟩ .fridge .request]).entries = [.retired ⟨5, 1⟩ .fridge .request] := by decide

/-- RepliesAndMissesEndThePoll: a station ONLINE with one and with two misses, and one OFFLINE. -/
theorem witness_misses :
    let d := polled .s3 quiet
    let two := withStation .s3 (fun p => { p with missed := 2 }) d
    let gone := withStation .s3 (fun p => { p with link := .offline }) d
    Polled .s3 two ∧ Polled .s3 gone ∧ d.link.phase = .awaiting .s3 true ∧
    (d.link.stations.get .s3).missed + 1 < 3 ∧ 3 ≤ (two.link.stations.get .s3).missed + 1 ∧
    (two.link.stations.get .s3).link = .online ∧ (gone.link.stations.get .s3).link = .offline :=
  ⟨⟨rfl, true, rfl⟩, ⟨rfl, true, rfl⟩, rfl, by decide, by decide, rfl, rfl⟩

/-- RefusedRequestsChangeNothing: a bunk panel has no right at the station level, the dash has both. -/
theorem witness_rights :
    Polled .s2 (polled .s2 quiet) ∧ Polled .s1 (polled .s1 quiet) ∧
    ((polled .s2 quiet).settings.stations.get .s2).control = false ∧
    ((polled .s2 quiet).settings.stations.get .s2).configure = false ∧
    ((polled .s2 quiet).settings.stations.get .s2).role = .none ∧
    ((polled .s1 quiet).settings.stations.get .s1).configure = true ∧
    ([1#8] : List Byte).length = (1#8 : Byte).toNat :=
  ⟨polled_holds .s2, polled_holds .s1, rfl, rfl, rfl, rfl, rfl⟩

def lampRec (st : Station) : Record := mkRecord .lamp (.lamp .c8) (.station st) .granted .immediate (.lamp 60)

/-- LookupAnswersTheRecord: a stale handle, a function that no window reaches, an own record, another's record with and
without the LOOKUP right. -/
theorem witness_lookup :
    let d := withRecord 0 (lampRec .s2) (polled .s2 quiet)
    let o := withRecord 0 (mkRecord .auxOn .outlet (.station .s1) .granted .admitted .aux) (polled .s2 quiet)
    let deaf := stationSet .s1 (fun c => { c with windows := ⟨some ⟨0, 64, 0, ⟨false, true, false, true, false⟩⟩, none, none, none⟩ })
      (withRecord 0 (lampRec .s2) (polled .s1 quiet))
    Polled .s2 d ∧ Polled .s1 deaf ∧ lookup d ⟨(0x0101#16).toNat / 256, (0x0101#16).toNat % 256⟩ = none ∧
    lookup o ⟨(0x0001#16).toNat / 256, (0x0001#16).toNat % 256⟩ = some (mkRecord .auxOn .outlet (.station .s1) .granted .admitted .aux) ∧
    windowOf o .s2 .outlet = none ∧
    lookup d ⟨0, 1⟩ = some (lampRec .s2) ∧ (windowOf d .s2 (.lamp .c8)).isSome = true ∧
    (lampRec .s2).owner = .station .s2 ∧
    lookup deaf ⟨0, 1⟩ = some (lampRec .s2) ∧
    windowOf deaf .s1 (.lamp .c8) = some ⟨0, 64, 0, ⟨false, true, false, true, false⟩⟩ ∧
    (lampRec .s2).owner ≠ .station .s1 :=
  ⟨⟨rfl, true, rfl⟩, ⟨rfl, true, rfl⟩, by decide +kernel⟩

/-- ListsAnswerEightHandles, FirstWindowTranslates: from slot 47, the last; a number above 63, one without the LOOKUP right, one that no function
has, and a station with no LOOKUP right at all. -/
theorem witness_lists :
    Polled .s1 (polled .s1 quiet) ∧ (47#8 : Byte).toNat ≤ 47 ∧ ¬ (48#8 : Byte).toNat ≤ 47 ∧
    translate (polled .s1 quiet) .s1 (8#8 : Byte).toNat = some (fnNumber (.lamp .c8), ⟨0, 64, 0, Config.allRights⟩) ∧
    Config.allRights.lookup = true ∧
    (∃ w ∈ windowList (polled .s1 quiet) .s1, w.rights.lookup = true) ∧
    translate (polled .s1 quiet) .s1 (64#8 : Byte).toNat = none ∧
    (let deaf := stationSet .s1 (fun c => { c with windows := ⟨some ⟨0, 64, 0, ⟨false, true, true, true, true⟩⟩, none, none, none⟩ })
        (polled .s1 quiet)
     Polled .s1 deaf ∧
     translate deaf .s1 (8#8 : Byte).toNat = some (8, ⟨0, 64, 0, ⟨false, true, true, true, true⟩⟩) ∧
     ∀ w ∈ windowList deaf .s1, w.rights.lookup = false) ∧
    translate (polled .s1 quiet) .s1 (63#8 : Byte).toNat = some (63, ⟨0, 64, 0, Config.allRights⟩) ∧
    (∀ fn : Fn, fnNumber fn ≠ 63) := by
  refine ⟨polled_holds .s1, by decide +kernel, by decide, by decide +kernel, by decide, by decide +kernel, by decide +kernel,
    ⟨⟨rfl, true, rfl⟩, by decide +kernel, by decide +kernel⟩, by decide +kernel, fun fn => ?_⟩
  cases fn with
  | lamp c => cases c <;> decide
  | rest dr => cases dr <;> decide
  | heater => decide
  | fridge => decide
  | outlet => decide

/-- FirstWindowTranslates: above 63, no window, the third window of a bunk panel, and a global number above 63. -/
theorem witness_translation :
    let high := stationSet .s2 (fun c => { c with windows := ⟨some ⟨0, 8, 60, Config.allRights⟩, none, none, none⟩ }) quiet
    63 < 64 ∧ (∀ w ∈ windowList quiet .s2, ¬ (w.base ≤ 6 ∧ 6 < w.base + w.size)) ∧
    windowList quiet .s2 = [⟨0, 1, 0, Config.ownRights⟩, ⟨1, 1, 4, Config.ownRights⟩] ++
      ⟨2, 2, 8, Config.ownRights⟩ :: [⟨4, 2, 20, Config.ownRights⟩] ∧
    (∀ x ∈ [(⟨0, 1, 0, Config.ownRights⟩ : Window), ⟨1, 1, 4, Config.ownRights⟩], ¬ (x.base ≤ 3 ∧ 3 < x.base + x.size)) ∧
    windowList high .s2 = [] ++ ⟨0, 8, 60, Config.allRights⟩ :: [] ∧ ¬ 60 + (5 - 0) ≤ 63 := by decide +kernel

def lampBody (delay : Word16) : CreateBody := ⟨8#8, 2#8, 0xFF#8, delay, 0xFFFF#16, 0#8, .level 60#8⟩

/-- CreateSchedulesARecord, CreateLightsALamp: a LAMP of station 1 on channel 8, with the longest delay, with none sent
and with a delay of 0. -/
theorem witness_create :
    let d := polled .s1 quiet
    Polled .s1 d ∧ TableOk d ∧ fnKind (.lamp .c8) ≠ .restPlan ∧
    translate d .s1 (lampBody 1440#16).fn.toNat = some (fnNumber (.lamp .c8), ⟨0, 64, 0, Config.allRights⟩) ∧
    translate d .s1 (lampBody 0#16).fn.toNat = some (channelNumber .c8, ⟨0, 64, 0, Config.allRights⟩) ∧
    Config.allRights.changeOwn = true ∧
    kindOfCode (lampBody 1440#16).kind = some (fnKind (.lamp .c8)) ∧ createClass 0xFF#8 = some .comfort ∧
    createParams (fnKind (.lamp .c8)) (.level 60#8) = some (.lamp 60, [false]) ∧
    (lampBody 1440#16).delay ≠ 0xFFFF#16 ∧ (lampBody 1440#16).delay ≠ 0#16 ∧
    (lampBody 0#16).delay = 0#16 ∧ (lampBody 0xFFFF#16).delay = 0xFFFF#16 ∧ (60#8 : Byte) ≠ 0xFF#8 ∧
    (stationRecords d .s1).length < (d.settings.stations.get .s1).quota ∧
    (fnStationRecords d (.lamp .c8)).length < fnLimit (.lamp .c8) ∧ freeStationSlot d = some ⟨0, 1⟩ ∧
    (d.lamps.get .c8).fault = false ∧ d.table.causes.lamps.get .c8 = CauseSet.none ∧
    d.table.counter < 4294967295 ∧ (∀ hr ∈ records d, hr.2.seq ≤ d.table.counter) :=
  ⟨polled_holds .s1, tableOk_quiet, by decide +kernel⟩

def laneBody (cls : Byte) : CreateBody := ⟨16#8, 3#8, cls, 0#16, 0xFFFF#16, 0#8, .nothing⟩

def planBody (delay : Word16) : CreateBody :=
  ⟨20#8, 4#8, 0xFF#8, delay, 0xFFFF#16, 0#8, .plan ⟨540#16, 30#8, 40#16, 3#8, 60#8, 1#8⟩⟩

/-- CreateSchedulesARecord: the outlet with no delay, COMFORT, LEISURE with charge to spare and with none, and in
CHARGING. -/
theorem witness_create_lane :
    let d := polled .s1 quiet
    let b := laneBody 2#8
    let rich := { d with bank := { d.bank with q := 810000, uncalibrated := false } }
    let poor := { d with bank := { d.bank with q := 0 } }
    Polled .s1 d ∧ TableOk d ∧
    translate d .s1 b.fn.toNat = some (fnNumber (laneFn .aux), ⟨0, 64, 0, Config.allRights⟩) ∧
    Config.allRights.changeOwn = true ∧ kindOfCode b.kind = some (fnKind (laneFn .aux)) ∧
    createClass b.cls = some .leisure ∧ createClass (laneBody 0xFF#8).cls = some .comfort ∧
    createParams (fnKind (laneFn .aux)) b.fields = some (.aux, []) ∧ b.delay = 0#16 ∧
    (stationRecords d .s1).length < (d.settings.stations.get .s1).quota ∧
    (fnStationRecords d (laneFn .aux)).length < fnLimit (laneFn .aux) ∧ freeStationSlot d = some ⟨0, 1⟩ ∧
    ⟨0, 1⟩ ∉ d.table.queue ∧ d.table.counter < 4294967295 ∧
    rich.budget.mode = .nominal ∧ 0 ≤ (project rich rich.budget.modes rich.budget.cap (some .aux)).m ∧
    poor.budget.mode = .nominal ∧ (project poor poor.budget.modes poor.budget.cap (some .aux)).m < 0 ∧
    (∀ hr ∈ records poor, hr.2.fn ≠ laneFn .aux) ∧
    ({ d with budget := { d.budget with mode := .charging } } : Device).budget.mode = .charging :=
  ⟨polled_holds .s1, tableOk_quiet, by decide +kernel⟩

/-- CreateSchedulesARecord: a plan with a delay, one without while the driver drives, and one in a rest that calls for
each sub-state, its INTERNAL slot free. -/
theorem witness_create_plan :
    let d := polled .s1 quiet
    let b := planBody 0xFFFF#16
    let p : PlanRec := ⟨540, 30, some 40, some ⟨⟨true, true, false, false, false, false⟩, 60⟩, true, .waiting, none, false, none⟩
    let resting := { d with accounts := { d.accounts with one := { d.accounts.one with effective := .rest, restStart := some 0 } } }
    Polled .s1 d ∧ TableOk d ∧
    translate d .s1 b.fn.toNat = some (fnNumber (.rest .one), ⟨0, 64, 0, Config.allRights⟩) ∧
    Config.allRights.changeOwn = true ∧ kindOfCode b.kind = some .restPlan ∧ createClass b.cls = some .comfort ∧
    b.fields = .plan ⟨540#16, 30#8, 40#16, 3#8, 60#8, 1#8⟩ ∧
    createParams .restPlan b.fields = some (.plan p, [false, false, false, false, false, false]) ∧
    ¬ ((planBody 0#16).delay = 0xFFFF#16 ∧ (planBody 0#16).duration = 0xFFFF#16) ∧
    b.delay = 0xFFFF#16 ∧ b.duration = 0xFFFF#16 ∧
    (stationRecords d .s1).length < (d.settings.stations.get .s1).quota ∧
    fnStationRecords d (.rest .one) = [] ∧ freeStationSlot d = some ⟨0, 1⟩ ∧ d.table.counter < 4294967294 ∧
    causesOf d.table.causes (.rest .one) = CauseSet.none ∧
    (d.accounts.get .one).effective ≠ .rest ∧ (resting.accounts.get .one).effective = .rest ∧
    (resting.accounts.get .one).restStart = some 0 ∧ ¬ 32400 ≤ 30599 ∧ ¬ 32400 ≤ 30599 + p.lead * 60 ∧
    32400 ≤ 30600 + p.lead * 60 ∧ p.preheat = some 40 ∧ d.table.slots[46]? = some ⟨1, none⟩ :=
  ⟨polled_holds .s1, tableOk_quiet, by decide +kernel⟩

/-- FullTablesRefuseCreates, FirstWindowTranslates: the port's checks and checks 1 to 4, each met by a body of its own. -/
theorem witness_create_refused :
    let d := polled .s1 quiet
    let mute := stationSet .s1 (fun c => { c with windows := ⟨some ⟨0, 64, 0, ⟨true, false, false, true, true⟩⟩, none, none, none⟩ }) d
    let b := lampBody 0#16
    let bad : CreateBody := { b with kind := 5#8, fields := .nothing }
    let wrong : CreateBody := { b with kind := 3#8, fields := .nothing }
    fieldsFit (kindOfCode b.kind) b.fields = true ∧ fieldsFit (kindOfCode bad.kind) bad.fields = true ∧
    fieldsFit (kindOfCode wrong.kind) wrong.fields = true ∧
    translate d .s1 (64#8 : Byte).toNat = none ∧
    translate mute .s1 b.fn.toNat = some (8, ⟨0, 64, 0, ⟨true, false, false, true, true⟩⟩) ∧
    translate d .s1 (63#8 : Byte).toNat = some (63, ⟨0, 64, 0, Config.allRights⟩) ∧
    translate d .s1 b.fn.toNat = some (8, ⟨0, 64, 0, Config.allRights⟩) ∧ fnNumber (.lamp .c8) = 8 ∧
    Config.allRights.changeOwn = true ∧ 4 < bad.kind.toNat ∧ wrong.kind.toNat ≤ 4 ∧
    wrong.kind.toNat ≠ kindCode (fnKind (.lamp .c8)) ∧ b.kind.toNat = kindCode (fnKind (.lamp .c8)) ∧
    (3#8 : Byte) ≠ 0xFF#8 ∧ classOfCode 3#8 = none ∧
    fieldsFit (some .lamp) (.level 0xFF#8) = true ∧ fieldsFit (some .coolHold) (.temp 0x7FFF#16) = true ∧
    fieldsFit (some .restPlan) (.plan ⟨0xFFFF#16, 30#8, 40#16, 3#8, 60#8, 1#8⟩) = true ∧
    fieldsFit (kindOfCode (planBody 5#16).kind) (planBody 5#16).fields = true ∧
    fnKind (.rest .one) = .restPlan ∧ (planBody 5#16).kind.toNat = kindCode (fnKind (.rest .one)) ∧
    ¬ ((planBody 5#16).delay = 0xFFFF#16 ∧ (planBody 5#16).duration = 0xFFFF#16) := by decide +kernel

/-- FullTablesRefuseCreates: a quota of 0, four records on the channel, and every station slot taken by another channel's
records; and the same three of a REST_PLAN, whose driver has a plan. -/
theorem witness_full :
    let d := polled .s1 quiet
    let none' := stationSet .s1 (fun c => { c with quota := 0 }) d
    let four := withRecord 3 (lampRec .s2) (withRecord 2 (lampRec .s2) (withRecord 1 (lampRec .s2) (withRecord 0 (lampRec .s2) d)))
    let other := mkRecord .lamp (.lamp .c13) (.station .s4) .granted .immediate (.lamp 10)
    let full := { d with table := { d.table with slots := List.replicate 46 ⟨1, some other⟩ ++ List.replicate 2 ⟨1, none⟩ } }
    let b := planBody 0xFFFF#16
    let p : PlanRec := ⟨540, 30, some 40, some ⟨⟨true, true, false, false, false, false⟩, 60⟩, true, .waiting, none, false, none⟩
    let bound := withRecord 6 (planRecord .one (plan .waiting 0)) d
    translate d .s1 b.fn.toNat = some (fnNumber (.rest .one), ⟨0, 64, 0, Config.allRights⟩) ∧
    kindOfCode b.kind = some (fnKind (.rest .one)) ∧
    createParams (fnKind (.rest .one)) b.fields = some (.plan p, [false, false, false, false, false, false]) ∧
    b.delay = 0xFFFF#16 ∧ b.duration = 0xFFFF#16 ∧
    ¬ (bound.settings.stations.get .s1).quota ≤ (stationRecords bound .s1).length ∧
    fnLimit (.rest .one) ≤ (fnStationRecords bound (.rest .one)).length ∧
    ¬ fnLimit (.rest .one) ≤ (fnStationRecords full (.rest .one)).length ∧
    (none'.settings.stations.get .s1).quota ≤ (stationRecords none' .s1).length ∧
    fnLimit (.lamp .c8) ≤ (fnStationRecords four (.lamp .c8)).length ∧
    ¬ (four.settings.stations.get .s1).quota ≤ (stationRecords four .s1).length ∧
    ¬ (full.settings.stations.get .s1).quota ≤ (stationRecords full .s1).length ∧
    ¬ fnLimit (.lamp .c8) ≤ (fnStationRecords full (.lamp .c8)).length ∧ freeStationSlot full = none := by
  decide +kernel

/-- CreateLightsALamp, AmendReplacesGivenFields: a faulted channel with a record SUSPENDED for it, whose owner's set names
it already. -/
theorem witness_faulted :
    let r := { lampRec .s2 with state := .suspended, reason := .channelFault }
    let d := withRecord 0 r (withStation .s2 (fun p => { p with entries := [.live ⟨0, 1⟩] }) (onlineAt .s2 (polled .s1 quiet)))
    let f : Device := { d with
      lamps := { d.lamps with c8 := { d.lamps.c8 with fault := true } }
      table := { d.table with causes := { d.table.causes with
        lamps := { d.table.causes.lamps with c8 := { CauseSet.none with channelFault := true } } } } }
    Polled .s1 f ∧ TableOk f ∧ SetsOk f ∧ KindsOk f ∧ (f.lamps.get .c8).fault = true ∧
    f.table.causes.lamps.get .c8 = { CauseSet.none with channelFault := (f.lamps.get .c8).fault } ∧
    (fnStationRecords f (.lamp .c8)).length < 4 ∧ (⟨0, 1⟩, r) ∈ records f ∧ r.state = .suspended ∧
    r.owner = .station .s2 ∧ ((afterReply .s1 f).get .s2).link = .online ∧ freeStationSlot f = some ⟨1, 1⟩ := by
  intro r d f
  refine ⟨⟨rfl, true, rfl⟩, ⟨by decide +kernel, by decide +kernel, by decide +kernel⟩, ⟨fun st => ?_, rfl, rfl⟩,
    fun h x e => ?_, by decide +kernel⟩
  case refine_2 =>
    have m := mem_records_of_lookup e
    rw [show records f = [(⟨0, 1⟩, r)] by decide +kernel] at m
    obtain ⟨rfl, rfl⟩ := Prod.mk.inj (List.mem_singleton.mp m)
    decide
  cases st
  case s2 =>
    refine ⟨by decide, fun h m => ⟨r, ?_⟩⟩
    obtain rfl : h = ⟨0, 1⟩ := by simpa [f, d, polled, onlineAt, phased, withRecord, withSlot, withStation, PerStation.set, PerStation.get] using m
    exact ⟨by decide +kernel, by decide +kernel⟩
  all_goals exact ⟨by decide, fun h m => absurd m List.not_mem_nil⟩

/-- AmendReplacesGivenFields, RetireFreesTheSlot: station 2's own lamp, and an INTERNAL record in its slot. -/
theorem witness_amend :
    let d := withRecord 0 (lampRec .s2) (polled .s2 quiet)
    let b : AmendBody := ⟨0x0001#16, 2#8, 0x03#8, 2#8, 1440#16, 0#8, .level 0xFF#8⟩
    let inner := mkRecord .heatHold .heater .internal .granted .admitted (.heat 40 (some ⟨6, 1⟩))
    let e := withRecord 46 inner (polled .s1 quiet)
    Polled .s2 d ∧ Polled .s1 e ∧ lookup d ⟨b.handle.toNat / 256, b.handle.toNat % 256⟩ = some (lampRec .s2) ∧
    (lampRec .s2).fn = .lamp .c8 ∧ (lampRec .s2).kind = .lamp ∧ (lampRec .s2).params = .lamp 60 ∧
    (lampRec .s2).owner ≠ .internal ∧ windowOf d .s2 (.lamp .c8) = some ⟨2, 2, 8, Config.ownRights⟩ ∧
    Config.ownRights.changeOwn = true ∧ Config.ownRights.retireOwn = true ∧ (lampRec .s2).owner = .station .s2 ∧
    b.kind = 2#8 ∧ b.mask.getLsbD 4 = false ∧
    ((b.mask.getLsbD 1 && b.duration != 0xFFFF#16) && b.mask.getLsbD 2) = false ∧
    (classOfCode b.cls).isSome = true ∧ (d.lamps.get .c8).fault = false ∧ d.table.counter < 4294967295 ∧
    restDriver (lampRec .s2).fn = none ∧
    lookup e ⟨(0x2E01#16).toNat / 256, (0x2E01#16).toNat % 256⟩ = some inner ∧ restDriver inner.fn = none ∧
    windowOf e .s1 inner.fn = some ⟨0, 64, 0, Config.allRights⟩ ∧ inner.owner = .internal :=
  ⟨⟨rfl, true, rfl⟩, ⟨rfl, true, rfl⟩, by decide +kernel⟩

/-- AmendReplacesGivenFields: a heat record that is GRANTED, one DEFERRED that is raised to ESSENTIAL by station 1, which
has CONTROL, and one only raised to COMFORT. -/
theorem witness_amend_lane :
    let rec' := fun st c => { mkRecord .heatHold .heater (.station .s1) st .admitted (.heat 42 none) with cls := c }
    let d := fun st c => withRecord 0 (rec' st c) (polled .s1 quiet)
    let b : AmendBody := ⟨0x0001#16, 0#8, 0x0B#8, 0#8, 1440#16, 0#8, .temp 61#16⟩
    (∀ st c, Polled .s1 (d st c) ∧ lookup (d st c) ⟨b.handle.toNat / 256, b.handle.toNat % 256⟩ = some (rec' st c)) ∧
    TableOk (d .granted .comfort) ∧ TableOk (d .deferred .leisure) ∧
    (rec' .granted .comfort).fn = laneFn .heat ∧ (rec' .granted .comfort).kind = fnKind (laneFn .heat) ∧
    windowOf (d .deferred .leisure) .s1 (laneFn .heat) = some ⟨0, 64, 0, Config.allRights⟩ ∧
    Config.allRights.changeAny = true ∧ (rec' .deferred .leisure).owner ≠ .internal ∧
    kindOfCode b.kind = some .heatHold ∧ fieldsFit (kindOfCode b.kind) b.fields = true ∧ b.mask.getLsbD 4 = false ∧
    ((b.mask.getLsbD 1 && b.duration != 0xFFFF#16) && b.mask.getLsbD 2) = false ∧ classOfCode b.cls = some .essential ∧
    (quiet.settings.stations.get .s1).control = true ∧ (rec' .deferred .leisure).cls ≠ .essential ∧
    classOfCode 1#8 = some .comfort ∧ quiet.table.counter < 4294967295 := by
  intro rec' d b
  refine ⟨fun st c => ⟨⟨rfl, true, rfl⟩, by cases st <;> cases c <;> decide +kernel⟩, ⟨by decide +kernel, by decide +kernel, by decide +kernel⟩,
    ⟨by decide +kernel, by decide +kernel, by decide +kernel⟩, by decide +kernel⟩

/-- AmendReplacesGivenFields: an ACTIVE plan of station 2, bound at second 0, and a WAITING one. -/
theorem witness_amend_plan :
    let d := withRecord 6 (planRecord .one (plan .active 32400)) (polled .s2 quiet)
    let d : Device := { d with plans := ⟨⟨some ⟨6, 1⟩, some 0, .none, 0, .none, 0⟩, PlanUnit.empty⟩ }
    let p : PlanRec := { plan .active 32400 with sub := .waiting, plannedEnd := none }
    let w := withRecord 6 (planRecord .one p) d
    let w : Device := { w with plans := ⟨{ PlanUnit.empty with plan := some ⟨6, 1⟩ }, PlanUnit.empty⟩ }
    Polled .s2 d ∧ TableOk d ∧ Polled .s2 w ∧ TableOk w ∧
    livePlan d .one = some (⟨6, 1⟩, planRecord .one (plan .active 32400), plan .active 32400) ∧
    livePlan w .one = some (⟨6, 1⟩, planRecord .one p, p) ∧ (w.plans.get .one).binding = none ∧
    (d.plans.get .one).binding = some 0 ∧ (planRecord .one p).owner = .station .s2 ∧
    windowOf d .s2 (.rest .one) = some ⟨4, 2, 20, Config.ownRights⟩ ∧ Config.ownRights.changeOwn = true ∧
    (0x08#8 : Byte).getLsbD 0 = false ∧ (0x08#8 : Byte).getLsbD 1 = false ∧ (0x08#8 : Byte).getLsbD 2 = false ∧
    (0x08#8 : Byte).getLsbD 4 = false ∧ d.table.counter < 4294967294 ∧ (classOfCode 2#8).isSome = true ∧
    (∀ i : Fin 6, (0#8 : Byte).getLsbD i = false) ∧ (∃ i : Fin 6, (32#8 : Byte).getLsbD i = true) := by
  refine ⟨⟨rfl, true, rfl⟩, ⟨by decide +kernel, by decide +kernel, by decide +kernel⟩, ⟨rfl, true, rfl⟩,
    ⟨by decide +kernel, by decide +kernel, by decide +kernel⟩, by decide +kernel⟩

/-- R185, R180: in the second in which an ACTIVE plan reaches its end less its lead of 30 min, an AMEND of the buzzer alone,
or of a length that it has, leaves it ACTIVE; a lead of 31 min moves it to WAKING. -/
theorem test_amend_moves_on_a_change_alone :
    let d := sec 30600 (withRecord 6 (planRecord .one (plan .active 32400)) (polled .s2 quiet))
    let d : Device := { d with plans := ⟨⟨some ⟨6, 1⟩, some 0, .none, 0, .none, 0⟩, PlanUnit.empty⟩ }
    let after := fun f : PlanFields =>
      match exec (.amend (some ⟨0x0601#16, 4#8, 0#8, 0#8, 0#16, 0#8, .plan f⟩)) ⟨d, []⟩ with
      | .next t => (lookup t.dev ⟨6, 1⟩).bind planOf |>.map fun p => (p.sub, p.plannedEnd)
      | _ => none
    leadReached 30600 (plan .active 32400) = true ∧
    after ⟨0xFFFF#16, 0xFF#8, 0x7FFF#16, 0#8, 0xFF#8, 0#8⟩ = some (.active, some 32400) ∧
    after ⟨540#16, 0xFF#8, 0x7FFF#16, 0#8, 0xFF#8, 0xFF#8⟩ = some (.active, some 32400) ∧
    after ⟨0xFFFF#16, 31#8, 0x7FFF#16, 0#8, 0xFF#8, 0xFF#8⟩ = some (.waking, some 32400) := by decide +kernel

/-- AmendReplacesGivenFields: each refusal. The other bunk's lamp is out of the station's windows, the dash may change any
record but an INTERNAL one. -/
theorem witness_amend_refused :
    let d := withRecord 0 (lampRec .s2) (polled .s3 quiet)
    let mine := withRecord 0 (lampRec .s2) (polled .s2 quiet)
    let deaf := stationSet .s2 (fun c => { c with windows := ⟨some ⟨0, 64, 0, ⟨true, false, false, true, true⟩⟩, none, none, none⟩ }) mine
    let inner := mkRecord .heatHold .heater .internal .granted .admitted (.heat 40 (some ⟨6, 1⟩))
    let e := withRecord 46 inner (polled .s1 quiet)
    lookup d ⟨1, 1⟩ = none ∧ lookup d ⟨0, 1⟩ = some (lampRec .s2) ∧ windowOf d .s3 (.lamp .c8) = none ∧
    windowOf deaf .s2 (.lamp .c8) = some ⟨0, 64, 0, ⟨true, false, false, true, true⟩⟩ ∧
    lookup e ⟨46, 1⟩ = some inner ∧ windowOf e .s1 .heater = some ⟨0, 64, 0, Config.allRights⟩ ∧
    windowOf mine .s2 (.lamp .c8) = some ⟨2, 2, 8, Config.ownRights⟩ ∧ Config.ownRights.changeOwn = true ∧
    kindOfCode 3#8 ≠ some .lamp ∧ fieldsFit (kindOfCode 3#8) .nothing = true ∧ kindOfCode 2#8 = some .lamp ∧
    fieldsFit (kindOfCode 2#8) (.level 5#8) = true ∧ (0x10#8 : Byte).getLsbD 4 = true ∧
    ((0x06#8 : Byte).getLsbD 1 = true ∧ (0x06#8 : Byte).getLsbD 2 = true) ∧ (0x01#8 : Byte).getLsbD 0 = true ∧
    classOfCode 0xFF#8 = none := by decide +kernel

/-- RetireFreesTheSlot: a stale handle, a record that no window of the station reaches, and another's record with the
right to retire its own alone. -/
theorem witness_retire_refused :
    let d := withRecord 0 (lampRec .s2) (polled .s1 quiet)
    let shut := stationSet .s1 (fun c => { c with windows := ⟨some ⟨0, 1, 0, Config.allRights⟩, none, none, none⟩ }) d
    let mute := stationSet .s1 (fun c => { c with windows := ⟨some ⟨0, 64, 0, ⟨true, true, true, true, false⟩⟩, none, none, none⟩ }) d
    let h : Handle := ⟨(0x0001#16 : Word16).toNat / 256, (0x0001#16 : Word16).toNat % 256⟩
    Polled .s1 d ∧ Polled .s1 shut ∧ Polled .s1 mute ∧ lookup d ⟨0, 2⟩ = none ∧ lookup shut h = some (lampRec .s2) ∧
    windowOf shut .s1 (.lamp .c8) = none ∧ lookup mute h = some (lampRec .s2) ∧
    windowOf mute .s1 (.lamp .c8) = some ⟨0, 64, 0, ⟨true, true, true, true, false⟩⟩ ∧
    (lampRec .s2).owner ≠ .station .s1 := by
  refine ⟨⟨rfl, true, rfl⟩, ⟨rfl, true, rfl⟩, ⟨rfl, true, rfl⟩, by decide +kernel⟩

/-- RetireFreesTheSlot: the dash retires the bunk's lamp, whose owner is ONLINE, and a plan that is DUE with its call and
its ramp. -/
theorem witness_retire :
    let d := onlineAt .s2 (withRecord 0 (lampRec .s2) (polled .s1 quiet))
    let q := withRecord 6 (planRecord .one (plan .due 93060)) (polled .s1 quiet)
    let q : Device := { q with plans := ⟨⟨some ⟨6, 1⟩, some 60660, .held 60, 1800, .calling, 0⟩, PlanUnit.empty⟩ }
    Polled .s1 d ∧ Polled .s1 q ∧ TableOk q ∧ lookup d ⟨(0x0001#16).toNat / 256, (0x0001#16).toNat % 256⟩ = some (lampRec .s2) ∧
    windowOf d .s1 (.lamp .c8) = some ⟨0, 64, 0, Config.allRights⟩ ∧ Config.allRights.retireAny = true ∧
    (lampRec .s2).owner = .station .s2 ∧ Station.s2 ≠ .s1 ∧ (d.link.stations.get .s2).link = .online ∧
    lookup q ⟨(0x0601#16).toNat / 256, (0x0601#16).toNat % 256⟩ = some (planRecord .one (plan .due 93060)) ∧
    windowOf q .s1 (.rest .one) = some ⟨0, 64, 0, Config.allRights⟩ ∧ (q.plans.get .one).ramp ≠ .none ∧
    (q.plans.get .one).call = .calling ∧ (quiet.plans.get .one).call ≠ .calling := by
  refine ⟨⟨rfl, true, rfl⟩, ⟨rfl, true, rfl⟩, ⟨by decide +kernel, by decide +kernel, by decide +kernel⟩,
    by decide +kernel⟩

def account (f : Account → Account) (d : Device) : Device :=
  { d with accounts := d.accounts.set (f (d.accounts.get .one)) .one }

theorem accountsOk_quiet : AccountsOk quiet := by
  intro dr; cases dr <;> (refine ⟨?_, ?_, ?_⟩ <;> decide +kernel)

/-- AcknowledgementSilences: the second after an onset, two seconds after it with the warning standing and the call
sounding. -/
theorem witness_ack :
    let d := sec 93101 (account (fun a => { a with
      lastOnset := some 93100, ack := .unacknowledged, warnings := { Warnings.none with driveDue := true }, cd := 16200 }) (polled .s2 quiet))
    let later := sec 93102 d
    Polled .s2 d ∧ AccountsOk d ∧ (1#8 : Byte).toNat = driverNumber .one ∧
    (∃ t, (d.accounts.get .one).lastOnset = some t ∧ d.clock.sec ≤ t + 1) ∧
    (∀ t, (later.accounts.get .one).lastOnset = some t → t + 1 < later.clock.sec) ∧
    (later.accounts.get .one).ack = .unacknowledged ∧ (quiet.accounts.get .one).ack ≠ .unacknowledged ∧
    (0#8 : Byte).toNat ≠ 1 ∧ (3#8 : Byte).toNat ≠ 2 ∧ AccountsOk later := by
  refine ⟨⟨rfl, true, rfl⟩, ?_, by decide, ⟨93100, by decide⟩, ?_, by decide, by decide, by decide, by decide, ?_⟩
  · intro dr; cases dr <;> (refine ⟨?_, ?_, ?_⟩ <;> decide +kernel)
  · intro t ht
    have : (93100 : Nat) = t := by injection ht
    subst this; decide
  · intro dr; cases dr <;> (refine ⟨?_, ?_, ?_⟩ <;> decide +kernel)

/-- ScheduleWriteIsTakenWholeOrNotAtAll: the last 16 entries of the standby table, a first entry that is bad in each
of the three ways after a good one, a table code of 2, counts of 0 and 17, and a run to index 64. -/
theorem witness_schedule_write :
    let d := polled .s1 quiet
    let run : ScheduleRun := ⟨1#8, 48#8, 16#8, List.replicate 16 3#8⟩
    let bad : Byte → ScheduleRun := fun b => ⟨1#8, 0#8, 2#8, [1#8, b]⟩
    let c := d.settings.currents
    PolledIdle .s1 d ∧ (d.settings.stations.get .s1).control = true ∧ tableOfCode run.table = some .b ∧
    TableId.b ≠ d.settings.active ∧ tableOfCode 0#8 = some d.settings.active ∧
    run.count.toNat ≤ 16 ∧ run.first.toNat + run.count.toNat = 64 ∧ run.entries.length = run.count.toNat ∧
    (d.settings.tables.get .b).entries.length = 64 ∧
    laneSetOfByte 3#8 = some ⟨true, true, false, false⟩ ∧ entryCurrent c ⟨true, true, false, false⟩ ≤ c.peak ∧
    (bad 16#8).entries = [1#8] ++ 16#8 :: [] ∧ laneSetOfByte 1#8 = some ⟨true, false, false, false⟩ ∧
    entryCurrent c ⟨true, false, false, false⟩ ≤ c.peak ∧ laneSetOfByte 16#8 = none ∧
    laneSetOfByte 2#8 = some ⟨false, true, false, false⟩ ∧
    laneSetOfByte 15#8 = some ⟨true, true, true, true⟩ ∧ c.peak < entryCurrent c ⟨true, true, true, true⟩ ∧
    1 < (2#8 : Byte).toNat ∧ (17#8 : Byte).toNat = 16 + 1 ∧ (49#8 : Byte).toNat + (16#8 : Byte).toNat = 64 + 1 ∧
    (∀ n ∈ [0#8, 16#8, 17#8], (ScheduleRun.mk 1#8 0#8 n (List.replicate n.toNat 1#8)).entries.length = n.toNat) :=
  ⟨polledIdle_holds .s1, by decide +kernel⟩

/-- LengthAndCopyReachTheStandbyTable, SwapSetsOrClearsTheMark, FloorFallsOnlyUnlocked,
ProtectAndClearTakeEffectWhenWritten: unlocked, and locked with a lower floor and a set that lacks HEAT. -/
theorem witness_locked :
    let d := polled .s1 quiet
    let l := { d with bank := { d.bank with cabMark := true, fleetMark := true } }
    PolledIdle .s1 l ∧ (l.settings.stations.get .s1).control = true ∧
    tableOfCode 1#8 = some .b ∧ tableOfCode 0#8 = some d.settings.active ∧
    l.bank.cabMark = true ∧ l.bank.fleetMark = true ∧ min (69#16 : Word16).toNat l.settings.capacity < l.settings.floor ∧
    ¬ min (70#16 : Word16).toNat l.settings.capacity < l.settings.floor ∧
    (d.settings.stations.get .s1).role = .cab ∧ (d.settings.stations.get .s4).role = .fleet ∧
    16 ≤ (16#8 : Byte).toNat ∧ (2#8 : Byte).getLsbD 1 = true ∧
    (12#8 : Byte).toNat < 16 ∧ (12#8 : Byte).getLsbD 1 = false ∧ l.settings.protectedSet.heat = true ∧
    (12#8 : Byte).getLsbD 0 = false ∧ (5#8 : Byte).getLsbD 0 = true ∧
    l.settings.protectedSet.cool = false ∧ l.settings.protectedSet.aux = false :=
  ⟨⟨⟨rfl, true, rfl⟩, ⟨rfl, rfl⟩, rfl, rfl⟩, by decide +kernel⟩

/-- EveryStepKeepsLockCausesAndSets: both marks set, at rest and with a higher floor asked for. -/
theorem witness_locked_step :
    let l := { polled .s1 quiet with bank := { quiet.bank with cabMark := true, fleetMark := true } }
    let w := { phased (.serving .s1) l with store := { l.store with
      writing := some .a, jobs := [⟨.floor 80, .answer .s1 0x24#8 .ok .floorAndMarks⟩] } }
    LockOk l ∧ Locked l ∧ LockOk w ∧ Locked w ∧ (∃ t, step ⟨w, [.storeWriteComplete]⟩ = .next t) := by
  intro l w
  refine ⟨⟨⟨by decide, fun _ => ⟨by decide, fun h => absurd h (by decide)⟩⟩,
      fun _ j hj => absurd (show j ∈ ([] : List Job) from hj) List.not_mem_nil⟩, ⟨rfl, rfl⟩,
    ⟨⟨by decide, fun _ => ⟨by decide, fun _ => ⟨.s1, rfl⟩⟩⟩, fun _ j hj => ?_⟩, ⟨rfl, rfl⟩, ⟨_, rfl⟩⟩
  obtain rfl : j = ⟨.floor 80, .answer .s1 0x24#8 .ok .floorAndMarks⟩ := by simpa [w] using hj
  exact ⟨by decide, fun l h => h⟩

/-- The INTERNAL record of the plan in slot 6, the second that the table created. -/
def bondedInner : Record :=
  { mkRecord .heatHold .heater .internal .suspended .cutoff (.heat 40 (some ⟨6, 1⟩)) with seq := 2 }

/-- A plan of station 2 with its INTERNAL record, both in station 2's set, in CUTOFF, while a change of the peak limit is
written and a frame boundary is owed. -/
def bonded : Device :=
  let d := withRecord 46 bondedInner (withRecord 6 (planRecord .one (plan .waking 93060)) (onlineAt .s2 quiet))
  let c := d.table.causes
  let off := fun c : CauseSet => { c with cutoff := true }
  phased (.serving .s1) (withStation .s2 (fun p => { p with entries := [.live ⟨6, 1⟩, .live ⟨46, 1⟩] }) { d with
    table := { d.table with
      counter := 2, causes := { c with heater := off c.heater, fridge := off c.fridge, outlet := off c.outlet } }
    budget := { d.budget with mode := .cutoff, modes := ⟨.off, .off, .off⟩ }
    plans := ⟨⟨some ⟨6, 1⟩, some 60660, .rising 0, 0, .none, 0⟩, PlanUnit.empty⟩
    sched := { d.sched with waiting := true, owed := some (true, true), perm := ⟨false, false, false⟩ }
    store := { d.store with
      writing := some .a, jobs := [⟨.num (.current .peak) 700, .answer .s1 0x30#8 .ok (.bytes [])⟩] } })

theorem bonded_records :
    records bonded = [(⟨6, 1⟩, planRecord .one (plan .waking 93060)), (⟨46, 1⟩, bondedInner)] := by decide +kernel

theorem bonded_granted (fn : Fn) (r : Record) (h : GrantedOn bonded fn r) : fn = .rest .one := by
  obtain ⟨h, m, e, k⟩ := h
  rw [bonded_records] at m
  rcases List.mem_pair.mp m with m | m <;> obtain ⟨rfl, rfl⟩ := Prod.mk.inj m
  · exact e.symm
  · cases k

/-- EveryStepKeepsLockCausesAndSets: such a state and a step of it. -/
theorem witness_bonds :
    BooksOk bonded ∧ BondsOk bonded ∧ bonded.inReset = false ∧ bonded.budget.mode = .cutoff ∧ bonded.sched.owed.isSome = true ∧ (bonded.store.jobs.map Job.ofCurrent) = [true] ∧
    (∃ t, step ⟨bonded, [.storeWriteComplete]⟩ = .next t) := by
  refine ⟨⟨⟨by decide +kernel, by decide +kernel, by decide +kernel⟩, fun st => ?_, by unfold ChargeOk; decide,
      fun dr => ?_, ⟨by decide, by decide⟩, ⟨by decide, by decide, by decide⟩,
      fun _ => ⟨by decide, by decide, by decide, fun h => absurd h (by decide)⟩⟩,
    ⟨⟨by decide, fun _ => ⟨by decide, fun _ => ⟨.s1, rfl⟩⟩⟩, ?_, fun _ => ⟨by decide, by decide, by decide, by decide⟩,
      ⟨?_, ?_⟩, ⟨?_, rfl, rfl⟩, ?_, ⟨fun t => ⟨fun e => ?_, fun e => ?_⟩, fun t => ⟨fun e => ?_, fun e => ?_⟩,
      ⟨fun e => ?_, fun e => ?_⟩, fun c => ⟨fun _ => ?_, fun r x g => ?_⟩⟩, by decide +kernel, by decide +kernel⟩, rfl, rfl, rfl,
    rfl, ⟨_, rfl⟩⟩
  · cases st <;> (refine ⟨?_, ?_, ?_⟩ <;> decide)
  · cases dr <;> (refine ⟨?_, ?_, ?_⟩ <;> decide)
  · intro l; cases l <;> decide
  · intro dr h e
    cases dr
    · obtain rfl : (⟨6, 1⟩ : Handle) = h := by injection e
      exact ⟨planRecord .one (plan .waking 93060), by decide +kernel, rfl⟩
    · cases e
  · intro h r e
    have m := mem_records_of_lookup e
    rw [bonded_records] at m
    rcases List.mem_pair.mp m with m | m <;> obtain ⟨rfl, rfl⟩ := Prod.mk.inj m
    · refine ⟨fun dr k => ?_, by decide, fun k => absurd k (by decide)⟩
      cases dr
      · decide
      · exact absurd k (by decide)
    · refine ⟨fun dr k => ?_, by decide, fun _ => ⟨rfl, .one, 40, ⟨6, 1⟩, by decide, rfl, rfl⟩⟩
      cases dr <;> exact absurd k (by decide)
  · intro st
    cases st
    case s2 =>
      refine ⟨by decide, fun h m => ?_⟩
      have m' : h = ⟨6, 1⟩ ∨ h = ⟨46, 1⟩ := by
        simpa [bonded, phased, withStation, PerStation.set, PerStation.get] using m
      rcases m' with rfl | rfl
      · exact ⟨planRecord .one (plan .waking 93060), by decide +kernel, by decide +kernel⟩
      · exact ⟨bondedInner, by decide +kernel, by decide +kernel⟩
    all_goals exact ⟨by decide, fun h m => absurd m List.not_mem_nil⟩
  · intro h r e
    have m := mem_records_of_lookup e
    rw [bonded_records] at m
    rcases List.mem_pair.mp m with m | m <;> obtain ⟨rfl, rfl⟩ := Prod.mk.inj m <;> decide
  · cases e
  · obtain ⟨⟨r, p, g, _⟩, _⟩ := e
    exact absurd (bonded_granted _ r g) (by decide)
  · cases e
  · obtain ⟨⟨r, g, _⟩, _⟩ := e
    exact absurd (bonded_granted _ r g) (by decide)
  · cases e
  · obtain ⟨r, g⟩ := e
    exact absurd (bonded_granted _ r g) (by decide)
  · cases c <;> rfl
  · exact absurd (bonded_granted _ r g) (by cases c <;> decide)

/-- In LOCKOUT, with a HEAT_HOLD that the lockout suspends, while station 1 is polled. -/
def lockedOut : Device :=
  let d := withRecord 0 (mkRecord .heatHold .heater (.station .s1) .suspended .lockout (.heat 42 none)) (polled .s1 quiet)
  { d with
    heater := { d.heater with state := .lockout }
    table := { d.table with causes := { d.table.causes with heater := { CauseSet.none with lockout := true } } } }

/-- R130, R191: the answer of CLEAR_LOCKOUT carries PRECHECK, the state that the clear leaves, and goes out while a swap's
mark is still being written. -/
theorem test_clear_lockout :
    let ends := fun d : Device => match exec (.clearLockout true) ⟨d, []⟩ with
      | .next t => (match exec .storeWriteComplete t with | .next u => u.dev | _ => d)
      | _ => d
    let swaps := { lockedOut with
      sched := { lockedOut.sched with waiting := true }
      store := { lockedOut.store with jobs := [⟨.lockout .none, .lockoutCleared .s1⟩, ⟨.active .b, .boundary true true⟩], writing := some .a } }
    (ends lockedOut).heater.state = .precheck ∧
    (ends lockedOut).link.answerFrame = frame false 1 (answerType 0x26#8) [0x00#8, 0x01#8] ∧
    (match exec .storeWriteComplete ⟨swaps, []⟩ with
      | .next t => (t.dev.sched.waiting, t.dev.link.heldAnswer.isNone, t.dev.link.answerFrame) | _ => (false, false, [])) =
        (true, true, frame false 1 (answerType 0x26#8) [0x00#8, 0x01#8]) := by decide +kernel

/-- The clear's write in progress, alone or with a swap's asked for behind it. -/
def clearing (swap : Bool) : Device :=
  { lockedOut with
    link := { lockedOut.link with phase := .serving .s1 }
    heater := { lockedOut.heater with waiting := true }
    sched := { lockedOut.sched with waiting := swap }
    store := { lockedOut.store with writing := some .a, jobs := ⟨.lockout .none, .lockoutCleared .s1⟩ ::
      (if swap then [⟨.active .b, .boundary true true⟩] else []) } }

/-- ProtectAndClearTakeEffectWhenWritten: the clear's write in progress, alone, and with a swap's behind it. -/
theorem witness_clearing :
    (∀ d ∈ [clearing false, clearing true], d.inReset = false ∧ d.store.writing = some .a ∧ d.heater.state = .lockout ∧
      d.heater.held = []) ∧
    (∀ d ∈ [clearing false, clearing true], WaitsOk d ∧ SchedOk d ∧ CausesOk d ∧ JobsOk d) ∧
    (clearing false).sched.waiting = false ∧ (clearing true).sched.waiting = true := by
  refine ⟨by decide, fun d m => ?_, rfl, rfl⟩
  simp only [List.mem_cons, List.not_mem_nil, or_false] at m
  rcases m with rfl | rfl <;>
    exact ⟨fun _ => ⟨by decide, by decide, by decide, fun h => absurd h (by decide)⟩,
      fun _ => ⟨by decide, by decide, by decide, by decide⟩, fun l => by cases l <;> decide,
      by decide, fun _ => ⟨by decide, fun _ => ⟨.s1, rfl⟩⟩⟩

/-- ProtectAndClearTakeEffectWhenWritten, RestartClearsEveryDemand: in LOCKOUT, with a record that the lockout suspends, and in
OFF; each voltage state, a running engine, a call that sounds. -/
theorem witness_lockout :
    let d := polled .s1 quiet
    let rec' := mkRecord .heatHold .heater (.station .s1) .suspended .lockout (.heat 42 none)
    PolledIdle .s1 lockedOut ∧ PolledIdle .s1 d ∧ (d.settings.stations.get .s1).control = true ∧
    lockedOut.heater.held = [] ∧ lockedOut.heater.state = .lockout ∧ lockedOut.table.causes.heater.lockout = true ∧
    ((⟨0, 1⟩ : Handle), rec') ∈ records lockedOut ∧ d.heater.state ≠ .lockout ∧
    LadderOk d ∧ d.budget.mode ≠ .cutoff ∧ d.bank.vstate = .normal ∧ d.vehicle.running = false ∧
    ({ PlanUnit.empty with call := .calling } : PlanUnit).call = .calling ∧ TableOk lockedOut ∧ CausesOk lockedOut := by
  refine ⟨⟨⟨rfl, true, rfl⟩, ⟨rfl, rfl⟩, rfl, rfl⟩, polledIdle_holds .s1, by decide, by decide, by decide, by decide,
    by decide +kernel, by decide,
    ⟨by decide, by decide, by decide, by decide⟩, by decide, by decide, by decide, by decide,
    ⟨by decide +kernel, by decide +kernel, by decide +kernel⟩, ?_⟩
  intro l; cases l <;> decide

/-- PlainSettingsTakeTheClampedValue and every other statement about CONFIGURE: the dash may configure. -/
theorem witness_configure :
    PolledIdle .s1 (polled .s1 quiet) ∧ ((polled .s1 quiet).settings.stations.get .s1).configure = true :=
  ⟨polledIdle_holds .s1, rfl⟩

/-- ShedOrderRebuildsTheLadder: HEAT, COOL, AUX, and an order that names COOL twice. -/
theorem witness_shed_order :
    laneOfCode 0#8 = some .heat ∧ laneOfCode 2#8 = some .cool ∧ laneOfCode 3#8 = some .aux ∧
    ¬ (∃ x y z : Lane, laneOfCode 2#8 = some x ∧ laneOfCode 2#8 = some y ∧ laneOfCode 0#8 = some z ∧
        x ≠ y ∧ y ≠ z ∧ x ≠ z) := by
  refine ⟨by decide, by decide, by decide, ?_⟩
  rintro ⟨x, y, z, h1, h2, -, h, -⟩
  rw [h1] at h2
  exact h (by injection h2)

/-- CapacityClampsTheCharge: locked with 69 Ah below the floor of 70, and 70 Ah. -/
theorem witness_capacity :
    let l := { polled .s1 quiet with bank := { quiet.bank with cabMark := true, fleetMark := true } }
    PolledIdle .s1 l ∧ max 20 (min (69#16 : Word16).toNat 1000) < l.settings.floor ∧
    ¬ max 20 (min (70#16 : Word16).toNat 1000) < l.settings.floor :=
  ⟨⟨⟨rfl, true, rfl⟩, ⟨rfl, rfl⟩, rfl, rfl⟩, by decide⟩

/-- ThresholdsKeepTheirGaps: LOW at CUTOFF + 400 mV, and 1 mV below it. -/
theorem witness_thresholds :
    let t := quiet.settings.thresholds
    let at' := t.set (max 19000 (min (23400#16 : Word16).toNat 28000)) .low
    let below := t.set (max 19000 (min (23399#16 : Word16).toNat 28000)) .low
    (at'.cutoff + 400 ≤ at'.low ∧ at'.low + 400 ≤ at'.high) ∧
    ¬ (below.cutoff + 400 ≤ below.low ∧ below.low + 400 ≤ below.high) := by decide

/-- CurrentsNeedIdleLoads: the outlet closed; idle with rHMIN at rHEAT and above it. -/
theorem witness_currents :
    let d := polled .s1 quiet
    let busy := { d with sched := { d.sched with outletClosed := true } }
    PolledIdle .s1 busy ∧ busy.sched.outletClosed ≠ false ∧
    d.heater.state = .off ∧ d.fridge.state ≠ .running ∧ d.sched.outletClosed = false ∧
    (d.settings.currents.set 401 .rHMin).rHeat < (d.settings.currents.set 401 .rHMin).rHMin ∧
    (d.settings.currents.set 400 .rHMin).rHMin ≤ (d.settings.currents.set 400 .rHMin).rHeat ∧ d.sched.late = [] ∧
    d.sched.owed = none ∧ d.sched.slotIndex + 1 < (activeTable d).length ∧ d.sched.swapPending = false :=
  ⟨⟨⟨rfl, true, rfl⟩, ⟨rfl, rfl⟩, rfl, rfl⟩, by decide⟩

/-- RestParametersActOnWarnings: B2 at B, and B1 at B. -/
theorem witness_rest_parameters :
    let good := quiet.settings.rest.set 45 .b2
    let bad := quiet.settings.rest.set 45 .b1
    (good.lead < good.ld ∧ good.lead < good.dd ∧ good.b1 < good.b ∧ good.b2 ≤ good.b ∧ good.rr ≤ good.rd) ∧
    ¬ bad.b1 < bad.b := by decide

/-- WindowsAndLevelsKeepAConfigurer: a good window and a bad one, and the last configurer. -/
theorem witness_windows :
    let one := stationSet .s4 (fun c => { c with configure := false }) quiet
    let gone : StationSettings := { one.settings.stations.get .s1 with configure := false }
    (64#8 : Byte).toNat ∈ [1, 2, 4, 8, 16, 32, 64] ∧ ¬ (3#8 : Byte).toNat ∈ [1, 2, 4, 8, 16, 32, 64] ∧
    (quiet.settings.stations.get .s1).configure = true ∧ (quiet.settings.stations.get .s1).quota ≠ 0 ∧
    ((one.settings.stations.set gone .s1).get .s1).configure = false ∧
    ((one.settings.stations.set gone .s1).get .s2).configure = false ∧
    ((one.settings.stations.set gone .s1).get .s3).configure = false ∧
    ((one.settings.stations.set gone .s1).get .s4).configure = false ∧
    ((one.settings.stations.set gone .s1).get .s5).configure = false ∧
    ((one.settings.stations.set gone .s1).get .s6).configure = false ∧
    roleOfCode 3#8 = none ∧ roleOfCode 2#8 = some .fleet := by decide

/-- ReadConfigAnswersTheValue: numbers beside the assigned ranges, the last run of a table and one that passes index 63. -/
theorem witness_read :
    (∀ k ∈ [0, 0x0E, 0x0F, 0x13, 0x17, 0x25, 0x27, 0x2B, 0x2F, 0x39, 0x3F, 0x5E, 0x5F, 0x61, 0xFF],
      ¬ ((1 ≤ k ∧ k ≤ 0x0D) ∨ (0x10 ≤ k ∧ k ≤ 0x12) ∨ (0x18 ≤ k ∧ k ≤ 0x24) ∨ (0x28 ≤ k ∧ k ≤ 0x2A) ∨
        (0x30 ≤ k ∧ k ≤ 0x38) ∨ (0x40 ≤ k ∧ k ≤ 0x5D) ∨ k = 0x60)) ∧ (48#8 : Byte).toNat + (16#8 : Byte).toNat ≤ 64 ∧
    ¬ (49#8 : Byte).toNat + (16#8 : Byte).toNat ≤ 64 ∧
    (48#8 : Byte).toNat + max 1 (min (17#8 : Byte).toNat 16) ≤ 64 ∧
    64 < (64#8 : Byte).toNat + max 1 (min (0#8 : Byte).toNat 16) := by decide +kernel

/-- R39, R98: a count of 0 is read as 1 and one of 17 as 16, each answered OK_CLAMPED. -/
theorem test_read_count_clamps :
    let sent := fun n : Byte => match exec (.readTable .a (some ⟨0#8, n⟩)) ⟨polled .s1 quiet, []⟩ with
      | .next t => t.dev.link.answerFrame
      | _ => []
    sent 0#8 = frame false 1 (answerType 0x31#8) [0x01#8, 0x03#8, 0x10#8, 0x02#8] ∧
    (sent 17#8).length = (sent 16#8).length ∧ (sent 17#8)[4]? = some 0x01#8 ∧ (sent 16#8)[4]? = some 0x00#8 := by
  decide +kernel

/-- TimesMoveRecords: a LAMP and a lane record at their start times, an end time, and a deadline. The outlet record meets
each clause: LEISURE with too little charge is deferred, COMFORT is granted. -/
theorem witness_times :
    let waits := fun r : Record => { r with state := .scheduled, reason := .awaitStart, start := some 1800 }
    let lamp := waits (lampRec .s2)
    let outlet := { waits (mkRecord .auxOn .outlet (.station .s3) .granted .admitted .aux) with cls := .leisure }
    let d := sec 1800 (withRecord 0 lamp (withRecord 1 outlet quiet))
    let rich := { d with bank := { d.bank with q := 810000, uncalibrated := false } }
    let poor := { d with bank := { d.bank with q := 0 } }
    let low := { poor with budget := { poor.budget with mode := .lowVoltage } }
    lookup d ⟨0, 1⟩ = some lamp ∧ lamp.state = .scheduled ∧ lamp.start = some 1800 ∧ 1800 ≤ d.clock.sec ∧
    lamp.params = .lamp 60 ∧ causesOf d.table.causes (.lamp .c8) = CauseSet.none ∧
    lookup d ⟨1, 1⟩ = some outlet ∧ outlet.fn = laneFn .aux ∧
    0 ≤ (project rich rich.budget.modes rich.budget.cap (some .aux)).m ∧
    (poor.budget.mode = .nominal ∧ (project poor poor.budget.modes poor.budget.cap (some .aux)).m < 0) ∧
    (low.budget.mode ≠ .nominal ∧ low.budget.mode ≠ .curtailed ∧ low.budget.mode ≠ .short ∧ low.budget.mode ≠ .charging) ∧
    (∀ hr ∈ records poor, ¬ (hr.1 ≠ ⟨1, 1⟩ ∧ hr.2.fn = laneFn .aux)) ∧ outlet.cls = .leisure ∧
    ⟨1, 1⟩ ∉ poor.table.queue ∧
    restDriver (lampRec .s2).fn = none ∧ ({ lampRec .s2 with endAt := some 1800 } : Record).state ≠ .scheduled ∧
    ({ outlet with state := .deferred, deadline := some 1800 } : Record).state = .deferred := by decide +kernel

/-- NoticeSetsHoldSixtyFour: a full set with a live and with no live entry of the record, one of live entries only, and a
set with room. -/
theorem witness_sets :
    let p : List Entry → StationLink := fun es => ⟨.online, 0, 0, es, Flags.none, .none⟩
    let full := p (.live ⟨1, 1⟩ :: List.replicate 63 (.retired ⟨9, 9⟩ .fridge .ended))
    full.entries.length = 64 ∧ full.link = .online ∧ Entry.live ⟨1, 1⟩ ∈ full.entries ∧
    Entry.live ⟨2, 1⟩ ∉ full.entries ∧
    full.entries = [.live ⟨1, 1⟩] ++ .retired ⟨9, 9⟩ .fridge .ended :: List.replicate 62 (.retired ⟨9, 9⟩ .fridge .ended) ∧
    (∀ e ∈ (p (List.replicate 64 (.live ⟨1, 1⟩))).entries, ∃ x, e = .live x) ∧
    (p (List.replicate 64 (.live ⟨1, 1⟩))).entries.length = 64 ∧
    (p []).entries.length < 64 ∧ Entry.live ⟨2, 1⟩ ∉ (p []).entries ∧ (p []).entries.length ≤ 64 ∧
    ({ p [] with link := .offline } : StationLink).link ≠ .online := by
  refine ⟨by decide, rfl, by decide, by decide, by decide, fun e he => ⟨⟨1, 1⟩, ?_⟩, by decide, by decide, by decide,
    by decide, by decide⟩
  exact List.eq_of_mem_replicate he

/-- SamplesFeedTheTimers, SecondsIntegrateCharge: out of reset, the full-anchor timer at its limit, ten minutes of a run. -/
theorem witness_bank :
    quiet.inReset = false ∧ 6000 ≤ ({ quiet.bank with fullAnchor := 6000 } : Bank).fullAnchor ∧
    ({ quiet.vehicle with running := true } : Vehicle).running = true ∧
    600 ≤ ({ quiet.bank with engineRun := 600 } : Bank).engineRun ∧ quiet.bank.runCleared = false := by decide

def dueAt (v : Option VState) (d : Device) : Device := { d with bank := { d.bank with due := v } }

/-- VoltageStateMoves: a sample that finds nothing matured and one that finds two conditions, and the moves that they leave
due. -/
theorem witness_voltage :
    let both := { quiet with bank := { quiet.bank with timers := { quiet.bank.timers with belowCutoff := 79, belowLow := 159 } } }
    (sampleBank quiet 30000 0 quiet.bank).due = none ∧ (sampleBank both 20000 0 both.bank).due = some .cutoff ∧
    quiet.bank.due = none ∧ (dueAt (some .low) quiet).bank.due = some .low ∧ quiet.heater.waiting = false ∧
    quiet.budget.mode ≠ .cutoff ∧ quiet.table.causes.heater.budget = false := by decide +kernel

theorem heaterOk_quiet : HeaterOk quiet := by
  refine ⟨?_, ?_, ?_, ?_, ?_, ?_, rfl⟩ <;> decide

theorem lanesOk_quiet : LanesOk quiet := by
  refine ⟨?_, ?_, ?_⟩ <;> decide

theorem highOk_quiet : HighOk quiet := by unfold HighOk; decide

theorem lampsOk_quiet : LampsOk quiet := by
  intro c; cases c <;> (refine ⟨?_, ?_, ?_⟩ <;> decide)

/-- CutoffShedsEverything: the matured timer of a bank above its floor, with a lane record. -/
theorem witness_cutoff :
    let d := dueAt (some .cutoff)
      (withRecord 0 (mkRecord .heatHold .heater (.station .s3) .granted .admitted (.heat 42 none)) quiet)
    d.inReset = false ∧ d.bank.due = some .cutoff ∧ d.bank.vstate ≠ .cutoff ∧
    d.heater.waiting = false ∧ d.budget.mode ≠ .cutoff ∧
    (∀ l, (causesOf d.table.causes (laneFn l)).cutoff = false) ∧
    (lookup d ⟨0, 1⟩).isSome = true ∧ HeaterOk d ∧ LanesOk d ∧ LampsOk d := by
  refine ⟨by decide, by decide, by decide, by decide, by decide, ?_, by decide +kernel,
    heaterOk_quiet, lanesOk_quiet, lampsOk_quiet⟩
  intro l; cases l <;> rfl

def slotted (f : Sched → Sched) (d : Device) : Device := { d with sched := f d.sched }

/-- SlotsAndFramesAdvance, DrawStaysWithinThePeak: the last boundary within a frame, the frame boundary, one with a swap,
and a wait. -/
theorem witness_slots :
    let last := slotted (fun s => { s with slotIndex := 14 }) quiet
    let turn := slotted (fun s => { s with slotIndex := 15 }) quiet
    let swap := slotted (fun s => { s with swapPending := true }) turn
    last.sched.waiting = false ∧ last.heater.waiting = false ∧ last.sched.slotIndex + 1 < (activeTable last).length ∧
    last.heater.state ≠ .waitGlow ∧ (activeTable turn).length ≤ turn.sched.slotIndex + 1 ∧
    turn.sched.swapPending = false ∧ swap.sched.swapPending = true ∧ swap.sched.late = [] ∧
    (slotted (fun s => { s with waiting := true }) quiet).sched.waiting = true ∧ StoreIdle swap ∧ HeaterOk last ∧ LanesOk last ∧
    entryCurrent last.settings.currents ((activeTable last).entries.getD (last.sched.slotIndex + 1) ⟨false, false, false, false⟩) ≤
      last.settings.currents.peak ∧
    entryCurrent last.settings.currents (currentEntry last) ≤ last.settings.currents.peak ∧
    last.settings.currents.rGlow ≤ last.settings.currents.peak :=
  ⟨by decide, by decide, by decide, by decide, by decide, by decide, by decide, by decide, by decide, ⟨rfl, rfl⟩,
    heaterOk_quiet, lanesOk_quiet, by decide, by decide, by decide⟩

/-- R107, R108: from slot 11 to slot 12 of the factory table COOL goes, and the compressor stops into its guard; with the
HEAT mode OFF the HEAT permission goes too, and a heater at step 3 drops to step 1. From slot 3 to slot 4 a compressor that
waits for COOL starts. -/
theorem test_loads_follow_the_slot :
    let after := fun (d : Device) => match exec (.slotBoundary false false) ⟨d, []⟩ with
      | .next t => (t.dev.heater.step, t.dev.fridge.state)
      | _ => (0, .off)
    let at' := fun i p st => { slotted (fun s => { s with slotIndex := i, perm := p }) quiet with
      heater := { quiet.heater with state := .run, step := 3 }
      fridge := { quiet.fridge with state := st } }
    let cold := fun (d : Device) => { d with budget := { d.budget with modes := { d.budget.modes with heat := .off } } }
    after (at' 11 ⟨true, true, false⟩ .running) = (3, .guard) ∧
    after (cold (at' 11 ⟨true, true, false⟩ .running)) = (1, .guard) ∧
    after (at' 3 ⟨true, false, false⟩ .waiting) = (3, .running) := by
  decide +kernel

/-- DrawStaysWithinThePeak: the last slot of the factory table, before its boundary. -/
theorem witness_peak : PeakOk (slotted (fun s => { s with slotIndex := 14 }) quiet) := by
  refine ⟨?_, ?_, ?_, by simp [slotted, quiet, resetDevice, startDevice, blankStore], by decide, by decide, by decide,
    by decide, ?_, ⟨by decide, fun _ => ⟨by decide, fun h => absurd h (by decide)⟩⟩, fun _ => ⟨⟨by decide, by decide, by decide, ?_⟩, fun h => ?_⟩⟩
  · intro t; cases t <;> decide +kernel
  · intro t; cases t <;> decide +kernel
  · intro t; cases t <;> decide +kernel
  · intro f w h; exact absurd h (by simp [slotted, quiet, resetDevice, startDevice, startHeater])
  · exact fun j h => absurd (show j ∈ ([] : List Job) from h) List.not_mem_nil
  · exact absurd h (by decide)

def burning (st : HeaterState) (f : Heater → Heater) (d : Device) : Device :=
  { d with heater := f { d.heater with state := st, demand := some 42 } }

/-- ReadingsDriveTheBurner: each state of the heater with what its clause reads. -/
theorem witness_readings :
    (∀ st, (burning st id quiet).heater.state = st ∧ (burning st id quiet).heater.waiting = false ∧
      (burning st id quiet).heater.demand = some 42) ∧
    (burning .ignite (fun h => { h with startTemp := some (-24) }) quiet).heater.startTemp = some (-24) ∧
    quiet.bank.vstate = .normal := by
  refine ⟨fun st => ⟨rfl, rfl, rfl⟩, rfl, rfl⟩

/-- A heat or a cool record of station 1 that starts, or ends, at second 1,800. -/
def starting (fn : Fn) (p : Params) : Device :=
  sec 1800 (withRecord 0 { mkRecord (fnKind fn) fn (.station .s1) .scheduled .awaitStart p with start := some 1800 } quiet)

def ending (fn : Fn) (p : Params) : Device :=
  sec 1800 (withRecord 0 { mkRecord (fnKind fn) fn (.station .s1) .granted .admitted p with endAt := some 1800 } quiet)

def charging (d : Device) : Device :=
  { d with vehicle := { d.vehicle with running := true }, budget := { d.budget with mode := .charging } }

/-- ReadingsDriveTheBurner, FridgeFollowsItsCall: demand that arrives and is granted in CHARGING, and the only record of a
function, that ends in each state of its load. -/
theorem witness_demand :
    let heat := charging (starting .heater (.heat 42 none))
    let cool := charging (starting .fridge (.cool 8))
    let lost := fun st => burning st id (ending .heater (.heat 42 none))
    let warm : Device := { ending .fridge (.cool 8) with fridge := { quiet.fridge with target := some 8 } }
    ChargingFor .heater heat ∧ ChargingFor .fridge cool ∧ heat.heater.state = .off ∧ heat.heater.demand = none ∧
    cool.fridge.target = none ∧ cool.fridge.state = .guard ∧ OnlyOn .fridge ⟨0, 1⟩ warm ∧ warm.fridge.target.isSome = true ∧
    (∀ st, OnlyOn .heater ⟨0, 1⟩ (lost st) ∧ (lost st).heater.demand.isSome = true ∧ (lost st).heater.waiting = false) ∧
    (∀ st, st ≠ .ignite → st ≠ .run → HeaterOk (lost st)) ∧ HeaterOk (burning .run (fun h => { h with step := 1, target := 1 })
      (ending .heater (.heat 42 none))) := by
  refine ⟨⟨by decide, .inl (by decide), by decide, by decide⟩, ⟨by decide, .inl (by decide), by decide, by decide⟩,
    by decide, by decide, by decide, by decide, ?_, by decide, fun st => ⟨?_, rfl, rfl⟩, fun st h k => ?_, ?_⟩
  · unfold OnlyOn; decide +kernel
  · unfold OnlyOn; cases st <;> decide +kernel
  · cases st <;> first | exact absurd rfl h | exact absurd rfl k | (refine ⟨?_, ?_, ?_, ?_, ?_, ?_, rfl⟩ <;> decide)
  · refine ⟨?_, ?_, ?_, ?_, ?_, ?_, rfl⟩ <;> decide

/-- R114, R128: a heat record that starts takes the heater from OFF to PRECHECK; the end of the last one takes it from RUN to
PURGE with cause STOP and from PAUSE to OFF. -/
theorem test_demand_starts_and_stops :
    let after := fun (i : Instr) (d : Device) => match exec i ⟨d, []⟩ with
      | .next t => (t.dev.heater.state, t.dev.heater.cause)
      | _ => (.off, .none)
    after (.recordStart ⟨0, 1⟩) (charging (starting .heater (.heat 42 none))) = (.precheck, .none) ∧
    after (.recordEnd ⟨0, 1⟩) (burning .run id (ending .heater (.heat 42 none))) = (.purge, .stop) ∧
    after (.recordEnd ⟨0, 1⟩) (burning .pause id (ending .heater (.heat 42 none))) = (.off, .none) := by decide +kernel

/-- R116, R121: a move to HIGH with the engine running takes WAIT_GLOW back to PRECHECK and a step of 3 to 1. -/
theorem test_high_reaches_the_heater :
    let after := fun (d : Device) => match exec .voltageStateChange ⟨dueAt (some .high) (charging d), []⟩ with
      | .next t => (t.dev.heater.state, t.dev.heater.step, t.dev.heater.glowFrames)
      | _ => (.off, 0, 0)
    after (burning .waitGlow (fun h => { h with glowFrames := 1 }) quiet) = (.precheck, 0, 0) ∧
    after (burning .run (fun h => { h with step := 3 }) quiet) = (.run, 1, 0) := by decide +kernel

/-- StartsNeedAGlowSlot: the boundary into slot 1, which bears GLOW, and into slot 4, which does not; two counted
boundaries; 40 s of PREGLOW. -/
theorem witness_start :
    let w := burning .waitGlow id quiet
    let four := slotted (fun s => { s with slotIndex := 3 }) w
    let fails := burning .waitGlow (fun h => { h with glowFrames := 2 }) quiet
    let ends := burning .preglow (fun h => { h with stage := 40, plug := true, claim := true }) quiet
    w.heater.glowFrames < 2 ∧ LanesOk w ∧ HeaterOk w ∧ w.sched.slotIndex + 1 < (activeTable w).length ∧
    ((activeTable w).entries.getD (w.sched.slotIndex + 1) ⟨false, false, false, false⟩).glow = true ∧
    w.bank.vstate = .normal ∧ w.budget.modes.heat ≠ .off ∧
    ¬ ((activeTable four).entries.getD (four.sched.slotIndex + 1) ⟨false, false, false, false⟩).glow = true ∧
    2 ≤ fails.heater.glowFrames ∧ fails.heater.swapHeld = false ∧
    fails.table.causes.heater.noGlowSlot = false ∧ TableOk fails ∧
    40 ≤ ends.heater.stage ∧ ends.heater.held = [] ∧ StoreIdle ends := by
  refine ⟨by decide, lanesOk_quiet, ?_, by decide, by decide, by decide, by decide, by decide, by decide, by decide,
    by decide, tableOk_quiet, by decide, by decide, rfl, rfl⟩
  refine ⟨?_, ?_, ?_, ?_, ?_, ?_, rfl⟩ <;> decide

/-- StartsNeedAGlowSlot: the frame boundary of the factory table, whose entry 0 bears GLOW, and of one whose entry 0 does
not, at which the budget unit leaves the heater as it is; and one with a swap, before and after its write. -/
theorem witness_frame_start :
    let w := slotted (fun s => { s with slotIndex := 15 }) (burning .waitGlow id quiet)
    let dark : Schedule := { w.settings.tables.a with entries := List.replicate 64 ⟨true, false, false, false⟩ }
    let g := settled (fun s => { s with tables := { s.tables with a := dark } }) w
    let stays := fun (swap : Bool) (d : Device) =>
      (reportBudget swap false (openFirst d)).heater.state = (openFirst d).heater.state
    let swaps := slotted (fun s => { s with swapPending := true }) w
    w.heater.glowFrames < 2 ∧ w.heater.held = [] ∧ LanesOk w ∧ HeaterOk w ∧ LadderOk w ∧
    (activeTable w).length ≤ w.sched.slotIndex + 1 ∧ g.settings.active = .a ∧
    ((activeTable w).entries.getD 0 ⟨false, false, false, false⟩).glow = true ∧ w.bank.vstate = .normal ∧
    w.budget.modes.heat ≠ .off ∧ ¬ ((activeTable g).entries.getD 0 ⟨false, false, false, false⟩).glow = true ∧
    w.sched.swapPending = false ∧ stays false (takeLength w) ∧ stays false (takeLength g) ∧
    swaps.sched.swapPending = true ∧ StoreIdle swaps ∧ swaps.sched.late = [] ∧
    swaps.table.causes.heater.noGlowSlot = false ∧
    (match exec (.slotBoundary false false) ⟨swaps, []⟩ with
      | .next t => (match exec .storeWriteComplete t with
        | .next u => decide (t.dev.heater.state = .waitGlow ∧ stays true { t.dev with store := u.dev.store })
        | _ => false)
      | _ => false) = true := by
  refine ⟨by decide, by decide, lanesOk_quiet, ?_, by unfold LadderOk; decide +kernel, by decide, by decide, by decide, by decide,
    by decide, by decide, by decide, by decide +kernel, by decide +kernel, by decide, ⟨rfl, rfl⟩, by decide, by decide,
    by decide +kernel⟩
  refine ⟨?_, ?_, ?_, ?_, ?_, ?_, rfl⟩ <;> decide

/-- StartsNeedAGlowSlot: IGNITE while its mark is written, with nothing held and with a stop; a slot boundary, a RESTART with
demand standing and a voltage state may come. -/
theorem witness_waits :
    let j : Job := ⟨.mark true, .ignite⟩
    let d := burning .ignite (fun h => { h with waiting := true, plug := true, claim := true })
      { polled .s1 quiet with store := { quiet.store with writing := some .a, jobs := [j] } }
    let stops := { d with heater := { d.heater with held := [.stop] } }
    d.inReset = false ∧ d.heater.waiting = true ∧ d.sched.waiting = false ∧
    d.sched.slotIndex + 1 < (activeTable d).length ∧ Polled .s1 d ∧ (d.settings.stations.get .s1).control = true ∧
    d.heater.demand.isSome = true ∧ (dueAt (some .low) d).bank.due = some .low ∧ d.store.writing = some .a ∧
    d.store.jobs = [j] ∧ j.ofHeater = true ∧ j.change.isOwn = true ∧ d.link.heldAnswer = none ∧
    stops.heater.state = .ignite ∧ stops.heater.held = [.stop] ∧ stops.store.jobs = [j] ∧
    (burning .run (fun h => { h with waiting := true, step := 3 }) (dueAt (some .high) quiet)).bank.due = some .high := by
  refine ⟨rfl, rfl, rfl, by decide, ⟨rfl, true, rfl⟩, by decide, rfl, rfl, rfl, rfl, rfl, rfl, rfl, rfl, rfl, rfl, rfl⟩

/-- R112, R121: HIGH drops a step of 3 to 1 at once though the sequencer waits for a write, and its message is held. -/
theorem test_high_caps_in_a_wait :
    (match exec .voltageStateChange ⟨dueAt (some .high)
        (charging (burning .run (fun h => { h with waiting := true, step := 3, hold := 9 }) quiet)), []⟩ with
      | .next t => decide (t.dev.heater.step = 1 ∧ t.dev.heater.hold = 0 ∧ t.dev.heater.held = [.voltage .high])
      | _ => false) = true := by decide +kernel

/-- R119, R128: a stop that comes while IGNITE waits for its mark is held, and taken once the fuel has started. -/
theorem test_stop_waits_for_the_mark :
    let d := burning .ignite (fun h => { h with waiting := true, held := [.stop], plug := true, claim := true })
      { quiet with store := { quiet.store with writing := some .a, jobs := [⟨.mark true, .ignite⟩] } }
    (match exec .storeWriteComplete ⟨d, []⟩ with
      | .next t => (t.dev.heater.state, t.dev.heater.cause, t.dev.settings.combustionMark)
      | _ => (.off, .none, false)) = (.purge, .stop, true) := by decide +kernel

/-- R126, R127, R133: of a hot purge the failure kind is set at the report and the HEATER flag once, with LOCKOUT. -/
theorem test_purge_hot_flags_once :
    let d := onlineAt .s1 (burning .purge (fun h => { h with stage := 300, hx := some 121, cause := .failure }) quiet)
    let seen := fun t : State => ((t.dev.link.stations.get .s1).flags.heater, (t.dev.link.stations.get .s1).failure)
    (match exec .purgeHot ⟨d, []⟩ with
      | .next t => (match exec .storeWriteComplete t with
        | .next u => (match exec .storeWriteComplete u with
          | .next v => [seen t, seen u, seen v]
          | _ => [])
        | _ => [])
      | _ => []) = [(false, .none), (false, .purgeHot), (true, .purgeHot)] := by decide +kernel

/-- R104, R118: a frame boundary in PREGLOW reports no claim anew, so the stage timer runs on. -/
theorem test_preglow_runs_on :
    let d := slotted (fun s => { s with slotIndex := 15, claim := true, perm := ⟨false, false, false⟩ })
      (burning .preglow (fun h => { h with stage := 25, plug := true, claim := true }) quiet)
    (match exec (.slotBoundary false false) ⟨d, []⟩ with
      | .next t => (t.dev.heater.stage, t.dev.sched.slotIndex)
      | _ => (0, 9)) = (25, 0) := by decide +kernel

/-- FailuresPurgeTheBurner: the first and the third failed attempt, and an overheat, in IGNITE and in RUN. -/
theorem witness_failures :
    let lit : Nat → Device := fun n => slotted (fun s => { s with claim := true })
      (burning .ignite (fun h => { h with
        stage := 90, overTimer := 2, attempts := n, step := 1, plug := true
        claim := true, fuel := true, startTemp := some 0 }) quiet)
    let runs := burning .run (fun h => { h with
      lossTimer := 10, overTimer := 2, attempts := 2, step := 1, target := 1, fuel := true }) quiet
    HeaterOk (lit 0) ∧ HeaterOk runs ∧ 90 ≤ (lit 0).heater.stage ∧ (lit 0).heater.attempts + 1 < 3 ∧
    3 ≤ (lit 2).heater.attempts + 1 ∧ 10 ≤ runs.heater.lossTimer ∧ 3 ≤ runs.heater.attempts + 1 ∧
    2 ≤ runs.heater.overTimer ∧ runs.settings.lockout = .none ∧ StoreIdle runs ∧ runs.heater.held = [] ∧
    runs.heater.waiting = false := by
  refine ⟨?_, ?_, by decide, by decide, by decide, by decide, by decide, by decide, by decide, ⟨rfl, rfl⟩, by decide,
    by decide⟩ <;> (refine ⟨?_, ?_, ?_, ?_, ?_, ?_, rfl⟩ <;> decide)

/-- RunsAndPurgesEnd: a step below its target, the three timers of RUN, and the four ends of a purge. -/
theorem witness_purge :
    let runs := burning .run (fun h => { h with
      stepDue := true, target := 4, step := 1, pauseTimer := 300, runTimer := 600 }) quiet
    let cool := burning .purge (fun h => { h with stage := 120, hx := some 120, cause := .pause }) quiet
    let hot := burning .purge (fun h => { h with stage := 300, hx := some 121, cause := .failure }) quiet
    let pend := settled (fun s => { s with lockout := .pending .overheat }) hot
    runs.heater.state = .run ∧ runs.heater.stepDue = true ∧ quiet.heater.stepDue = false ∧ runs.sched.perm.heat = true ∧ runs.bank.vstate = .normal ∧
    runs.heater.step ≠ min runs.heater.target 4 ∧ 300 ≤ runs.heater.pauseTimer ∧ 600 ≤ runs.heater.runTimer ∧
    120 ≤ cool.heater.stage ∧ cool.heater.hx = some 120 ∧ StoreIdle cool ∧ cool.heater.held = [] ∧
    cool.settings.lockout = .none ∧ cool.heater.demand.isSome = true ∧ cool.budget.modes.heat ≠ .off ∧
    cool.heater.cause = .pause ∧ 300 ≤ hot.heater.stage ∧ hot.heater.hx = some 121 ∧ StoreIdle hot ∧
    hot.heater.cause ≠ .pause ∧ pend.settings.lockout = .pending .overheat ∧
    (settled (fun s => { s with lockout := .inForce .overheat }) cool).settings.lockout = .inForce .overheat ∧
    (settled (fun s => { s with lockout := .inForce .purgeHot }) hot).settings.lockout = .inForce .purgeHot ∧
    LockoutReason.overheat ≠ .purgeHot ∧
    ({ cool with heater := { cool.heater with demand := none } } : Device).heater.demand.isSome = false := by
  refine ⟨rfl, by decide, by decide, rfl, rfl, by decide, by decide, by decide, by decide, rfl, ⟨rfl, rfl⟩, rfl, rfl, rfl,
    by decide, rfl, by decide, rfl, ⟨rfl, rfl⟩, by decide, rfl, rfl, rfl, by decide, rfl⟩

/-- FridgeFollowsItsCall: the flag clear and set, its sixtieth valid sample, a turn of the blind cycle with the call to
change, and the guard served with the call set and clear. -/
theorem witness_fridge :
    let f : Fridge := { quiet.fridge with target := some 8, fault := true, reading := some 10 }
    quiet.fridge.fault = false ∧ -100 ≤ (-100 : Int) ∧ ¬ (181 : Int) ≤ 180 ∧
    60 ≤ ({ f with valid := 60 } : Fridge).valid ∧ f.reading = some 10 ∧ f.valid < 60 ∧
    ({ f with blind := 600, call := true } : Fridge).blind % 1800 = 600 ∧
    (true : Bool) ≠ (f.target.isSome && decide (600 % 1800 < 600)) ∧ ({ f with turn := true } : Fridge).turn = true ∧
    f.turn = false ∧ (f.blind + 1) % 1800 ≠ 0 ∧
    (f.blind + 1) % 1800 ≠ 600 ∧ f.state = .guard ∧ 180 ≤ ({ f with guard := 180 } : Fridge).guard ∧
    f.target ≠ none ∧ quiet.fridge.target = none ∧ ({ f with call := true } : Fridge).call = true ∧ f.call = false := by
  decide

/-- LampsFadeAndTrip: a channel at the second trip, with a GRANTED record. -/
theorem witness_lamps :
    let d := withRecord 0 (lampRec .s2) { quiet with lamps := { quiet.lamps with c8 := ⟨60, ⟨none, none⟩, 60, 60, 600, 2, false⟩ } }
    2 ≤ (d.lamps.get .c8).trip ∧ causesOf d.table.causes (.lamp .c8) = CauseSet.none ∧ TableOk d ∧
    lookup d ⟨0, 1⟩ = some (lampRec .s2) ∧ (lampRec .s2).fn = .lamp .c8 ∧ (lampRec .s2).state = .granted := by
  refine ⟨by decide, by decide, ⟨by decide +kernel, by decide +kernel, by decide +kernel⟩, by decide +kernel⟩

/-- VehicleFramesComeAndGo: a frame at its identifier that repeats and one that changes the state, one elsewhere, a frame
lost, a frame waiting, and bus-off. -/
theorem witness_vehicle :
    quiet.vehicle.busOff = false ∧ (1280#11 : CanId) = BitVec.ofNat 11 quiet.settings.idBase ∧
    1 ≤ ([0#8] : List Byte).length ∧ (([0#8] : List Byte).getD 0 0#8).getLsbD 0 = quiet.vehicle.running ∧
    (([1#8] : List Byte).getD 0 0#8).getLsbD 0 ≠ quiet.vehicle.running ∧
    (1281#11 : CanId) ≠ BitVec.ofNat 11 quiet.settings.idBase ∧
    10 ≤ ({ quiet.vehicle with running := true, engineAge := 10 } : Vehicle).engineAge ∧
    ({ quiet.vehicle with waiting := some ⟨1282#11, []⟩ } : Vehicle).waiting ≠ none ∧
    ({ quiet.vehicle with txErrors := 247 } : Vehicle).txErrors + 8 < 256 ∧
    256 ≤ ({ quiet.vehicle with txErrors := 248 } : Vehicle).txErrors + 8 ∧
    ({ quiet.vehicle with busOff := true } : Vehicle).busOff = true ∧
    100 ≤ ({ quiet.vehicle with busOff := true, busOffTicks := 100 } : Vehicle).busOffTicks ∧
    ({ quiet.vehicle with busOff := true, busOffTicks := 99 } : Vehicle).busOffTicks < 100 := by decide

/-- ReportsSettle: a frame at its identifier with two bytes, 3 s without one, and a settle time of 0 with REST in effect. -/
theorem witness_reports :
    quiet.settings.rest.settle ≠ 0 ∧ (1281#11 : CanId) = BitVec.ofNat 11 (quiet.settings.idBase + 1) ∧
    2 ≤ ([0#8, 7#8] : List Byte).length ∧ 30 ≤ ({ quiet.vehicle with activityAge := 30 } : Vehicle).activityAge ∧
    quiet.vehicle.lostHanded = false ∧ quiet.accounts.one.effective = .unknown ∧
    quiet.accounts.one.lastKnown = none ∧ (settled (fun s => { s with rest := { s.rest with settle := 0 } }) quiet).settings.rest.settle = 0 ∧
    ({ quiet.accounts.one with effective := .rest } : Account).effective = .rest ∧ Activity.rest ≠ .work ∧
    ({ quiet.accounts.one with effective := .rest } : Account).effective ≠ .unknown := by decide

/-- AccountsFollowTheClock: a settled candidate that ends a rest, with an ACTIVE plan, one after UNKNOWN, and the unknown
timer at its limit. -/
theorem witness_accounts :
    let a : Account := { startAccount with effective := .rest, candidate := some .work, settled := true, settleTimer := 60 }
    let u : Account := { a with effective := .unknown, lastKnown := some .rest, unknownTimer := 601 }
    a.settled = true ∧ a.candidate = some .work ∧ Activity.rest ≠ .unknown ∧ a.effective ≠ .unknown ∧
    a.effective = .rest ∧ startAccount.effective = .unknown ∧ u.effective = .unknown ∧ u.lastKnown = some .rest ∧ 601 ≤ u.unknownTimer ∧
    livePlan evening .one = some (⟨6, 1⟩, planRecord .one (plan .active 32400), plan .active 32400) ∧
    (planRecord .one (plan .active 32400)).fn = .rest .one ∧ (plan .active 32400).sub ≠ .waiting := by decide +kernel

/-- ReportsSettle, AccountsFollowTheClock: driver 1's WAITING plan, under UNKNOWN with REST known last. -/
def awaiting : Device :=
  let p : PlanRec := { plan .waiting 0 with plannedEnd := none }
  { withRecord 6 (planRecord .one p) quiet with
    plans := ⟨{ PlanUnit.empty with plan := some ⟨6, 1⟩ }, PlanUnit.empty⟩
    accounts := { quiet.accounts with one := { startAccount with lastKnown := some .rest, restStart := some 0 } } }

theorem witness_awaiting :
    livePlan awaiting .one = some (⟨6, 1⟩, planRecord .one { plan .waiting 0 with plannedEnd := none },
      { plan .waiting 0 with plannedEnd := none }) ∧ TableOk awaiting ∧ PlansOk awaiting ∧ activityOfCode 0#8 = .rest ∧
    (awaiting.accounts.get .one).effective = .unknown ∧ (awaiting.accounts.get .one).lastKnown = some .rest := by
  refine ⟨by decide +kernel, ⟨by decide +kernel, by decide +kernel, by decide +kernel⟩, ⟨fun dr h e => ?_, fun h r e => ?_⟩,
    by decide, by decide, by decide⟩
  · cases dr
    · obtain rfl : (⟨6, 1⟩ : Handle) = h := by injection e
      exact ⟨planRecord .one { plan .waiting 0 with plannedEnd := none }, by decide +kernel, rfl⟩
    · cases e
  · have m := mem_records_of_lookup e
    rw [show records awaiting = [(⟨6, 1⟩, planRecord .one { plan .waiting 0 with plannedEnd := none })] by
      decide +kernel] at m
    obtain ⟨rfl, rfl⟩ := Prod.mk.inj (List.mem_singleton.mp m)
    refine ⟨fun dr k => ?_, by decide, fun k => absurd k (by decide)⟩
    cases dr
    · decide
    · exact absurd k (by decide)

/-- R179: a return from UNKNOWN to REST at second 600 binds the WAITING plan to the rest start kept. -/
theorem test_return_to_rest_binds :
    (match exec (.driverActivity (BitVec.ofNat 11 (quiet.settings.idBase + 1)) [0#8, 7#8]) ⟨sec 600 awaiting, []⟩ with
      | .next t => (livePlan t.dev .one).map fun x => (x.2.2.sub, x.2.2.plannedEnd)
      | _ => none) = some (.active, some 32400) := by decide +kernel

/-- SoundingsRunTheirTime: the four times at their limits. -/
theorem witness_soundings :
    let a : Account := { startAccount with subject := true, sounding := true, lastDash := some 0, bunkUntil := some 3 }
    a.subject = true ∧ a.sounding = true ∧ a.lastDash = some 0 ∧ 0 + 300 ≤ (sec 300 quiet).clock.sec ∧
    0 + 5 ≤ (sec 5 quiet).clock.sec ∧ a.bunkUntil = some 3 ∧ 3 ≤ (sec 3 quiet).clock.sec ∧
    ({ PlanUnit.empty with call := .calling, nextCall := 30 } : PlanUnit).call = .calling ∧
    ({ PlanUnit.empty with call := .calling, nextCall := 30 } : PlanUnit).nextCall ≤ (sec 30 quiet).clock.sec := by
  decide

def planned (sub : SubState) (now : Nat) : Device :=
  let d := sec now (withRecord 6 (planRecord .one (plan sub 93060)) quiet)
  { d with plans := ⟨⟨some ⟨6, 1⟩, some 60660, .rising 0, 1800, .calling, 0⟩, PlanUnit.empty⟩ }

/-- PlansWakeTheDriver: the plan of section 10.9 at the end of each sub-state. -/
theorem witness_plans :
    (∀ p ∈ [(SubState.active, 91260), (.waking, 93060), (.due, 94860)],
      livePlan (planned p.1 p.2) .one = some (⟨6, 1⟩, planRecord .one (plan p.1 93060), plan p.1 93060)) ∧
    (planRecord .one (plan .active 93060)).fn = .rest .one ∧ (plan .active 93060).plannedEnd = some 93060 ∧
    TableOk (planned .active 91260) ∧ TableOk (planned .waking 93060) ∧ TableOk (planned .due 94860) ∧
    93060 ≤ 91260 + (plan .active 93060).lead * 60 ∧
    (planned .active 91260).table.slots[46]? = some ⟨1, none⟩ ∧ (plan .active 93060).preheat = some 40 ∧
    0 < (plan .active 93060).lead ∧ (plan .active 93060).buzzer = true ∧
    (plan .active 93060).light = some ⟨⟨true, true, false, false, false, false⟩, 60⟩ ∧
    ((planned .due 94860).plans.get .one).ramp ≠ .none ∧ 1800 ≤ ((planned .due 94860).plans.get .one).dueTimer ∧
    ((planned .due 94860).plans.get .one).call = .calling := by
  refine ⟨by decide +kernel, by decide, by decide, ?_, ?_, ?_, by decide +kernel⟩ <;>
    exact ⟨by decide +kernel, by decide +kernel, by decide +kernel⟩

theorem ladderOk_quiet : LadderOk quiet := by
  refine ⟨?_, ?_, ?_, ?_⟩ <;> decide

/-- StepsComeBackOneAtATime, RecomputeCoversTheHorizon: a step to give back, none, and a head of the queue that fits and
one that does not; each voltage state, and a running engine. -/
theorem witness_budget :
    let one := { quiet with budget := { quiet.budget with position := 1, mode := .curtailed } }
    let low : Device := { quiet with
      bank := { quiet.bank with vstate := .low }
      budget := { quiet.budget with position := 4, mode := .lowVoltage } }
    let r := { mkRecord .auxOn .outlet (.station .s3) .deferred .noMargin .aux with cls := .leisure }
    let q := { withRecord 1 r quiet with table := { (withRecord 1 r quiet).table with queue := [⟨1, 1⟩] } }
    let rich := { q with bank := { q.bank with q := 810000, uncalibrated := false } }
    LadderOk one ∧ LadderOk low ∧ LadderOk quiet ∧
    Lane.aux ≠ .cool ∧ Lane.cool ≠ .heat ∧ Lane.aux ≠ .heat ∧
    regimeOf one = none ∧ (one.settings.restoreMargin : Int) ≤ (projectAt one 0 none).m ∧
    regimeOf low = some .lowVoltage ∧ low.budget.position = 4 ∧
    lookup q ⟨1, 1⟩ = some r ∧ r.fn = laneFn .aux ∧ r.state = .deferred ∧ q.table.queue = [⟨1, 1⟩] ∧
    (project q q.budget.modes q.budget.cap (some .aux)).m < (q.settings.restoreMargin : Int) ∧
    (rich.settings.restoreMargin : Int) ≤ (project rich rich.budget.modes rich.budget.cap (some .aux)).m ∧
    (∀ v : VState, ({ quiet.bank with vstate := v } : Bank).vstate = v) ∧
    ({ quiet.vehicle with running := true } : Vehicle).running = true := by
  refine ⟨?_, ?_, ladderOk_quiet, by decide, by decide, by decide, by decide, by decide +kernel, by decide, by decide,
    by decide +kernel, by decide, by decide, by decide, by decide +kernel, by decide +kernel, fun v => rfl, rfl⟩ <;>
    (refine ⟨?_, ?_, ?_, ?_⟩ <;> decide)

/-- Every lane draws: the heater in RUN at step 3, the compressor, the outlet, and a lamp at 60 %, while a swap's mark is
being written. -/
def drawing : Device :=
  { quiet with
    heater := { quiet.heater with state := .run, step := 3, target := 3, fuel := true, demand := some 42 }
    fridge := { quiet.fridge with state := .running, target := some 8 }
    sched := { quiet.sched with perm := ⟨true, true, true⟩, outletOn := true, outletClosed := true, waiting := true }
    lamps := { quiet.lamps with c8 := formLamp 100 { quiet.lamps.c8 with effective := 60, out := 600 } } }

/-- EveryStepKeepsTheDrawing: such a state. -/
theorem witness_drawing : DrawOk drawing := by
  refine ⟨by refine ⟨?_, ?_, ?_, ?_, ?_, ?_, rfl⟩ <;> decide, by refine ⟨?_, ?_, ?_⟩ <;> decide, ⟨?_, by decide, rfl⟩,
    by unfold HighOk; decide, ladderOk_quiet, fun c => by cases c <;> (refine ⟨?_, ?_, ?_⟩ <;> decide), fun c => ?_⟩
  · intro l; cases l <;> decide
  · have f : drawing.lamps.get c = formLamp drawing.budget.cap (drawing.lamps.get c) := by cases c <;> decide
    rw [f]; exact formLamp_formed _ _

/-- R103, R109, R191: HIGH that comes while a swap's mark is being written takes COOL and AUX away and opens the outlet at
once, and the compressor stops into its guard. -/
theorem test_high_during_a_swap :
    (match exec .voltageStateChange ⟨dueAt (some .high) { drawing with
        store := { quiet.store with jobs := [⟨.active .b, .boundary true true⟩], writing := some .a } }, []⟩ with
      | .next t => (t.dev.sched.waiting, t.dev.sched.perm.cool, t.dev.sched.outletClosed, t.dev.fridge.state)
      | _ => (false, true, true, .off)) = (true, false, false, .guard) := by decide +kernel

/-- R170 to R172: the second that brings driver 1's continuous driving to 255 min raises DRIVE_PRE, which sounds at once. -/
theorem test_raise_sounds :
    (match exec .accrual ⟨onlineAt .s2 (sec 60 (account (fun a => { a with effective := .driving, cd := 15299 }) quiet)), []⟩ with
      | .next t => let a := t.dev.accounts.one
        (a.warnings.drivePre, a.ack, a.sounding, a.lastDash, (t.dev.link.stations.get .s2).flags.warning.one)
      | _ => (false, .none, false, none, false)) = (true, .unacknowledged, true, some 60, true) := by decide +kernel

/-- R20: a CREATE at the counter's last value renumbers the live records, here with 7 and 900, from 1 and takes 3. -/
theorem test_renumbering :
    let d := withRecord 0 { lampRec .s1 with seq := 900 } (withRecord 1 { lampRec .s2 with seq := 7 } (polled .s1 quiet))
    (match exec (.create (some (lampBody 5#16))) ⟨{ d with table := { d.table with counter := 4294967295 } }, []⟩ with
      | .next t => ((records t.dev).map fun hr => hr.2.seq, t.dev.table.counter)
      | _ => ([], 0)) = ([2, 1, 3], 3) := by decide +kernel

/-- PlansWakeTheDriver: an AMEND by station 2 of its own plan in WAKING and in DUE, with length and lead kept. -/
theorem witness_amend_woken :
    let at' := fun sub => polled .s2 (planned sub 93060)
    let f : PlanFields := ⟨0xFFFF#16, 0xFF#8, 42#16, 1#8, 30#8, 0#8⟩
    let b : AmendBody := ⟨0x0601#16, 4#8, 0#8, 0#8, 0xFFFF#16, 0#8, .plan f⟩
    ∀ sub ∈ [SubState.waking, .due], Polled .s2 (at' sub) ∧
      AmendsPlan .s2 b .one ⟨6, 1⟩ (planRecord .one (plan sub 93060)) (plan sub 93060) f (at' sub) ∧
      f.len = 0xFFFF#16 ∧ f.lead = 0xFF#8 ∧ (at' sub).table.counter < 4294967294 ∧
      (plan sub 93060).preheat ≠ some (max 10 (min f.preheat.toInt 60)) ∧
      ((at' sub).plans.get .one).ramp ≠ .none ∧ ((at' sub).plans.get .one).call = .calling ∧ (plan sub 93060).buzzer = true := by
  intro at' f b sub m
  have hs : sub = .waking ∨ sub = .due := by simpa using m
  rcases hs with rfl | rfl <;>
    exact ⟨⟨rfl, true, rfl⟩, ⟨by decide, by decide +kernel, by decide, by decide, by decide, by decide, by decide, rfl,
      ⟨⟨4, 2, 20, Config.ownRights⟩, by decide +kernel, .inr (by decide)⟩, by decide, .inl (by decide), by decide, by decide⟩,
      by decide +kernel⟩

/-- R183: an AMEND of the wake buzzer to no while the call sounds silences it. -/
theorem test_amend_silences :
    let b : AmendBody := ⟨0x0601#16, 4#8, 0#8, 0#8, 0xFFFF#16, 0#8, .plan ⟨0xFFFF#16, 0xFF#8, 0x7FFF#16, 0#8, 0xFF#8, 0#8⟩⟩
    (match exec (.amend (some b)) ⟨polled .s2 (planned .due 93060), []⟩ with
      | .next t => ((t.dev.plans.get .one).call, (t.dev.accounts.get .one).bunkUntil)
      | _ => (.none, some 0)) = (.silent, none) := by decide +kernel

/-- EveryStepKeepsTheDrawing, EveryStepKeepsTheBooks and the other step lemmas: a step that answers a next state; that the state after reset meets
the two invariants is the statement ResetMeetsTheInvariants. -/
theorem witness_step : ∃ t, step State.reset = .next t := ⟨_, rfl⟩

/-- ReplyFramesRoundTrip: a request that the encoder encodes. -/
theorem witness_round_trip :
    (Instr.scheduleSwap true).wf = true ∧ (encodeReply 6 (.scheduleSwap true)).isSome = true := by decide +kernel

end Sys2Proof.Tests
end

section
/-! PROOF. Requests that the port answers at once: what a refusal and an answer leave, and the statements on LOOKUP and on
the refusals of CREATE. -/

namespace Sys2Proof.Machine
open Sys2Proof

/-! ## A request served for the polled station (R29, R31) -/

/-- The part as a request finds it: the good reply is noted, and the port serves the polled station. -/
def opened (st : Station) (d : Device) : Device :=
  setLink (fun l => { l with phase := .serving st, ticks := 0 }) (updateStation st goodReply d)

@[simp] theorem opened_table (st : Station) (d : Device) : (opened st d).table = d.table := rfl
@[simp] theorem opened_settings (st : Station) (d : Device) : (opened st d).settings = d.settings := rfl
@[simp] theorem opened_clock (st : Station) (d : Device) : (opened st d).clock = d.clock := rfl
@[simp] theorem opened_store (st : Station) (d : Device) : (opened st d).store = d.store := rfl
@[simp] theorem opened_budget (st : Station) (d : Device) : (opened st d).budget = d.budget := rfl
@[simp] theorem opened_sched (st : Station) (d : Device) : (opened st d).sched = d.sched := rfl
@[simp] theorem opened_heater (st : Station) (d : Device) : (opened st d).heater = d.heater := rfl
@[simp] theorem opened_lamps (st : Station) (d : Device) : (opened st d).lamps = d.lamps := rfl
@[simp] theorem opened_plans (st : Station) (d : Device) : (opened st d).plans = d.plans := rfl
@[simp] theorem opened_accounts (st : Station) (d : Device) : (opened st d).accounts = d.accounts := rfl
@[simp] theorem opened_stations (st : Station) (d : Device) : (opened st d).link.stations = afterReply st d := rfl
@[simp] theorem opened_phase (st : Station) (d : Device) : (opened st d).link.phase = .serving st := rfl

theorem same_opened (st : Station) (d : Device) : sameExcept [.link] d (opened st d) :=
  same_trans (same_updateStation st _ d) (same_setLink _ _)

@[simp] theorem lookup_opened (st : Station) (d : Device) (h : Handle) : lookup (opened st d) h = lookup d h := rfl
@[simp] theorem records_opened (st : Station) (d : Device) : records (opened st d) = records d := rfl
@[simp] theorem windowOf_opened (st o : Station) (d : Device) (fn : Fn) : windowOf (opened st d) o fn = windowOf d o fn := rfl
@[simp] theorem windowList_opened (st o : Station) (d : Device) : windowList (opened st d) o = windowList d o := rfl
@[simp] theorem translate_opened (st o : Station) (d : Device) (n : Nat) : translate (opened st d) o n = translate d o n := rfl
@[simp] theorem stationRecords_opened (st o : Station) (d : Device) :
    stationRecords (opened st d) o = stationRecords d o := rfl
@[simp] theorem fnStationRecords_opened (st : Station) (d : Device) (fn : Fn) :
    fnStationRecords (opened st d) fn = fnStationRecords d fn := rfl
@[simp] theorem freeStationSlot_opened (st : Station) (d : Device) : freeStationSlot (opened st d) = freeStationSlot d := rfl
@[simp] theorem answerBlock_opened (st o : Station) (d : Device) (h : Handle) (m : Nat) :
    answerBlock (opened st d) o h m = answerBlock d o h m := rfl

/-- A command that is no request, out of reset. -/
theorem answers_onPart {i : Instr} {s : State} {f : Device → Device} {post : Device → Prop}
    (he : exec i s = onPart f s) (hr : s.dev.inReset = false) (hf : post (f s.dev)) : Answers i s post :=
  ⟨{ s with dev := f s.dev }, by rw [he, onPart_running f s hr], rfl, hf⟩

/-- A request of the polled station answers what its service leaves. -/
theorem answers_served {i : Instr} {s : State} {st : Station} {f : Station → Device → Device} {post : Device → Prop}
    (he : exec i s = onPart (serve f) s) (hp : Polled st s.dev) (hf : post (f st (opened st s.dev))) :
    Answers i s post := by
  obtain ⟨hr, c, hc⟩ := hp
  exact answers_onPart he hr (by rw [serve_awaiting f s.dev st c hc]; exact hf)

/-- What an answer at once leaves: the poll has ended with it, and beyond the link nothing has changed. -/
theorem answeredOnly_answer (st : Station) (ty : Byte) (code : AnswerCode) (body : List Byte) (d : Device) :
    AnsweredOnly st ty code body d (answer st ty code body (opened st d)) ∧
      sameExcept [.link] d (answer st ty code body (opened st d)) :=
  ⟨⟨⟨rfl, rfl⟩, rfl, rfl, rfl, rfl⟩, same_trans (same_opened st d) (same_answer _ _ _ _ _)⟩

/-- A request whose service refuses it. -/
theorem refused_served {i : Instr} {s : State} {st : Station} {f : Station → Device → Device} {ty : Byte}
    {code : AnswerCode} (he : exec i s = onPart (serve f) s) (hp : Polled st s.dev)
    (hf : f st (opened st s.dev) = refuse st ty code (opened st s.dev)) :
    Answers i s fun d => AnsweredOnly st ty code [] s.dev d ∧ sameExcept [.link] s.dev d :=
  answers_served he hp (by rw [hf]; exact answeredOnly_answer st ty code [] s.dev)

/-- A request whose service answers it at once, with whatever an answer at once leaves. -/
theorem answered_served {i : Instr} {s : State} {st : Station} {f : Station → Device → Device} {ty : Byte}
    {code : AnswerCode} {body : List Byte} (he : exec i s = onPart (serve f) s) (hp : Polled st s.dev)
    (hf : f st (opened st s.dev) = answer st ty code body (opened st s.dev)) :
    Answers i s fun d => AnsweredOnly st ty code body s.dev d ∧ sameExcept [.link] s.dev d :=
  answers_served he hp (by rw [hf]; exact answeredOnly_answer st ty code body s.dev)

theorem Answers.imp {i : Instr} {s : State} {p q : Device → Prop} (h : Answers i s p) (k : ∀ d, p d → q d) :
    Answers i s q := by
  obtain ⟨t, he, hp, hd⟩ := h
  exact ⟨t, he, hp, k _ hd⟩

/-! ## Function numbers and owners -/

/-- A number has a function just where it is that function's number (R1). -/
theorem fnOfNumber_fnNumber (fn : Fn) : fnOfNumber (fnNumber fn) = some fn := by
  cases fn with
  | lamp c => cases c <;> rfl
  | rest dr => cases dr <;> rfl
  | _ => rfl

theorem fnNumber_of_fnOfNumber {n : Nat} {fn : Fn} (h : fnOfNumber n = some fn) : fnNumber fn = n := by
  unfold fnOfNumber at h
  split at h <;> cases h <;> rfl

theorem fnOfNumber_eq_none {n : Nat} (h : ∀ fn, fnNumber fn ≠ n) : fnOfNumber n = none := by
  cases e : fnOfNumber n with
  | none => rfl
  | some fn => exact absurd (fnNumber_of_fnOfNumber e) (h fn)

theorem isOwn_iff {st : Station} {r : Record} : isOwn st r = true ↔ r.owner = .station st := beq_iff_eq

theorem isOwn_eq_false_iff {st : Station} {r : Record} : isOwn st r = false ↔ r.owner ≠ .station st := by
  rw [ne_eq, ← isOwn_iff, Bool.not_eq_true]

/-! ## LOOKUP (R21) -/

section resolve

variable {d : Device} {st : Station} {w : Word16}

theorem resolve_stale (h : lookup d (handleOfWord w) = none) : resolve d st w = .error .badHandle := by
  simp [resolve, h]

theorem resolve_unmapped {r : Record} (h : lookup d (handleOfWord w) = some r) (hw : windowOf d st r.fn = none) :
    resolve d st w = .error .notMapped := by
  simp [resolve, h, hw]

theorem resolve_ok {r : Record} {win : Window} (h : lookup d (handleOfWord w) = some r)
    (hw : windowOf d st r.fn = some win) : resolve d st w = .ok (handleOfWord w, r, win) := by
  simp [resolve, h, hw]

@[simp] theorem resolve_opened (o : Station) : resolve (opened o d) st w = resolve d st w := rfl

end resolve

/-- The bytes of two flags and more, as a sum of their weights (R195). -/
theorem channelSetByte_eq (c : PerChannel Bool) :
    channelSetByte c = byte ((if c.c8 then 1 else 0) + (if c.c9 then 2 else 0) + (if c.c10 then 4 else 0) +
      (if c.c11 then 8 else 0) + (if c.c12 then 16 else 0) + (if c.c13 then 32 else 0)) := by
  simp only [channelSetByte, flagsByte, Nat.mul_add, mul_ite, Nat.mul_zero, Nat.add_zero, Nat.mul_one,
    Nat.reduceMul, Nat.add_assoc]

/-- The fields of a record block, byte by byte (R198). -/
theorem answerBlock_of_lookup {d : Device} {st : Station} {h : Handle} {r : Record} {mask : Nat} (hl : lookup d h = some r) :
    answerBlock d st h mask = recordBlock d st h r (be32 r.seq) (be16 mask) := by
  simp [answerBlock, hl]

/-- Settles O11: the block is the model's record block written out, and the refusals are those of `resolve`. -/
theorem lookupAnswersTheRecord : Obligations.LookupAnswersTheRecord := by
  unfold Obligations.LookupAnswersTheRecord
  refine ⟨fun s st w hp => ⟨fun hl => ?_, fun r hl hw => ?_, fun r win hl hw => ?_⟩, fun d st h r mask hl => ?_⟩
  · exact refused_served rfl hp (by simp [lookupHandle, resolve_stale hl])
  · exact refused_served rfl hp (by simp [lookupHandle, resolve_unmapped hl hw])
  · cases hmay : isOwn st r || win.rights.lookup with
    | true =>
      refine (answered_served (f := lookupHandle (some w)) (ty := 0x11#8) (code := .ok)
        (body := answerBlock s.dev st (handleOfWord w) 0) rfl hp
        (by simp [lookupHandle, resolve_ok hl hw, hmay])).imp fun d ⟨ha, hs⟩ => ⟨hs, fun _ => ha, fun ho hn => ?_⟩
      simp [isOwn_eq_false_iff.mpr ho, hn] at hmay
    | false =>
      refine (refused_served (f := lookupHandle (some w)) (ty := 0x11#8) (code := .noRight) rfl hp
        (by simp [lookupHandle, resolve_ok hl hw, hmay])).imp fun d ⟨ha, hs⟩ => ⟨hs, fun ho => ?_, fun _ _ => ha⟩
      rw [Bool.or_eq_false_iff, isOwn_eq_false_iff] at hmay
      rcases ho with ho | ho
      · exact absurd ho hmay.1
      · rw [hmay.2] at ho; cases ho
  · have hm : ∀ t : Option Nat, minutesField d.clock.sec t = match t with
        | some t => [byte (min 9999 ((t - d.clock.sec) / 60) / 256), byte (min 9999 ((t - d.clock.sec) / 60))]
        | none => [0xFF#8, 0xFF#8] := by
      intro t; cases t <;> rfl
    rw [answerBlock_of_lookup hl]
    simp only [recordBlock, hm, be32, be16, handleBytes, List.append_assoc, List.cons_append, List.nil_append]
    rcases hk : r.params with ⟨t, o⟩ | t | l | _ | p
    · cases o <;> simp [kindParams, handleBytes] <;> rfl
    · simp [kindParams] <;> rfl
    · simp [kindParams] <;> rfl
    · simp [kindParams] <;> rfl
    · have ht : ∀ t : Option Int, tempField t = match t with
          | some t => be16i t
          | none => [0x7F#8, 0xFF#8] := by intro t; cases t <;> rfl
      have hf : ∀ b : Bool, flagByte b = if b then 1#8 else 0#8 := fun b => rfl
      cases hl : p.light <;> cases hi : p.internal <;> cases hp : p.preheat <;> cases he : p.plannedEnd <;>
        simp [kindParams, planParams, planFields, hm, ht, hf, hl, hi, hp, he, be16, channelSetByte_eq, optHandleBytes,
          handleBytes, byteAbsent] <;> rfl

/-! ## The lists of LOOKUP (R21) -/

theorem flagByte_decide (p : Prop) [Decidable p] : flagByte (decide p) = if p then 1#8 else 0#8 := by
  by_cases h : p <;> simp [flagByte, h]

/-- A list's answer, written out: at most 8 handles from the first slot on. -/
theorem answerList_eq (st : Station) (first : Byte) (hs : List Handle) (d : Device) :
    answerList st first.toNat hs d = answer st 0x11#8 (if first.toNat ≤ 47 then .ok else .okClamped)
      (let hs := hs.filter fun h => decide (min first.toNat 47 ≤ h.slot)
       [byte (min 8 hs.length), if hs.length > 8 then 1#8 else 0#8] ++
        (hs.take 8).flatMap fun h => [byte h.slot, byte h.gen]) d := by
  have hc : okCode (decide (first.toNat > 47)) = if first.toNat ≤ 47 then .ok else .okClamped := by
    by_cases h : first.toNat ≤ 47
    · simp [okCode, h, Nat.not_lt.mpr h]
    · simp [okCode, h, Nat.lt_of_not_le h]
  simp only [answerList, hc, listPage, flagByte_decide]
  simp only [Config.listLimit, List.length_take]
  rfl

/-- Settles O12: the page is that of `answerList`, and the refusals are those of the two list forms. -/
theorem listsAnswerEightHandles : Obligations.ListsAnswerEightHandles := by
  unfold Obligations.ListsAnswerEightHandles
  refine ⟨fun s st first hp => ⟨fun l fn win ht hl => ?_, fun ⟨w, hw, hl⟩ => ?_⟩,
    fun s st l first hp => ⟨fun ht => ?_, fun n win ht => ⟨fun hl => ?_, fun hl hn => ?_⟩, fun hn => ?_⟩⟩
  · refine (answered_served (f := lookupFunction (some ⟨l, first⟩)) rfl hp ?_).imp fun d h => ⟨h.2, h.1⟩
    simp only [lookupFunction, translate_opened, ht, hl, Bool.not_true, Bool.false_eq_true, if_false,
      fnOfNumber_fnNumber, records_opened]
    exact answerList_eq _ _ _ _
  · refine (answered_served (f := lookupOwn (some first)) rfl hp ?_).imp fun d h => ⟨h.2, h.1⟩
    have ha : (windowList s.dev st).any (fun w => w.rights.lookup) = true := List.any_eq_true.mpr ⟨w, hw, hl⟩
    simp only [lookupOwn, windowList_opened, ha, if_true, stationRecords_opened]
    exact answerList_eq _ _ _ _
  · exact refused_served rfl hp (by simp [lookupFunction, ht])
  · exact refused_served rfl hp (by simp [lookupFunction, ht, hl])
  · exact refused_served rfl hp (by simp [lookupFunction, ht, hl, fnOfNumber_eq_none hn])
  · have ha : ¬ (windowList s.dev st).any (fun w => w.rights.lookup) = true := by
      simpa using hn
    exact refused_served rfl hp (by simp only [lookupOwn, windowList_opened, ha]; rfl)

/-! ## The checks of CREATE in their order (R8, R37) -/

theorem kindOfCode_eq {b : Byte} {k : Kind} (h : b.toNat = kindCode k) : kindOfCode b = some k := by
  cases k <;> simp [kindOfCode, h, kindCode]

theorem kindCode_of_kindOfCode {b : Byte} {k : Kind} (h : kindOfCode b = some k) : b.toNat = kindCode k := by
  unfold kindOfCode at h
  split at h <;> cases h <;> assumption

theorem kindOfCode_isSome {b : Byte} (h : b.toNat ≤ 4) : ∃ k, kindOfCode b = some k := by
  have hk : ∃ k, b.toNat = kindCode k := by
    interval_cases b.toNat
    exacts [⟨.heatHold, rfl⟩, ⟨.coolHold, rfl⟩, ⟨.lamp, rfl⟩, ⟨.auxOn, rfl⟩, ⟨.restPlan, rfl⟩]
  obtain ⟨k, hk⟩ := hk
  exact ⟨k, kindOfCode_eq hk⟩

theorem kindOfCode_eq_none {b : Byte} (h : 4 < b.toNat) : kindOfCode b = none := by
  cases e : kindOfCode b with
  | none => rfl
  | some k => have := kindCode_of_kindOfCode e; cases k <;> simp [kindCode] at this <;> omega

/-- Parameters of another kind's shape are none that a CREATE takes (R197). -/
theorem createParams_misfit {k : Kind} {f : KindFields} (h : fieldsFit (some k) f = false) : createParams k f = none := by
  cases k <;> cases f <;> first | rfl | exact Bool.noConfusion h

theorem fieldsFit_of_createParams {k : Kind} {f : KindFields} {x : Params × List Bool} (h : createParams k f = some x) :
    fieldsFit (some k) f = true := by
  cases e : fieldsFit (some k) f with
  | true => rfl
  | false => rw [createParams_misfit e] at h; cases h

section create

variable {d : Device} {st : Station} {b : CreateBody} {fn : Fn} {win : Window}

/-- CREATE once its local number has translated to a function, the right stands and the kind is the function's. -/
theorem create_mapped (hfit : fieldsFit (kindOfCode b.kind) b.fields = true)
    (ht : translate d st b.fn.toNat = some (fnNumber fn, win))
    (hr : win.rights.changeOwn = true ∨ win.rights.changeAny = true) (hk : kindOfCode b.kind = some (fnKind fn)) :
    create (some b) st d = createChecked st fn b d := by
  have hr' : (win.rights.changeOwn || win.rights.changeAny) = true := by simpa using hr
  rw [hk] at hfit
  simp [create, hfit, ht, hr', hk, fnOfNumber_fnNumber]

/-- Checks 5 to 7 of R8, once the parameters are there. -/
theorem createChecked_fit {cls : Machine.Class} {params : Params} {flags : List Bool} (hc : createClass b.cls = some cls)
    (hpar : createParams (fnKind fn) b.fields = some (params, flags)) (ht : timesFit (fnKind fn) b = true) :
    createChecked st fn b d =
      if (d.settings.stations.get st).quota ≤ (stationRecords d st).length then refuse st 0x12#8 .quota d
      else if fnLimit fn ≤ (fnStationRecords d fn).length then refuse st 0x12#8 .functionFull d
      else
        match freeStationSlot d with
        | none => refuse st 0x12#8 .tableFull d
        | some h => createRecord st fn h b cls params flags d := by
  simp only [createChecked, hc, hpar, ht] <;> rfl

theorem timesFit_iff (k : Kind) : timesFit k b = true ↔ (k = .restPlan → b.delay = 0xFFFF#16 ∧ b.duration = 0xFFFF#16) := by
  cases k <;> simp [timesFit, minutesAbsent]

/-- Check 4 of R8 refuses where the class, a parameter or a time does not fit. -/
theorem createChecked_unfit
    (h : createClass b.cls = none ∨ createParams (fnKind fn) b.fields = none ∨ timesFit (fnKind fn) b = false) :
    createChecked st fn b d = refuse st 0x12#8 .badValue d := by
  unfold createChecked
  split
  · rename_i h1 h2 h3
    simp [h1, h2, h3] at h
  · rfl

end create

/-- A required parameter that is absent (R8 check 4). -/
theorem createParams_absent {k : Kind} {f : KindFields}
    (h : f = .temp 0x7FFF#16 ∨ f = .level 0xFF#8 ∨ ∃ p : PlanFields, f = .plan p ∧ p.len = 0xFFFF#16) :
    createParams k f = none := by
  rcases h with rfl | rfl | ⟨p, rfl, hp⟩
  · cases k <;> rfl
  · cases k <;> rfl
  · cases k with
    | restPlan => exact if_pos hp
    | _ => rfl

/-- Settles O16: each check of `create` refuses in its turn. -/
theorem fullTablesRefuseCreates : Obligations.FullTablesRefuseCreates := by
  unfold Obligations.FullTablesRefuseCreates
  constructor
  · intro s st b hp hfit refusal
    have refused : ∀ {code}, create (some b) st (opened st s.dev) = refuse st 0x12#8 code (opened st s.dev) →
        refusal code := fun h => refused_served rfl hp h
    refine ⟨fun ht => refused (by simp [create, hfit, ht]), fun n win ht => ⟨fun ho ha => ?_, fun hr => ?_⟩⟩
    · exact refused (by simp [create, hfit, ht, ho, ha])
    have hr' : (win.rights.changeOwn || win.rights.changeAny) = true := by simpa using hr
    refine ⟨fun hn => refused (by simp [create, hfit, ht, hr', fnOfNumber_eq_none hn]), fun fn hfn => ?_⟩
    subst hfn
    refine ⟨fun hk => ?_, fun hk hne => ?_, fun hk => ?_⟩
    · have hn := kindOfCode_eq_none hk
      rw [hn] at hfit
      exact refused (by simp [create, hn, hfit, ht, hr', fnOfNumber_fnNumber])
    · obtain ⟨k, he⟩ := kindOfCode_isSome hk
      have hne' : k ≠ fnKind fn := fun e => hne (by rw [kindCode_of_kindOfCode he, e])
      rw [he] at hfit
      exact refused (by simp [create, he, hfit, ht, hr', fnOfNumber_fnNumber, hne'])
    · have unfit : (createClass b.cls = none ∨ createParams (fnKind fn) b.fields = none ∨
          timesFit (fnKind fn) b = false) → refusal .badValue := fun h =>
        refused ((create_mapped (d := opened st s.dev) hfit ht hr (kindOfCode_eq hk)).trans (createChecked_unfit h))
      refine ⟨fun hc hn => unfit (.inl (by simp [createClass, byteAbsent, hc, hn])),
        fun hf => unfit (.inr (.inl (createParams_absent (.inl hf)))),
        fun hf => unfit (.inr (.inl (createParams_absent (.inr (.inl hf))))),
        fun f hf hl => unfit (.inr (.inl (createParams_absent (.inr (.inr ⟨f, hf, hl⟩))))),
        fun hk' ht' => unfit (.inr (.inr ?_))⟩
      rw [Bool.eq_false_iff, ne_eq, timesFit_iff]
      exact fun h => ht' (h hk')
  · intro s st b fn win cls params flags hp ht hr hk hc hpar htime quotaReached functionFull refusal
    have hm : create (some b) st (opened st s.dev) = _ :=
      (create_mapped (d := opened st s.dev) (by rw [hk]; exact fieldsFit_of_createParams hpar) ht hr hk).trans
        (createChecked_fit hc hpar ((timesFit_iff _).mpr htime))
    refine ⟨fun hq => ?_, fun hq hf => ?_, fun hq hf hfree => ?_⟩
    · exact refused_served rfl hp (hm.trans (if_pos hq))
    · exact refused_served rfl hp (hm.trans ((if_neg hq).trans (if_pos hf)))
    · exact refused_served rfl hp (hm.trans ((if_neg hq).trans ((if_neg hf).trans (by simp [hfree]))))

end Sys2Proof.Machine
end

section
/-! PROOF. The demand table's records under the shared operations: what a handle names after a write, a revision, a queue
move and the forming of a function's causes (R6, R12, R20, R23). -/

namespace Sys2Proof.Machine
open Sys2Proof

/-! ## Handles and slots -/

theorem lookup_eq_some_iff {d : Device} {h : Handle} {r : Record} :
    lookup d h = some r ↔ h.slot ≤ 47 ∧ h.gen ≠ 0 ∧ d.table.slots[h.slot]? = some ⟨h.gen, some r⟩ := by
  unfold lookup
  constructor
  · intro e
    split at e
    · rename_i hb
      split at e
      · rename_i s hs
        split at e
        · rename_i hg
          exact ⟨hb.1, hb.2, by rw [hs, ← hg, ← e]⟩
        · cases e
      · cases e
    · cases e
  · rintro ⟨h1, h2, h3⟩
    simp [h1, h2, h3]

theorem lookup_congr {d e : Device} (h : e.table.slots = d.table.slots) (k : Handle) : lookup e k = lookup d k := by
  unfold lookup; rw [h]

theorem records_congr {d e : Device} (h : e.table.slots = d.table.slots) : records e = records d := by
  unfold records; rw [h]

theorem slot_of_lookup {d : Device} {h : Handle} {r : Record} (e : lookup d h = some r) :
    d.table.slots[h.slot]? = some ⟨h.gen, some r⟩ := (lookup_eq_some_iff.mp e).2.2

/-- Two live handles on one slot are one handle. -/
theorem handle_eq_of_slot {d : Device} {h k : Handle} {r x : Record} (e : lookup d h = some r) (f : lookup d k = some x)
    (hs : h.slot = k.slot) : h = k := by
  have a := slot_of_lookup e
  rw [hs, slot_of_lookup f] at a
  cases h; cases k
  simp only [Option.some.injEq, Slot.mk.injEq] at a
  simp only at hs
  rw [hs, a.1]

/-- A record written into its own slot is what its handle names. -/
theorem lookup_putRecord_own {d : Device} {h : Handle} {r : Record} {x : Option Record} (h1 : h.slot ≤ 47) (h2 : h.gen ≠ 0)
    (h3 : d.table.slots[h.slot]? = some ⟨h.gen, x⟩) : lookup (putRecord h r d) h = some r := by
  rw [lookup_eq_some_iff]
  refine ⟨h1, h2, ?_⟩
  obtain ⟨hlt, -⟩ := List.getElem?_eq_some_iff.mp h3
  rw [putRecord_table_slots, List.getElem?_set_self hlt]

/-- A record written into its own slot changes what no other handle names. -/
theorem lookup_putRecord_ne {d : Device} {h k : Handle} {r : Record} {x : Option Record}
    (h3 : d.table.slots[h.slot]? = some ⟨h.gen, x⟩) (hk : k ≠ h) : lookup (putRecord h r d) k = lookup d k := by
  by_cases hs : k.slot = h.slot
  · have hg : h.gen ≠ k.gen := fun e => hk (by cases h; cases k; simp_all)
    obtain ⟨hlt, -⟩ := List.getElem?_eq_some_iff.mp h3
    unfold lookup
    rw [putRecord_table_slots, hs, List.getElem?_set_self hlt, h3]
    simp [hg]
  · unfold lookup
    rw [putRecord_table_slots, List.getElem?_set_ne (Ne.symm hs)]

theorem lookup_putRecord {d : Device} {h : Handle} {r x : Record} (e : lookup d h = some x) (k : Handle) :
    lookup (putRecord h r d) k = if k = h then some r else lookup d k := by
  split
  · rename_i hk
    subst hk
    have ⟨h1, h2, h3⟩ := lookup_eq_some_iff.mp e
    exact lookup_putRecord_own h1 h2 h3
  · rename_i hk
    exact lookup_putRecord_ne (slot_of_lookup e) hk

/-! ## Generations and occupancy (R6) -/

/-- Each slot's generation, and whether it is occupied. -/
def occupancy (d : Device) : List (Nat × Bool) := d.table.slots.map fun s => (s.gen, s.rcd.isSome)

theorem occupancy_congr {d e : Device} (h : e.table.slots = d.table.slots) : occupancy e = occupancy d := by
  unfold occupancy; rw [h]

theorem occupancy_getElem? (d : Device) (i : Nat) :
    (occupancy d)[i]? = (d.table.slots[i]?).map fun s => (s.gen, s.rcd.isSome) := List.getElem?_map

/-- A slot that is free, with its generation, is so wherever the occupancy is the same. -/
theorem free_of_occupancy {d e : Device} (h : occupancy e = occupancy d) {i g : Nat} (hs : d.table.slots[i]? = some ⟨g, none⟩) :
    e.table.slots[i]? = some ⟨g, none⟩ := by
  have := congrArg (·[i]?) h
  simp only [occupancy_getElem?, hs, Option.map_some, Option.isSome_none] at this
  cases hx : e.table.slots[i]? with
  | none => simp [hx] at this
  | some s =>
    cases s with
    | mk g' r' =>
      cases r' with
      | none => simp [hx] at this; rw [this]
      | some r' => simp [hx] at this

/-- A slot's generation is the same wherever the occupancy is. -/
theorem gen_of_occupancy {d e : Device} (h : occupancy e = occupancy d) {i : Nat} {s : Slot} (hs : d.table.slots[i]? = some s) :
    ∃ x, e.table.slots[i]? = some ⟨s.gen, x⟩ ∧ x.isSome = s.rcd.isSome := by
  have := congrArg (·[i]?) h
  simp only [occupancy_getElem?, hs, Option.map_some] at this
  cases hx : e.table.slots[i]? with
  | none => simp [hx] at this
  | some y =>
    simp only [hx, Option.map_some, Option.some.injEq, Prod.mk.injEq] at this
    exact ⟨y.rcd, by rw [← this.1], this.2⟩

theorem set_map_self {α β : Type} (f : α → β) {l : List α} {i : Nat} {a b : α} (h : l[i]? = some b) (e : f a = f b) :
    (l.set i a).map f = l.map f := by
  rw [List.map_set, e]
  obtain ⟨hlt, hb⟩ := List.getElem?_eq_some_iff.mp h
  subst hb
  apply List.ext_getElem? 
  intro j
  by_cases hj : i = j
  · subst hj; simp [hlt]
  · simp [List.getElem?_set_ne hj]

theorem occupancy_putRecord {d : Device} {h : Handle} {r x : Record} (e : lookup d h = some x) :
    occupancy (putRecord h r d) = occupancy d := set_map_self _ (slot_of_lookup e) rfl

/-! ## Marks and revisions (R13) -/

@[simp] theorem mark_table (h : Handle) (d : Device) : (mark h d).table = d.table := same_table (same_mark h d)

@[simp] theorem lookup_mark (h k : Handle) (d : Device) : lookup (mark h d) k = lookup d k :=
  lookup_congr (by rw [mark_table]) k

theorem revise_of_none {h : Handle} {d : Device} (f : Record → Record) (e : lookup d h = none) : revise h f d = d := by
  simp [revise, e]

theorem revise_of_some {h : Handle} {d : Device} {r : Record} (f : Record → Record) (e : lookup d h = some r) :
    revise h f d = if f r = r then d else mark h (putRecord h (f r) d) := by
  simp [revise, e]

/-- A revision changes what its own handle names, and no other record (R13). -/
theorem lookup_revise (h : Handle) (f : Record → Record) (d : Device) (k : Handle) :
    lookup (revise h f d) k = if k = h then (lookup d h).map f else lookup d k := by
  cases e : lookup d h with
  | none =>
    rw [revise_of_none f e]
    split
    · rename_i hk; rw [hk, e]; rfl
    · rfl
  | some r =>
    rw [revise_of_some f e]
    by_cases hf : f r = r
    · rw [if_pos hf, Option.map_some, hf]
      split
      · rename_i hk; rw [hk, e]
      · rfl
    · rw [if_neg hf, lookup_mark, lookup_putRecord e, Option.map_some]

theorem lookup_revise_self (h : Handle) (f : Record → Record) (d : Device) :
    lookup (revise h f d) h = (lookup d h).map f := by rw [lookup_revise, if_pos rfl]

theorem lookup_revise_ne {h k : Handle} (f : Record → Record) (d : Device) (hk : k ≠ h) :
    lookup (revise h f d) k = lookup d k := by rw [lookup_revise, if_neg hk]

/-- A revision's slots: those before it, or with its record replaced in its slot. -/
theorem revise_table_slots (h : Handle) (f : Record → Record) (d : Device) :
    (revise h f d).table.slots = match lookup d h with
      | some r => d.table.slots.set h.slot ⟨h.gen, some (f r)⟩
      | none => d.table.slots := by
  cases e : lookup d h with
  | none => rw [revise_of_none f e]
  | some r =>
    rw [revise_of_some f e]
    split
    · rename_i hf
      have hs := slot_of_lookup e
      obtain ⟨hlt, hv⟩ := List.getElem?_eq_some_iff.mp hs
      simp only [hf, ← hv, List.set_getElem_self]
    · rw [mark_table, putRecord_table_slots]

/-- Beyond the slots a revision leaves the table as it is. -/
theorem revise_table (h : Handle) (f : Record → Record) (d : Device) :
    (revise h f d).table = { d.table with slots := (revise h f d).table.slots } := by
  unfold revise
  split
  · split
    · rfl
    · rw [mark_table]; rfl
  · rfl

@[simp] theorem revise_queue (h : Handle) (f : Record → Record) (d : Device) :
    (revise h f d).table.queue = d.table.queue := by rw [revise_table]
@[simp] theorem revise_counter (h : Handle) (f : Record → Record) (d : Device) :
    (revise h f d).table.counter = d.table.counter := by rw [revise_table]
@[simp] theorem revise_causes (h : Handle) (f : Record → Record) (d : Device) :
    (revise h f d).table.causes = d.table.causes := by rw [revise_table]
@[simp] theorem revise_quiet (h : Handle) (f : Record → Record) (d : Device) :
    (revise h f d).table.quiet = d.table.quiet := by rw [revise_table]
@[simp] theorem revise_leaving (h : Handle) (f : Record → Record) (d : Device) :
    (revise h f d).table.leaving = d.table.leaving := by rw [revise_table]

@[simp] theorem occupancy_revise (h : Handle) (f : Record → Record) (d : Device) : occupancy (revise h f d) = occupancy d := by
  unfold occupancy
  rw [revise_table_slots]
  cases e : lookup d h with
  | none => rfl
  | some r => exact set_map_self _ (slot_of_lookup e) rfl

/-! ## The live records as handles name them -/

theorem recordsFrom_eq_some {h : Handle} {r : Record} : ∀ (ss : List Slot) (k : Nat), (h, r) ∈ recordsFrom k ss →
    k ≤ h.slot ∧ ss[h.slot - k]? = some ⟨h.gen, some r⟩
  | [], _, m => by simp [recordsFrom] at m
  | s :: ss, k, m => by
    unfold recordsFrom at m
    have later : (h, r) ∈ recordsFrom (k + 1) ss → k ≤ h.slot ∧ (s :: ss)[h.slot - k]? = some ⟨h.gen, some r⟩ := fun m => by
      obtain ⟨hk, hs⟩ := recordsFrom_eq_some ss (k + 1) m
      refine ⟨by omega, ?_⟩
      rw [show h.slot - k = (h.slot - (k + 1)) + 1 by omega]
      simpa using hs
    split at m
    · rename_i x hx
      rcases List.mem_cons.mp m with e | m
      · cases e
        refine ⟨Nat.le_refl k, ?_⟩
        cases s
        simp_all
      · exact later m
    · exact later m

/-- A live record, and the slot it stands in. -/
theorem mem_records_iff {d : Device} {h : Handle} {r : Record} :
    (h, r) ∈ records d ↔ d.table.slots[h.slot]? = some ⟨h.gen, some r⟩ := by
  constructor
  · intro m
    simpa using (recordsFrom_eq_some _ _ m).2
  · intro e
    have := mem_recordsFrom (g := h.gen) (r := r) d.table.slots 0 h.slot e
    rwa [Nat.zero_add] at this

/-- In a table of 48 slots with generations from 1 on every live record is what its handle names (R6). -/
theorem lookup_of_mem_records {d : Device} (ht : TableOk d) {h : Handle} {r : Record} (m : (h, r) ∈ records d) :
    lookup d h = some r := by
  have hs := mem_records_iff.mp m
  obtain ⟨hlt, hv⟩ := List.getElem?_eq_some_iff.mp hs
  have hg := (ht.2.1 ⟨h.gen, some r⟩ (List.mem_of_getElem? hs)).1
  refine lookup_eq_some_iff.mpr ⟨?_, ?_, hs⟩
  · have := ht.1; omega
  · simp only at hg; omega

theorem mem_records_iff_lookup {d : Device} (ht : TableOk d) {h : Handle} {r : Record} :
    (h, r) ∈ records d ↔ lookup d h = some r := ⟨lookup_of_mem_records ht, mem_records_of_lookup⟩

/-- No two live records stand in one slot, so none has another's handle. -/
theorem recordsFrom_slots_sorted : ∀ (ss : List Slot) (k : Nat),
    (recordsFrom k ss).Pairwise fun a b => a.1.slot < b.1.slot
  | [], _ => List.Pairwise.nil
  | s :: ss, k => by
    unfold recordsFrom
    split
    · refine List.Pairwise.cons (fun a m => ?_) (recordsFrom_slots_sorted ss (k + 1))
      exact (recordsFrom_eq_some ss (k + 1) m).1
    · exact recordsFrom_slots_sorted ss (k + 1)

theorem records_slots_sorted (d : Device) : (records d).Pairwise fun a b => a.1.slot < b.1.slot :=
  recordsFrom_slots_sorted _ _

theorem records_handles_nodup (d : Device) : ((records d).map Prod.fst).Nodup := by
  rw [List.Nodup, List.pairwise_map]
  exact (records_slots_sorted d).imp fun h e => by rw [e] at h; exact Nat.lt_irrefl _ h

/-! ## The map applied to a function's records (R12) -/

theorem remap_eq (fn : Fn) (d : Device) (h : Handle) : remap fn d h = revise h (mapRecord (causesOf d.table.causes fn)) d := rfl

/-- Revising each of a list of handles once by functions that agree revises just those. -/
theorem lookup_foldl_revise {α : Type} (key : α → Handle) (f : Device → Record → Record) (g : Record → Record)
    (P : Device → Prop) (hP : ∀ d a, P d → P (revise (key a) (f d) d)) (hf : ∀ d, P d → f d = g) :
    ∀ (l : List α) (d : Device), P d → (l.map key).Nodup → ∀ k,
      lookup (l.foldl (fun d a => revise (key a) (f d) d) d) k =
        if k ∈ l.map key then (lookup d k).map g else lookup d k
  | [], d, _, _, k => by simp
  | a :: l, d, hd, hn, k => by
    rw [List.map_cons, List.nodup_cons] at hn
    rw [List.foldl_cons, lookup_foldl_revise key f g P hP hf l _ (hP d a hd) hn.2 k]
    by_cases hk : k = key a
    · subst hk
      rw [if_neg hn.1, lookup_revise_self, hf d hd, if_pos (by simp)]
    · rw [lookup_revise_ne _ _ hk]
      simp [hk]

theorem foldl_remap_causes (fn : Fn) : ∀ (l : List Handle) (d : Device),
    (l.foldl (remap fn) d).table.causes = d.table.causes
  | [], _ => rfl
  | h :: l, d => by rw [List.foldl_cons, foldl_remap_causes fn l, remap_eq, revise_causes]

/-- The map reaches the records of its function and no other: each is formed anew by the causes that stand (R12). -/
theorem lookup_applyMap (fn : Fn) (d : Device) (k : Handle) :
    lookup (applyMap fn d) k =
      (lookup d k).map fun r => if r.fn = fn then mapRecord (causesOf d.table.causes fn) r else r := by
  have hpush : ∀ e : Device, (pushValue fn e).table = e.table := fun e => same_table (same_pushValue fn e)
  unfold applyMap
  dsimp only
  rw [lookup_congr (congrArg Table.slots (hpush _))]
  have hn : (((records d).filter fun hr => hr.2.fn = fn).map Prod.fst).Nodup :=
    (records_handles_nodup d).sublist (List.filter_sublist.map _)
  have key := lookup_foldl_revise (fun h : Handle => h) (fun e => mapRecord (causesOf e.table.causes fn))
    (mapRecord (causesOf d.table.causes fn)) (fun e => e.table.causes = d.table.causes)
    (fun e h he => by rw [revise_causes, he]) (fun e he => by rw [he])
    (((records d).filter fun hr => hr.2.fn = fn).map Prod.fst) d rfl (by rw [List.map_id']; exact hn) k
  rw [List.map_id'] at key
  refine Eq.trans key ?_
  cases e : lookup d k with
  | none => simp
  | some r =>
    have hm : k ∈ ((records d).filter fun hr => hr.2.fn = fn).map Prod.fst ↔ r.fn = fn := by
      constructor
      · intro m
        obtain ⟨⟨k', x⟩, hx, rfl⟩ := List.mem_map.mp m
        obtain ⟨hx, hf⟩ := List.mem_filter.mp hx
        have a := mem_records_iff.mp hx
        rw [slot_of_lookup e] at a
        cases a
        simpa using hf
      · intro hf
        exact List.mem_map.mpr ⟨(k, r), List.mem_filter.mpr ⟨mem_records_of_lookup e, by simpa using hf⟩, rfl⟩
    by_cases hf : r.fn = fn
    · rw [if_pos (hm.mpr hf)]; simp [hf]
    · rw [if_neg (fun m => hf (hm.mp m))]; simp [hf]

@[simp] theorem causesOf_setCauses (m : CauseMap) (s : CauseSet) (fn : Fn) : causesOf (setCauses m s fn) fn = s := by
  cases fn <;> simp [causesOf, setCauses]

theorem causesOf_setCauses_ne (m : CauseMap) (s : CauseSet) {fn k : Fn} (h : k ≠ fn) :
    causesOf (setCauses m s fn) k = causesOf m k := by
  cases fn <;> cases k <;> first
    | rfl
    | exact absurd rfl h
    | exact PerChannel_get_set_ne _ _ (fun e => h (by rw [e]))
    | exact PerDriver_get_set_ne _ _ (fun e => h (by rw [e]))

theorem applyMap_causes (fn : Fn) (d : Device) : (applyMap fn d).table.causes = d.table.causes := by
  unfold applyMap
  dsimp only
  rw [same_table (same_pushValue fn _), foldl_remap_causes]

theorem setCause_of_same {fn : Fn} {f : CauseSet → CauseSet} {d : Device}
    (h : f (causesOf d.table.causes fn) = causesOf d.table.causes fn) : setCause fn f d = d := by
  simp [setCause, h]

theorem setCause_of_change {fn : Fn} {f : CauseSet → CauseSet} {d : Device}
    (h : f (causesOf d.table.causes fn) ≠ causesOf d.table.causes fn) :
    setCause fn f d = applyMap fn { d with table := { d.table with
      causes := setCauses d.table.causes (f (causesOf d.table.causes fn)) fn } } := by
  simp [setCause, h]

/-- A raising block changes the causes of its function. -/
theorem setCause_causes_self (fn : Fn) (f : CauseSet → CauseSet) (d : Device) :
    causesOf (setCause fn f d).table.causes fn = f (causesOf d.table.causes fn) := by
  by_cases h : f (causesOf d.table.causes fn) = causesOf d.table.causes fn
  · rw [setCause_of_same h, h]
  · rw [setCause_of_change h, applyMap_causes]; exact causesOf_setCauses _ _ _

/-- A raising block changes the causes of no other function. -/
theorem setCause_causes_ne {fn k : Fn} (f : CauseSet → CauseSet) (d : Device) (hk : k ≠ fn) :
    causesOf (setCause fn f d).table.causes k = causesOf d.table.causes k := by
  by_cases h : f (causesOf d.table.causes fn) = causesOf d.table.causes fn
  · rw [setCause_of_same h]
  · rw [setCause_of_change h, applyMap_causes]; exact causesOf_setCauses_ne _ _ hk

/-- A change of causes forms the records of its function anew, and no other (R12). -/
theorem lookup_setCause_of_change {fn : Fn} {f : CauseSet → CauseSet} {d : Device}
    (h : f (causesOf d.table.causes fn) ≠ causesOf d.table.causes fn) (k : Handle) :
    lookup (setCause fn f d) k =
      (lookup d k).map fun r => if r.fn = fn then mapRecord (f (causesOf d.table.causes fn)) r else r := by
  rw [setCause_of_change h, lookup_applyMap]
  simp only [causesOf_setCauses]
  rfl

/-! ## Queue moves (R23) -/

@[simp] theorem lookup_leaveQueue (h k : Handle) (d : Device) : lookup (leaveQueue h d) k = lookup d k := rfl
@[simp] theorem leaveQueue_queue (h : Handle) (d : Device) :
    (leaveQueue h d).table.queue = d.table.queue.filter fun x => x ≠ h := rfl

theorem not_mem_leaveQueue (h : Handle) (d : Device) : h ∉ (leaveQueue h d).table.queue := by
  simp [leaveQueue]

theorem joinQueue_queue (h : Handle) (d : Device) :
    (joinQueue h d).table.queue = if h ∈ d.table.queue then d.table.queue else d.table.queue ++ [h] := by
  unfold joinQueue
  by_cases m : h ∈ d.table.queue <;> simp [m]

@[simp] theorem joinQueue_slots (h : Handle) (d : Device) : (joinQueue h d).table.slots = d.table.slots := by
  unfold joinQueue; split <;> rfl
@[simp] theorem joinQueue_counter (h : Handle) (d : Device) : (joinQueue h d).table.counter = d.table.counter := by
  unfold joinQueue; split <;> rfl
@[simp] theorem joinQueue_causes (h : Handle) (d : Device) : (joinQueue h d).table.causes = d.table.causes := by
  unfold joinQueue; split <;> rfl
@[simp] theorem joinQueue_quiet (h : Handle) (d : Device) : (joinQueue h d).table.quiet = d.table.quiet := by
  unfold joinQueue; split <;> rfl
@[simp] theorem joinQueue_leaving (h : Handle) (d : Device) : (joinQueue h d).table.leaving = d.table.leaving := by
  unfold joinQueue; split <;> rfl

/-! ## The next sequence (R20) -/

/-- Renumbered, a live record has its rank among the live sequences. -/
def renumbered (d : Device) (r : Record) : Record := { r with seq := seqRank d r.seq }

@[simp] theorem lookup_renumber (d : Device) (k : Handle) : lookup (renumber d) k = (lookup d k).map (renumbered d) := by
  unfold lookup renumber
  split
  · dsimp only
    rw [List.getElem?_map]
    cases d.table.slots[k.slot]? with
    | none => rfl
    | some s =>
      simp only [Option.map_some]
      split <;> rfl
  · rfl

@[simp] theorem occupancy_renumber (d : Device) : occupancy (renumber d) = occupancy d := by
  simp only [occupancy, renumber, List.map_map]
  exact List.map_congr_left fun s _ => by simp

theorem takeSequence_of_lt {d : Device} (h : d.table.counter < Config.sequenceLimit) :
    takeSequence d = { d with table := { d.table with counter := d.table.counter + 1 } } := by
  simp [takeSequence, Nat.not_le.mpr h]

theorem takeSequence_of_le {d : Device} (h : Config.sequenceLimit ≤ d.table.counter) :
    takeSequence d =
      { renumber d with table := { (renumber d).table with counter := (renumber d).table.counter + 1 } } := by
  simp [takeSequence, h]

@[simp] theorem occupancy_takeSequence (d : Device) : occupancy (takeSequence d) = occupancy d := by
  rcases Nat.lt_or_ge d.table.counter Config.sequenceLimit with h | h
  · rw [takeSequence_of_lt h]; rfl
  · rw [takeSequence_of_le h]; exact occupancy_renumber d

@[simp] theorem takeSequence_queue (d : Device) : (takeSequence d).table.queue = d.table.queue := by
  unfold takeSequence; dsimp only; split <;> rfl
@[simp] theorem takeSequence_causes (d : Device) : (takeSequence d).table.causes = d.table.causes := by
  unfold takeSequence; dsimp only; split <;> rfl
@[simp] theorem takeSequence_quiet (d : Device) : (takeSequence d).table.quiet = d.table.quiet := by
  unfold takeSequence; dsimp only; split <;> rfl
@[simp] theorem takeSequence_leaving (d : Device) : (takeSequence d).table.leaving = d.table.leaving := by
  unfold takeSequence; dsimp only; split <;> rfl

/-! ## Frames of the table -/

@[simp] theorem pushValue_table (fn : Fn) (d : Device) : (pushValue fn d).table = d.table := same_table (same_pushValue fn d)
@[simp] theorem lookup_pushValue (fn : Fn) (d : Device) (k : Handle) : lookup (pushValue fn d) k = lookup d k :=
  lookup_congr (by rw [pushValue_table]) k

end Sys2Proof.Machine
end

section
/-! PROOF. What holds through the shared operations of the budget unit and of the plans when it holds through their
primitive updates: `Smooth` for the moves of the loads, `Calm` for what a recomputation does, `Settled` for the same with a
cause change as one move, `Units` for ramps, calls and accounts, `Whole` for the operations as whole moves, and `Kept` for
everything that moves records and plans, one update at a time. -/

namespace Sys2Proof.Machine
open Sys2Proof

/-! ## Through the moves of the loads -/

/-- What the loads and the general flags do at a message or a permission: `P` holds through each. The values handed to the
loads stay. -/
structure Smooth (P : Device → Prop) : Prop where
  cap : ∀ d, P d → P (applyCap d)
  fridge : ∀ d (x : Fridge), x.target = d.fridge.target → P d → P { d with fridge := x }
  heater : ∀ d (x : Heater), x.demand = d.heater.demand → x.waiting = d.heater.waiting →
    (x.held = d.heater.held ∨ d.heater.waiting = true ∧ ∃ m, m.isClear = false ∧ x.held = d.heater.held ++ [m]) →
    P d → P { d with heater := x }
  sched : ∀ d p c l, P d → P { d with sched := { d.sched with perm := p, outletClosed := c, claim := l } }
  heaterFlag : ∀ d, P d → P (raiseFlag heaterFlag d)
  budgetFlag : ∀ d, P d → P (raiseFlag budgetFlag d)

/-- What a recomputation and the hand-over of a lane's value do, one update at a time: `P` holds through each. -/
structure Calm (P : Device → Prop) : Prop extends Smooth P where
  budget : ∀ d x, P d → P { d with budget := x }
  heat : ∀ d, P d → P { d with heater := { d.heater with demand := heatValue d } }
  cool : ∀ d, P d → P { d with fridge := { d.fridge with target := coolValue d } }
  outlet : ∀ d, P d → P { d with sched := { d.sched with outletOn := outletValue d } }
  causes : ∀ d s l, P d → P { d with table := { d.table with causes := setCauses d.table.causes s (laneFn l) } }
  remap : ∀ d h l, P d → P (remap (laneFn l) d h)
  atRisk : ∀ d h b, P d → P (revise h (planAtRisk b) d)

theorem foldl_kept {α : Type} {P : Device → Prop} {f : Device → α → Device} (h : ∀ d a, P d → P (f d a)) :
    ∀ (l : List α) (d : Device), P d → P (l.foldl f d)
  | [], _, hd => hd
  | a :: l, d, hd => foldl_kept h l (f d a) (h d a hd)

theorem kept_ite {P : Device → Prop} {c : Prop} [Decidable c] {d e : Device} (hd : P d) (he : P e) :
    P (if c then d else e) := by
  split
  · exact hd
  · exact he

theorem kept_after {P : Device → Prop} {f : Device → Device} {c : Prop} [Decidable c] {d : Device}
    (hf : ∀ d, P d → P (f d)) (h : P d) : P (if c then f d else d) := by
  split
  · exact hf d h
  · exact h

namespace Smooth

variable {P : Device → Prop} (k : Smooth P) {d : Device}
include k

theorem setOutlet (h : P d) : P (setOutlet d) := k.sched d _ _ _ h

theorem startCompressor (h : P d) : P (startCompressor d) := k.fridge d _ rfl h

theorem stopCompressor (h : P d) : P (stopCompressor d) := k.fridge d _ rfl h

theorem dropStep (h : P d) : P (dropStep d) := by
  unfold Machine.dropStep
  split
  · exact k.heater d _ rfl rfl (.inl rfl) h
  · exact h

theorem forceStop (h : P d) : P (forceStop d) := by
  unfold Machine.forceStop
  split
  · exact k.stopCompressor h
  · exact h

theorem grantCool (h : P d) : P (grantCool d) := by
  unfold Machine.grantCool
  split
  · exact k.startCompressor h
  · exact h

theorem withdraw (new : PerLane Bool) (h : P d) : P (withdraw new d) := by
  unfold Machine.withdraw
  refine k.setOutlet ?_
  have h0 : P { d with sched := { d.sched with perm := ⟨d.sched.perm.heat && new.heat, d.sched.perm.cool && new.cool,
      d.sched.perm.aux && new.aux⟩ } } := k.sched d _ _ _ h
  exact kept_after (fun _ => k.forceStop) (kept_after (fun _ => k.dropStep) h0)

theorem bestow (new : PerLane Bool) (h : P d) : P (bestow new d) := by
  unfold Machine.bestow
  refine k.setOutlet ?_
  have h0 : P { d with sched := { d.sched with perm := new } } := k.sched d _ _ _ h
  exact kept_after (fun _ => k.grantCool) h0

theorem formPermissions (h : P d) : P (formPermissions d) := k.bestow _ (k.withdraw _ h)

/-- The claim of the heater and of the scheduler change as one. -/
theorem claim (x : Heater) (b : Bool) (hd : x.demand = d.heater.demand) (hw : x.waiting = d.heater.waiting)
    (hh : x.held = d.heater.held) (h : P d) : P { d with heater := x, sched := { d.sched with claim := b } } :=
  k.sched { d with heater := x } _ _ _ (k.heater d x hd hw (.inl hh) h)

theorem releaseClaim (h : P d) : P (releaseClaim d) := k.formPermissions (k.claim _ _ rfl rfl rfl h)

theorem reportClaim (h : P d) : P (reportClaim d) := by
  unfold Machine.reportClaim
  split
  · exact k.heater d _ rfl rfl (.inl rfl) h
  · exact h

theorem takeClaim (h : P d) : P (takeClaim d) :=
  k.reportClaim (k.formPermissions (k.claim _ _ rfl rfl rfl h))

theorem setHeater (st : HeaterState) (h : P d) : P (setHeater st d) := k.heaterFlag _ (k.heater d _ rfl rfl (.inl rfl) h)

theorem discardStart (h : P d) : P (discardStart d) := k.heater d _ rfl rfl (.inl rfl) h

theorem enterPrecheck (h : P d) : P (enterPrecheck d) := k.setHeater _ (k.heater d _ rfl rfl (.inl rfl) h)

theorem enterPurge (c : PurgeCause) (h : P d) : P (enterPurge c d) := k.setHeater _ (k.heater d _ rfl rfl (.inl rfl) h)

theorem stopHeater (h : P d) : P (stopHeater d) := by
  unfold Machine.stopHeater
  split
  · exact h
  · exact h
  · exact h
  · exact k.setHeater _ (k.discardStart h)
  · exact k.setHeater _ (k.discardStart h)
  · exact k.setHeater _ (k.releaseClaim h)
  · exact k.enterPurge _ (k.releaseClaim h)
  · exact k.enterPurge _ h
  · exact k.setHeater _ h

theorem demandHeat (h : P d) : P (demandHeat d) := by
  unfold Machine.demandHeat
  split
  · exact k.enterPrecheck h
  · exact h

theorem voltageHeater (v : VState) (h : P d) : P (voltageHeater v d) := by
  have hw : P (Machine.enterPrecheck (Machine.discardStart d)) := k.enterPrecheck (k.discardStart h)
  cases v with
  | cutoff => exact k.stopHeater h
  | high =>
    unfold Machine.voltageHeater
    dsimp only
    split
    · exact hw
    · exact k.dropStep h
  | low =>
    unfold Machine.voltageHeater
    dsimp only
    split
    · exact hw
    · exact h
  | normal => exact h

/-- A message other than a clear is held only while the sequencer waits. -/
theorem holdMsg {m : HeaterMsg} (hm : m.isClear = false) (hw : d.heater.waiting = true) (h : P d) : P (holdMsg m d) :=
  k.heater d _ rfl rfl (.inr ⟨hw, m, hm, rfl⟩) h

theorem sendStop (h : P d) : P (sendStop d) := by
  unfold Machine.sendStop
  split
  · rename_i hw
    exact k.holdMsg rfl hw h
  · exact k.stopHeater h

theorem sendDemand (h : P d) : P (sendDemand d) := by
  unfold Machine.sendDemand
  split
  · rename_i hw
    exact k.holdMsg rfl hw h
  · exact k.demandHeat h

theorem sendVoltage (v : VState) (h : P d) : P (sendVoltage v d) := by
  unfold Machine.sendVoltage
  split
  · rename_i hw
    split
    · refine k.holdMsg rfl ?_ (k.dropStep h)
      unfold Machine.dropStep
      split <;> exact hw
    · exact k.holdMsg rfl hw h
  · exact k.voltageHeater v h

theorem coolGone (h : P d) : P (coolGone d) := by
  have h0 : P { d with fridge := { d.fridge with call := false, turn := false } } := k.fridge d _ rfl h
  unfold Machine.coolGone
  dsimp only
  split
  · exact h0
  · exact h0
  · exact k.fridge d _ rfl h
  · exact k.fridge d _ rfl h
  · exact k.stopCompressor h0

theorem coolArrives (h : P d) : P (coolArrives d) := by
  unfold Machine.coolArrives
  split
  · exact k.fridge d _ rfl h
  · exact h

/-- The heater's value is handed, where `P` holds once its field is set. -/
theorem pushHeat (h : P { d with heater := { d.heater with demand := heatValue d } }) : P (pushHeat d) := by
  unfold Machine.pushHeat
  dsimp only
  split
  · exact k.sendDemand h
  · exact k.sendStop h
  · exact h

/-- The fridge's value is handed, where `P` holds once its field is set. -/
theorem pushCool (h : P { d with fridge := { d.fridge with target := coolValue d } }) : P (pushCool d) := by
  unfold Machine.pushCool
  dsimp only
  split
  · exact k.coolArrives h
  · exact k.coolGone h
  · exact h

end Smooth

namespace Calm

variable {P : Device → Prop} (k : Calm P) {d : Device}
include k

theorem pushValue (l : Lane) (h : P d) : P (pushValue (laneFn l) d) := by
  cases l
  · exact k.pushHeat (k.heat d h)
  · exact k.pushCool (k.cool d h)
  · exact k.setOutlet (k.outlet d h)

theorem applyMap (l : Lane) (h : P d) : P (applyMap (laneFn l) d) :=
  k.pushValue l (foldl_kept (fun d h => k.remap d h l) _ d h)

theorem setCause (l : Lane) (f : CauseSet → CauseSet) (h : P d) : P (setCause (laneFn l) f d) := by
  unfold Machine.setCause
  dsimp only
  split
  · exact h
  · exact k.applyMap l (k.causes d _ l h)

end Calm

/-- What a recomputation does with each change of a lane's causes as one move: `P` holds through each. -/
structure Settled (P : Device → Prop) : Prop where
  cause : ∀ d l f, P d → P (setCause (laneFn l) f d)
  atRisk : ∀ d h b, P d → P (revise h (planAtRisk b) d)
  budget : ∀ d x, P d → P { d with budget := x }
  cap : ∀ d, P d → P (applyCap d)
  form : ∀ d, P d → P (formPermissions d)
  stop : ∀ d, P d → P (sendStop d)
  budgetFlag : ∀ d, P d → P (raiseFlag budgetFlag d)

theorem Calm.settled {P : Device → Prop} (k : Calm P) : Settled P where
  cause _ l f := k.setCause l f
  atRisk := k.atRisk
  budget := k.budget
  cap := k.cap
  form _ := k.toSmooth.formPermissions
  stop _ := k.toSmooth.sendStop
  budgetFlag := k.budgetFlag

namespace Settled

variable {P : Device → Prop} (k : Settled P) {d : Device}
include k

theorem setBudget (f : Budget → Budget) (h : P d) : P (setBudget f d) := k.budget d _ h

theorem onCauses (f : Lane → CauseSet → CauseSet) (h : P d) :
    P (onLanes (fun l => Machine.setCause (laneFn l) (f l)) d) :=
  k.cause _ _ _ (k.cause _ _ _ (k.cause _ _ _ h))

theorem enterCutoff (h : P d) : P (enterCutoff d) := by
  unfold Machine.enterCutoff
  exact k.setBudget _ (k.onCauses (fun _ => causeBudget false) (k.onCauses (fun _ => causeCutoff true) h))

theorem syncBudgetCause (m : PerLane LaneMode) (h : P d) : P (syncBudgetCause m d) :=
  k.onCauses (fun l => causeBudget (m.get l == .off)) h

theorem leaveCutoff (h : P d) : P (leaveCutoff d) :=
  k.onCauses (fun _ => causeCutoff false) (k.syncBudgetCause _ (k.setBudget _ h))

theorem enterCharging (h : P d) : P (enterCharging d) := k.onCauses (fun _ => causeBudget false) h

theorem takeRegime (g : Option BudgetMode) (h : P d) : P (takeRegime g d) := by
  unfold Machine.takeRegime
  split
  · split
    · exact h
    · exact k.enterCutoff h
  · exact k.setBudget _ (kept_after (fun _ => k.enterCharging) (kept_after (fun _ => k.leaveCutoff) h))

theorem advance (g : Option BudgetMode) (h : P d) : P (advance g d) := by
  unfold Machine.advance
  split
  · exact k.setBudget _ h
  · exact k.setBudget _ h
  · exact h

theorem setAtRisk (h : P d) : P (setAtRisk d) := foldl_kept (fun d (hr : Handle × Record) => k.atRisk d hr.1 _) _ d h

theorem handModes (m : PerLane LaneMode) (h : P d) : P (handModes m d) := by
  have h1 : P (Machine.formPermissions (Machine.setBudget (fun b => { b with modes := m }) d)) :=
    k.form _ (k.setBudget _ h)
  unfold Machine.handModes
  dsimp only
  split
  · exact h
  · split
    · exact k.stop _ h1
    · exact h1

theorem handCap (c : Nat) (h : P d) : P (handCap c d) := by
  unfold Machine.handCap
  split
  · exact h
  · exact k.cap _ (k.setBudget _ h)

theorem handOn (h : P d) : P (handOn d) := by
  unfold Machine.handOn
  dsimp only
  split
  · exact k.handCap _ (k.handModes _ h)
  · exact k.syncBudgetCause _ (k.handCap _ (k.handModes _ h))

theorem storeProjection (p : Projection) (h : P d) : P (storeProjection p d) := k.setBudget _ h

theorem recomputeCore (h : P d) : P (recomputeCore d) :=
  k.storeProjection _ (k.handOn (k.setAtRisk (k.advance _ (k.takeRegime _ h))))

theorem withBudgetNotice {f : Device → Device} (h : P (f d)) : P (withBudgetNotice f d) := by
  unfold Machine.withBudgetNotice
  dsimp only
  split
  · exact h
  · exact k.budgetFlag _ h

theorem recompute (h : P d) : P (recompute d) := k.withBudgetNotice (k.recomputeCore h)

theorem setCauseAndRecompute (l : Lane) (f : CauseSet → CauseSet) (h : P d) :
    P (setCauseAndRecompute (laneFn l) f d) := by
  unfold Machine.setCauseAndRecompute
  dsimp only
  split
  · exact k.cause _ _ _ h
  · exact k.recompute (k.cause _ _ _ h)

theorem rebuildLadder (h : P d) : P (rebuildLadder d) := k.budget d _ h

theorem restore (h : P d) : P (restore d) := by
  unfold Machine.restore
  exact kept_ite (k.recomputeCore (k.setBudget _ h)) h

/-- The admission pass, where `P` holds through a grant too. -/
theorem admissionPass (hg : ∀ d h, P d → P (grant h .admitted d)) :
    ∀ (q : List Handle) {d : Device}, P d → P (admissionPass q d)
  | [], _, h => h
  | x :: q, d, h => by
    unfold Machine.admissionPass
    split
    · split
      · split
        · exact admissionPass hg q h
        · split
          · exact admissionPass hg q (k.recomputeCore (hg _ _ h))
          · exact h
      · exact admissionPass hg q h
    · exact admissionPass hg q h

theorem frameWork (hg : ∀ d h, P d → P (grant h .admitted d)) (h : P d) : P (frameWork d) :=
  k.withBudgetNotice (k.admissionPass hg _ (k.restore (k.recomputeCore h)))

end Settled

/-! ## Through ramps, calls and accounts -/

/-- A change of warnings leaves the acknowledgement state that fits them (R171). -/
theorem accountOk_ackAfter {a : Account} (w : Warnings) (h : AccountOk a) :
    AccountOk { a with warnings := w, ack := ackAfter a.warnings w a.ack } := by
  obtain ⟨hc, ha, hs⟩ := h
  refine ⟨hc, ?_, hs⟩
  dsimp only
  obtain ⟨w1, w2, w3, w4, w5, w6⟩ := w
  cases hw : a.warnings with
  | mk v1 v2 v3 v4 v5 v6 =>
    rw [hw] at ha
    unfold ackAfter
    split
    · rename_i hr
      simp only [reduceCtorEq, iff_false]
      intro hz
      simp only [levelRank] at hz
      simp only [anyRaised, Warnings.toList] at hr
      revert hz hr
      cases w1 <;> cases w2 <;> cases w3 <;> cases w4 <;> cases w5 <;> cases w6 <;> simp
    · rename_i hr
      split
      · rename_i hz
        simp [hz]
      · rename_i hz
        simp only [hz, false_iff]
        intro hn
        rw [← ha] at hn
        revert hz hr hn
        simp only [levelRank, anyRaised, Warnings.toList]
        cases v1 <;> cases v2 <;> cases v3 <;> cases v4 <;> cases v5 <;> cases v6 <;> simp <;>
          cases w1 <;> cases w2 <;> cases w3 <;> cases w4 <;> cases w5 <;> cases w6 <;> simp

theorem accountOk_formSubject (now top : Nat) (raised : Bool) {a : Account} (h : AccountOk a) :
    AccountOk (formSubject now top raised a) := by
  obtain ⟨hc, ha, hs⟩ := h
  unfold formSubject
  split
  · split
    · exact ⟨hc, ha, hs⟩
    · exact ⟨hc, ha, fun _ => rfl⟩
  · split
    · exact ⟨hc, ha, fun h => nomatch h⟩
    · exact ⟨hc, ha, hs⟩

theorem bump_le {limit n : Nat} : bump limit n ≤ limit := Nat.min_le_right _ _

/-- An accrual leaves the counters within seven days (R160, R165, R167). -/
theorem accountOk_accrueAccount (p : RestParams) {a : Account} (h : AccountOk a) : AccountOk (accrueAccount p a) := by
  have second : ∀ {a : Account}, AccountOk a → AccountOk (accrueSecond a) := by
    rintro a ⟨⟨h1, h2, h3, h4⟩, ha, hs⟩
    unfold accrueSecond
    split
    · exact ⟨⟨bump_le, bump_le, h3, h4⟩, ha, hs⟩
    · exact ⟨⟨h1, h2, bump_le, h4⟩, ha, hs⟩
    · exact ⟨⟨h1, h2, bump_le, bump_le⟩, ha, hs⟩
    · exact ⟨⟨h1, h2, h3, h4⟩, ha, hs⟩
    · exact ⟨⟨h1, h2, h3, h4⟩, ha, hs⟩
  have afterBreak : ∀ {a : Account}, AccountOk a → AccountOk (breakCheck p a) := by
    rintro a ⟨⟨h1, h2, h3, h4⟩, ha, hs⟩
    unfold breakCheck
    split
    · exact ⟨⟨Nat.zero_le _, h2, h3, h4⟩, ha, hs⟩
    · exact ⟨⟨h1, h2, h3, h4⟩, ha, hs⟩
  have afterRest : ∀ {a : Account}, AccountOk a → AccountOk (restCheck p a) := by
    rintro a ⟨⟨h1, h2, h3, h4⟩, ha, hs⟩
    unfold restCheck
    split
    · exact ⟨⟨Nat.zero_le _, Nat.zero_le _, h3, h4⟩, ha, hs⟩
    · exact ⟨⟨h1, h2, h3, h4⟩, ha, hs⟩
  exact afterRest (afterBreak (second h))

theorem accountOk_advanceTimers (settle : Nat) {a : Account} (h : AccountOk a) : AccountOk (advanceTimers settle a) := by
  unfold advanceTimers
  dsimp only
  split <;> split <;> exact h

theorem accountOk_takeActivity (p : RestParams) (now : Nat) (old new : Activity) {a : Account} (h : AccountOk a) :
    AccountOk (takeActivity p now old new a) := by
  obtain ⟨⟨h1, h2, h3, h4⟩, ha, hs⟩ := h
  unfold takeActivity
  dsimp only
  refine ⟨⟨?_, ?_, ?_, ?_⟩, ?_, ?_⟩ <;> (repeat' split) <;> first
    | assumption
    | exact Nat.zero_le _

theorem accountOk_loseActivity {a : Account} (h : AccountOk a) : AccountOk (loseActivity a) := by
  unfold loseActivity
  dsimp only
  split <;> exact h

/-- A change of every channel that leaves its effective level. -/
theorem effective_imap {f : Channel → Lamp → Lamp} (hf : ∀ c l, (f c l).effective = l.effective) {x : PerChannel Lamp}
    (c : Channel) : ((x.imap f).get c).effective = (x.get c).effective := by
  rw [PerChannel_get_imap, hf]

/-- What the plan unit's ramps and calls and the accounts do: `P` holds through each. The plan of a driver and the effective
levels stay. -/
structure Units (P : Device → Prop) : Prop where
  ramps : ∀ d (x : PerChannel Lamp), (∀ c, (x.get c).effective = (d.lamps.get c).effective) → P d → P { d with lamps := x }
  unit : ∀ d dr f, (∀ u : PlanUnit, (f u).plan = u.plan) → P d → P (setUnit dr f d)
  account : ∀ d dr f, (AccountOk (d.accounts.get dr) → AccountOk (f (d.accounts.get dr))) → P d → P (setAccount dr f d)
  warningFlag : ∀ d dr, P d → P (raiseFlag (warningFlag dr) d)

namespace Units

variable {P : Device → Prop} (k : Units P) {d : Device}
include k

theorem rampStart (dr : Driver) (c : PerChannel Bool) (n : Nat) (h : P d) : P (rampStart dr c n d) :=
  k.ramps d _ (effective_imap fun c l => by split <;> rfl) h

theorem rampLevel (dr : Driver) (n : Nat) (h : P d) : P (rampLevel dr n d) :=
  k.ramps d _ (effective_imap fun c l => by split <;> rfl) h

theorem rampEnd (dr : Driver) (h : P d) : P (rampEnd dr d) :=
  k.ramps d _ (effective_imap fun c l => by split <;> rfl) h

theorem handRamp (dr : Driver) (p : PlanRec) (w : WakeLight) (h : P d) : P (handRamp dr p w d) :=
  k.rampLevel dr _ (k.unit d dr _ (fun _ => rfl) h)

theorem beginRamp (dr : Driver) (p : PlanRec) (w : WakeLight) (h : P d) : P (beginRamp dr p w d) :=
  k.handRamp dr p w (k.rampStart dr _ _ h)

theorem endRamp (dr : Driver) (h : P d) : P (endRamp dr d) := by
  unfold Machine.endRamp
  split
  · exact h
  · exact k.rampEnd dr (k.unit d dr _ (fun _ => rfl) h)

theorem soundBunk (dr : Driver) (h : P d) : P (soundBunk dr d) := k.account d dr _ (fun h => h) h

theorem stopBunk (dr : Driver) (h : P d) : P (stopBunk dr d) := k.account d dr _ (fun h => h) h

theorem callOnset (dr : Driver) (h : P d) : P (callOnset dr d) := k.soundBunk dr (k.unit d dr _ (fun _ => rfl) h)

theorem beginCall (dr : Driver) (h : P d) : P (beginCall dr d) := k.callOnset dr (k.unit d dr _ (fun _ => rfl) h)

theorem silenceCall (dr : Driver) (h : P d) : P (silenceCall dr d) := by
  unfold Machine.silenceCall
  split
  · exact k.stopBunk dr (k.unit d dr _ (fun _ => rfl) h)
  · exact h

theorem formSubjects (r : Option Driver) (h : P d) : P (formSubjects r d) :=
  k.account _ .two (formSubject d.clock.sec _ (r == some .two)) (accountOk_formSubject _ _ _)
    (k.account d .one (formSubject d.clock.sec _ (r == some .one)) (accountOk_formSubject _ _ _) h)

theorem applyWarnings (dr : Driver) (w : Warnings) (h : P d) : P (applyWarnings dr w d) := by
  unfold Machine.applyWarnings
  exact kept_ite h (k.warningFlag _ _ (k.formSubjects _ (k.account d dr _ (accountOk_ackAfter w) h)))

theorem evaluate (dr : Driver) (h : P d) : P (evaluate dr d) := k.applyWarnings dr _ h

theorem evaluateBoth (h : P d) : P (evaluateBoth d) := k.evaluate _ (k.evaluate _ h)

theorem accrue (dr : Driver) (h : P d) : P (accrue dr d) := by
  unfold Machine.accrue
  exact kept_ite h (k.evaluate dr (k.account d dr _ (accountOk_accrueAccount _) h))

theorem accrueBoth (h : P d) : P (accrueBoth d) :=
  k.account _ _ _ (accountOk_advanceTimers _) (k.account _ _ _ (accountOk_advanceTimers _) (k.accrue _ (k.accrue _ h)))

theorem acknowledge (dr : Driver) (h : P d) : P (acknowledge dr d) := by
  unfold Machine.acknowledge
  refine k.silenceCall dr ?_
  dsimp only
  split
  · rename_i hw
    refine k.warningFlag _ _ (k.formSubjects _ (k.account d dr _ (fun ⟨hc, ha, hs⟩ => ⟨hc, ?_, hs⟩) h))
    simp only [reduceCtorEq, iff_false]
    omega
  · exact h

end Units

/-! ## Through the operations as whole moves -/

theorem livePlan_eq_some {d : Device} {dr : Driver} {h : Handle} {r : Record} {p : PlanRec}
    (e : livePlan d dr = some (h, r, p)) :
    (d.plans.get dr).plan = some h ∧ lookup d h = some r ∧ planOf r = some p := by
  unfold livePlan at e
  split at e
  next x hx =>
    split at e
    next y hy =>
      obtain ⟨q, hq, hk⟩ := Option.map_eq_some_iff.mp e
      cases hk
      exact ⟨hx, hy, hq⟩
    · cases e
  · cases e

/-- A change of causes that leaves CUTOFF and BUDGET as they are. -/
def KeepsBudgetCauses (f : CauseSet → CauseSet) : Prop := ∀ s, (f s).cutoff = s.cutoff ∧ (f s).budget = s.budget

/-- What the budget unit, the plan unit and the accounts do as whole moves: `P` holds through each. -/
structure Whole (P : Device → Prop) : Prop extends Smooth P, Units P where
  recompute : ∀ d, P d → P (recompute d)
  ladder : ∀ d, P d → P (withBudgetNotice (fun d => recomputeCore (rebuildLadder d)) d)
  frameWork : ∀ d, P d → P (frameWork d)
  cause : ∀ d f, KeepsBudgetCauses f → P d → P (setCause .heater f d)
  failure : ∀ d x, P d → P (setFailure x d)
  onPlan : ∀ d h f, P d → P (revise h (onPlan f) d)
  preheat : ∀ d dr h t, (d.plans.get dr).plan = some h → P d → P (preheat dr h t d)
  retire : ∀ d h r w how, lookup d h = some r → how ≠ .silent → P d → P (retireRecord h w how d)

namespace Whole

variable {P : Device → Prop} (k : Whole P) {d : Device}
include k

theorem setCauseAndRecompute {f : CauseSet → CauseSet} (hf : KeepsBudgetCauses f) (h : P d) :
    P (setCauseAndRecompute .heater f d) := by
  unfold Machine.setCauseAndRecompute
  exact kept_ite (k.cause d f hf h) (k.recompute _ (k.cause d f hf h))

theorem reportBudget (w f : Bool) (h : P d) : P (reportBudget w f d) := by
  have h1 : P (if w then Machine.recompute d else d) := kept_after k.recompute h
  unfold Machine.reportBudget
  exact kept_ite h1 (k.frameWork _ h1)

theorem enterSub (x : Handle) (s : SubState) (h : P d) : P (enterSub x s d) := k.recompute _ (k.onPlan _ _ _ h)

theorem enterWaking (dr : Driver) (h : P d) : P (enterWaking dr d) := by
  unfold Machine.enterWaking
  split
  · rename_i x r p hp
    have h1 : P (Machine.enterSub x .waking d) := k.enterSub _ _ h
    have plan : ((Machine.enterSub x .waking d).plans.get dr).plan = some x := by
      rw [same_plans (same_enterSub x .waking d)]
      exact (livePlan_eq_some hp).1
    have h2 : P (match p.preheat with
      | some t => Machine.preheat dr x t (Machine.enterSub x .waking d)
      | none => Machine.enterSub x .waking d) := by
      split
      · exact k.preheat _ dr x _ plan h1
      · exact h1
    dsimp only
    split
    · exact k.beginRamp _ _ _ h2
    · exact h2
  · exact h

theorem enterDue (dr : Driver) (h : P d) : P (enterDue dr d) := by
  unfold Machine.enterDue
  split
  · rename_i x r p hp
    have h1 : P (Machine.enterSub x .due d) := k.enterSub _ _ h
    have h2 : P (Machine.setUnit dr (fun u => { u with dueTimer := 0 }) (match p.light with
      | some w => Machine.handRamp dr (setSub .due p) w (Machine.enterSub x .due d)
      | none => Machine.enterSub x .due d)) := by
      refine k.unit _ dr _ (fun _ => rfl) ?_
      split
      · exact k.handRamp _ _ _ h1
      · exact h1
    dsimp only
    split
    · exact k.beginCall dr h2
    · exact h2
  · exact h

theorem moveForward (dr : Driver) (a b : SubState) (h : P d) : P (moveForward dr a b d) := by
  unfold Machine.moveForward
  split
  · exact k.enterWaking dr h
  · exact k.enterWaking dr h
  · exact k.enterDue dr (k.enterWaking dr h)
  · exact k.enterDue dr (k.enterWaking dr h)
  · exact k.enterDue dr h
  · exact h

theorem bindPlan (dr : Driver) (r : Option Nat) (h : P d) : P (bindPlan dr r d) := by
  unfold Machine.bindPlan
  split
  · dsimp only
    split
    · exact k.enterSub _ _ (k.onPlan _ _ _ (k.unit _ dr _ (fun _ => rfl) h))
    · exact k.moveForward _ _ _ (k.onPlan _ _ _ (k.unit _ dr _ (fun _ => rfl) h))
  · exact h

theorem retirePlan (dr : Driver) (w : RetireReason) (h : P d) : P (retirePlan dr w d) := by
  unfold Machine.retirePlan
  split
  next x r p hp => exact k.retire _ _ _ _ _ (livePlan_eq_some hp).2.1 nofun h
  · exact h

theorem handPlan (dr : Driver) (a b : Activity) (h : P d) : P (handPlan dr a b d) := by
  unfold Machine.handPlan
  split
  · split
    · split
      · exact k.bindPlan dr _ h
      · exact h
    · split
      · exact k.retirePlan dr _ h
      · exact h
  · exact h

theorem planAmended (dr : Driver) (x : Handle) (old : PlanRec)
    (pre : ∀ e t, e.plans = d.plans → P e → P (Machine.preheat dr x t e)) (h : P d) : P (planAmended dr x old d) := by
  unfold Machine.planAmended
  split
  · split
    · rename_i r hr given hg
      dsimp only
      have h1 : P (Machine.recompute (Machine.revise x (Machine.onPlan fun q =>
          { q with plannedEnd := (retimed (d.plans.get dr).binding old given).plannedEnd }) d)) :=
        k.recompute _ (k.onPlan _ _ _ h)
      have forward : ∀ {e : Device} (p : PlanRec), P e → P (amendedForward dr old p e) := by
        intro e p he
        unfold amendedForward
        split
        · exact he
        · exact k.moveForward _ _ _ he
      have called : ∀ {e : Device} (c q : Prop) [Decidable c] [Decidable q], P e →
          P (if c then (if q then (if (e.plans.get dr).call = .none then Machine.beginCall dr e else e)
            else Machine.silenceCall dr e) else e) := by
        intro e c q _ _ he
        split
        · split
          · split
            · exact k.beginCall dr he
            · exact he
          · exact k.silenceCall dr he
        · exact he
      have lit : ∀ {e : Device} (c : Prop) [Decidable c] (p : PlanRec) (o : Option WakeLight), P e →
          P (if c then (match o with
            | some w => Machine.beginRamp dr p w (Machine.endRamp dr e)
            | none => Machine.endRamp dr e) else e) := by
        intro e c _ p o he
        split
        · split
          · exact k.beginRamp _ _ _ (k.endRamp dr he)
          · exact k.endRamp dr he
        · exact he
      refine forward _ (called _ _ (lit _ _ _ ?_))
      split
      · split
        · refine pre _ _ ?_ h1
          rw [same_plans (same_recompute _), same_plans (same_revise _ _ _)]
        · exact h1
      · exact h1
    · exact h
  · exact h

theorem changeActivity (dr : Driver) (a b : Activity) (h : P d) : P (changeActivity dr a b d) :=
  k.handPlan dr a b (k.evaluate dr (k.applyWarnings dr _ (k.account d dr _ (accountOk_takeActivity _ _ _ _) h)))

theorem offerCandidate (dr : Driver) (a b : Activity) (h : P d) : P (offerCandidate dr a b d) := by
  unfold Machine.offerCandidate
  exact kept_ite (k.changeActivity dr a b h) (kept_ite h (k.account d dr _ (fun h => h) h))

theorem report (dr : Driver) (a : Activity) (h : P d) : P (report dr a d) := by
  have h1 : P (setAccount dr (fun x => { x with reported := a }) d) := k.account d dr _ (fun h => h) h
  have resumed : ∀ b, P (Machine.handPlan dr b b (setAccount dr (resumeActivity b) _)) := fun b =>
    k.handPlan dr b b (k.account _ dr _ (fun h => h) h1)
  unfold Machine.report
  dsimp only
  split
  · exact k.handPlan dr _ _ (k.account _ dr _ accountOk_loseActivity h1)
  · split
    · split
      · exact resumed a
      · exact kept_ite (resumed a) (k.offerCandidate dr _ _ h1)
    · exact kept_ite (k.account _ dr _ (fun h => h) h1) (k.offerCandidate dr _ _ h1)

theorem settle (dr : Driver) (h : P d) : P (settle dr d) := by
  unfold Machine.settle
  dsimp only
  split
  · exact k.changeActivity dr _ _ h
  · exact h

end Whole

/-! ## Through everything that moves records and plans -/

/-- What the demand table, the plan unit and the accounts unit do, one update at a time: `P` holds through each. -/
structure Kept (P : Device → Prop) : Prop extends Calm P where
  failure : ∀ d x, P d → P (setFailure x d)
  warningFlag : ∀ d dr, P d → P (raiseFlag (warningFlag dr) d)
  lamps : ∀ d x, P d → P { d with lamps := x }
  plans : ∀ d x, P d → P { d with plans := x }
  account : ∀ d dr f, (AccountOk (d.accounts.get dr) → AccountOk (f (d.accounts.get dr))) → P d → P (setAccount dr f d)
  allCauses : ∀ d x, P d → P { d with table := { d.table with causes := x } }
  departing : ∀ d h st f, (∀ e, P e → P (f e)) → P d → P (departing h st f d)
  quietly : ∀ d h f, (∀ e, e.table.slots = d.table.slots → P e → P (f e)) → P d → P (quietly h f d)
  revise : ∀ d h f, P d → P (revise h f d)
  put : ∀ d h r x, d.table.slots[h.slot]? = some ⟨h.gen, x⟩ → P d → P (putRecord h r d)
  free : ∀ d h r, lookup d h = some r → P d → P (freeSlot h.slot d)
  leave : ∀ d h, P d → P (leaveQueue h d)
  join : ∀ d h, P d → P (joinQueue h d)
  sequence : ∀ d, P d → P (takeSequence d)
  retired : ∀ d st h fn w how, P d → P (reportRetired st h fn w how d)

/-- What holds through any change of the two marks for a notice holds while they stand. -/
theorem departing_of_marks {P : Device → Prop}
    (marks : ∀ d q l, P d → P { d with table := { d.table with quiet := q, leaving := l } }) (d : Device) (h : Handle)
    (st : Option Station) (f : Device → Device) (hf : ∀ e, P e → P (f e)) (hd : P d) : P (departing h st f d) :=
  marks _ _ _ (hf _ (marks d _ _ hd))

theorem quietly_of_marks {P : Device → Prop}
    (marks : ∀ d q l, P d → P { d with table := { d.table with quiet := q, leaving := l } }) (d : Device)
    (h : Option Handle) (f : Device → Device) (hf : ∀ e, e.table.slots = d.table.slots → P e → P (f e)) (hd : P d) :
    P (quietly h f d) :=
  marks _ _ _ (hf _ rfl (marks d _ _ hd))

namespace Kept

variable {P : Device → Prop} (k : Kept P) {d : Device}
include k

theorem settled : Settled P := k.toCalm.settled

theorem units : Units P where
  ramps d x _ := k.lamps d x
  unit d _ _ _ := k.plans d _
  account := k.account
  warningFlag := k.warningFlag

theorem recompute (h : P d) : P (recompute d) := k.settled.recompute h

theorem pushValue (fn : Fn) (h : P d) : P (pushValue fn d) := by
  cases fn with
  | heater => exact k.toCalm.pushValue .heat h
  | fridge => exact k.toCalm.pushValue .cool h
  | lamp c => exact k.lamps d _ h
  | outlet => exact k.toCalm.pushValue .aux h
  | rest dr => exact h

theorem setCause (fn : Fn) (f : CauseSet → CauseSet) (h : P d) : P (setCause fn f d) := by
  unfold Machine.setCause
  dsimp only
  split
  · exact h
  · exact k.pushValue fn (foldl_kept (fun d h => k.revise d h _) _ _ (k.allCauses d _ h))

theorem setCauseAndRecompute (fn : Fn) (f : CauseSet → CauseSet) (h : P d) : P (setCauseAndRecompute fn f d) := by
  unfold Machine.setCauseAndRecompute
  dsimp only
  split
  · exact k.setCause fn f h
  · exact k.recompute (k.setCause fn f h)

theorem grant (x : Handle) (w : Reason) (h : P d) : P (grant x w d) := by
  unfold Machine.grant
  split
  · exact k.pushValue _ (k.revise _ _ _ (k.leave d x h))
  · exact h

theorem defer (x : Handle) (w : Reason) (h : P d) : P (defer x w d) := by
  unfold Machine.defer
  split
  · exact k.join _ _ (k.revise _ _ _ h)
  · exact h

theorem admission (x : Handle) (l : Lane) (c : Class) (h : P d) : P (admission x l c d) := by
  unfold Machine.admission
  split
  · exact k.recompute (k.grant x _ h)
  · exact k.defer x _ h

theorem startRecord (x : Handle) (h : P d) : P (startRecord x d) := by
  unfold Machine.startRecord
  split
  · split
    · exact k.admission _ _ _ h
    · exact k.grant _ _ h
  · exact h

theorem frameWork (h : P d) : P (frameWork d) := k.settled.frameWork (fun _ x => k.grant x _) h

theorem storeInternal (x : Handle) (o : Option Handle) (h : P d) : P (storeInternal x o d) := by
  unfold Machine.storeInternal
  split
  · rename_i r hr
    exact k.put d x _ _ (slot_of_lookup hr) h
  · exact h

theorem dropRecord (x : Handle) (st : Option Station) (w : RetireReason) (how : Report) (h : P d) :
    P (dropRecord x st w how d) := by
  unfold Machine.dropRecord
  split
  · rename_i r hr
    exact k.pushValue _ (k.retired _ _ _ _ _ _ (k.leave _ _ (k.free d x r hr h)))
  · exact h

theorem endPlan (dr : Driver) (st : Option Station) (how : Report) (h : P d) : P (endPlan dr st how d) := by
  have h1 : P (if (d.plans.get dr).call = .calling then Machine.stopBunk dr d else d) := by
    split
    · exact k.units.stopBunk dr h
    · exact h
  unfold Machine.endPlan
  dsimp only
  refine k.plans _ _ ?_
  split
  · split
    · split
      · exact k.dropRecord _ _ _ _ (k.units.endRamp dr h1)
      · exact k.recompute (k.dropRecord _ _ _ _ (k.units.endRamp dr h1))
    · exact k.units.endRamp dr h1
  · exact k.units.endRamp dr h1

theorem retireRecord (x : Handle) (w : RetireReason) (how : Report) (h : P d) : P (retireRecord x w how d) := by
  unfold Machine.retireRecord
  split
  · dsimp only
    split
    · exact k.departing _ _ _ _ (fun d h => k.endPlan _ _ _ (k.recompute (k.dropRecord _ _ _ _ h))) h
    · exact k.recompute (k.dropRecord _ _ _ _ h)
  · exact h

theorem clearFault (fn : Fn) (h : P d) : P (clearFault fn d) := by
  unfold Machine.clearFault
  split
  · split
    · exact k.setCauseAndRecompute _ _ (k.lamps d _ h)
    · exact h
  · exact h

theorem preheat (dr : Driver) (x : Handle) (s : Int) (h : P d) : P (preheat dr x s d) := by
  unfold Machine.preheat
  dsimp only
  split
  · rename_i slot hs
    split
    · refine k.admission _ _ _ (k.storeInternal _ _ ?_)
      obtain ⟨o, ho, -⟩ := gen_of_occupancy (occupancy_takeSequence d) hs
      exact k.put _ _ _ o ho (k.sequence d h)
    · exact k.recompute (k.pushValue _ (k.revise _ _ _ (k.sequence d h)))
  · exact h

theorem whole : Whole P where
  toSmooth := k.toSmooth
  toUnits := k.units
  recompute _ := k.recompute
  ladder _ h := k.settled.withBudgetNotice (k.settled.recomputeCore (k.settled.rebuildLadder h))
  frameWork _ := k.frameWork
  cause _ f _ h := k.setCause .heater f h
  failure := k.failure
  onPlan d h _ := k.revise d h _
  preheat _ dr h t _ := k.preheat dr h t
  retire _ h _ w how _ _ := k.retireRecord h w how

theorem takePlan (dr : Driver) (x : Handle) (h : P d) : P (takePlan dr x d) := by
  unfold Machine.takePlan
  refine k.recompute ?_
  dsimp only
  split
  · exact k.whole.bindPlan dr _ (k.plans _ _ h)
  · exact k.plans _ _ h

theorem beginRecord (x : Handle) (h : P d) : P (beginRecord x d) := by
  unfold Machine.beginRecord
  split
  · split
    · exact k.takePlan _ _ (k.startRecord _ h)
    · exact k.recompute (k.startRecord _ h)
    · exact k.startRecord _ h
  · exact h

theorem afterAmend (x : Handle) (old : Record) (h : P d) : P (afterAmend x old d) := by
  unfold Machine.afterAmend
  split
  · rename_i r hr
    split
    · exact k.whole.planAmended _ _ _ (fun _ t _ => k.preheat _ _ t) h
    · have h1 := k.recompute (k.pushValue r.fn h)
      dsimp only
      split
      · split
        · exact k.admission _ _ _ h1
        · exact h1
      · exact h1
  · exact h

end Kept

end Sys2Proof.Machine
end

section
/-! PROOF. What the moves of records, plans and accounts leave as it is (`Steady`), and what holds through the heater
sequencer's own work when it holds through its store writes (`Work`). -/

namespace Sys2Proof.Machine
open Sys2Proof

/-! ## What moves of records and plans leave as it is -/

/-- From one state to another nothing is done but what records, plans and accounts bring with them: the store and what waits
for it, the port's phase and the scheduler's slot are the same, and messages are held only by a sequencer that waits. -/
structure Steady (d e : Device) : Prop where
  inReset : e.inReset = d.inReset
  clock : e.clock = d.clock
  settings : e.settings = d.settings
  store : e.store = d.store
  bank : e.bank = d.bank
  vehicle : e.vehicle = d.vehicle
  leads : e.leads = d.leads
  waiting : e.heater.waiting = d.heater.waiting
  held : ∃ ms, e.heater.held = d.heater.held ++ ms ∧ (∀ m ∈ ms, m.isClear = false) ∧ (d.heater.waiting = false → ms = [])
  sched : ∃ p c o l, e.sched = { d.sched with perm := p, outletClosed := c, outletOn := o, claim := l }
  link : ∃ ss, e.link = { d.link with stations := ss }
  online : ∀ st, (e.link.stations.get st).link = (d.link.stations.get st).link

namespace Steady

variable {d e f : Device}

theorem refl (d : Device) : Steady d d where
  inReset := rfl
  clock := rfl
  settings := rfl
  store := rfl
  bank := rfl
  vehicle := rfl
  leads := rfl
  waiting := rfl
  held := ⟨[], (List.append_nil _).symm, fun _ h => absurd h List.not_mem_nil, fun _ => rfl⟩
  sched := ⟨_, _, _, _, rfl⟩
  link := ⟨_, rfl⟩
  online _ := rfl

theorem phase (h : Steady d e) : e.link.phase = d.link.phase := by
  obtain ⟨ss, hs⟩ := h.link; rw [hs]
theorem heldAnswer (h : Steady d e) : e.link.heldAnswer = d.link.heldAnswer := by
  obtain ⟨ss, hs⟩ := h.link; rw [hs]
theorem pos (h : Steady d e) : e.link.pos = d.link.pos := by
  obtain ⟨ss, hs⟩ := h.link; rw [hs]
theorem polled (h : Steady d e) : e.link.polled = d.link.polled := by
  obtain ⟨ss, hs⟩ := h.link; rw [hs]
theorem pollFrame (h : Steady d e) : e.link.pollFrame = d.link.pollFrame := by
  obtain ⟨ss, hs⟩ := h.link; rw [hs]
theorem schedWaiting (h : Steady d e) : e.sched.waiting = d.sched.waiting := by
  obtain ⟨p, c, o, l, hs⟩ := h.sched; rw [hs]
theorem owed (h : Steady d e) : e.sched.owed = d.sched.owed := by
  obtain ⟨p, c, o, l, hs⟩ := h.sched; rw [hs]
theorem late (h : Steady d e) : e.sched.late = d.sched.late := by
  obtain ⟨p, c, o, l, hs⟩ := h.sched; rw [hs]

/-- With no block waiting for the store no message is held. -/
theorem held_of_free (h : Steady d e) (hw : d.heater.waiting = false) : e.heater.held = d.heater.held := by
  obtain ⟨ms, hm, -, hn⟩ := h.held
  rw [hm, hn hw, List.append_nil]

/-- The clears that are held stay the same. -/
theorem heldClears (h : Steady d e) : e.heater.held.filter HeaterMsg.isClear = d.heater.held.filter HeaterMsg.isClear := by
  obtain ⟨ms, hm, hc, -⟩ := h.held
  have none : ms.filter HeaterMsg.isClear = [] := List.filter_eq_nil_iff.mpr fun m hm => by simp [hc m hm]
  rw [hm, List.filter_append, none, List.append_nil]

/-- A further change of blocks that none of these rest on. -/
theorem other (h : Steady d e) (s : sameExcept [.table, .budget, .fridge, .lamps, .accounts, .plans] e f) : Steady d f where
  inReset := (same_inReset s).trans h.inReset
  clock := (same_clock s).trans h.clock
  settings := (same_settings s).trans h.settings
  store := (same_store s).trans h.store
  bank := (same_bank s).trans h.bank
  vehicle := (same_vehicle s).trans h.vehicle
  leads := (same_leads s).trans h.leads
  waiting := by rw [same_heater s]; exact h.waiting
  held := by rw [same_heater s]; exact h.held
  sched := by rw [same_sched s]; exact h.sched
  link := by rw [same_link s]; exact h.link
  online := by rw [same_link s]; exact h.online

/-- A further change of the stations' sets and flags. -/
theorem stations (h : Steady d e) (ss : PerStation StationLink)
    (hs : ∀ st, (ss.get st).link = (e.link.stations.get st).link) :
    Steady d { e with link := { e.link with stations := ss } } :=
  { inReset := h.inReset, clock := h.clock, settings := h.settings, store := h.store, bank := h.bank
    vehicle := h.vehicle, leads := h.leads, waiting := h.waiting, held := h.held, sched := h.sched
    link := by obtain ⟨x, hx⟩ := h.link; exact ⟨ss, by rw [hx]⟩
    online := fun st => (hs st).trans (h.online st) }

theorem updateStation (h : Steady d e) {st : Station} {g : StationLink → StationLink} (hg : ∀ p, (g p).link = p.link) :
    Steady d (updateStation st g e) := by
  refine h.stations _ fun x => ?_
  by_cases hx : x = st
  · rw [hx, PerStation_get_set, hg]
  · rw [PerStation_get_set_ne _ _ hx]

theorem raiseFlag (h : Steady d e) (g : Flags → Flags) : Steady d (raiseFlag g e) := by
  refine h.stations _ fun x => ?_
  rw [PerStation_get_map]
  unfold flagStation
  split <;> rfl

theorem heater (h : Steady d e) (x : Heater) (hw : x.waiting = e.heater.waiting)
    (hh : x.held = e.heater.held ∨ e.heater.waiting = true ∧ ∃ m, m.isClear = false ∧ x.held = e.heater.held ++ [m]) :
    Steady d { e with heater := x } :=
  { inReset := h.inReset, clock := h.clock, settings := h.settings, store := h.store, bank := h.bank
    vehicle := h.vehicle, leads := h.leads, waiting := hw.trans h.waiting, sched := h.sched, link := h.link
    online := h.online
    held := by
      obtain ⟨ms, hm, hc, hn⟩ := h.held
      rcases hh with hh | ⟨hb, m, hmc, hh⟩
      · exact ⟨ms, hh.trans hm, hc, hn⟩
      · refine ⟨ms ++ [m], by rw [hh, hm, List.append_assoc], ?_, fun hf => ?_⟩
        · intro y hy
          rcases List.mem_append.mp hy with hy | hy
          · exact hc y hy
          · rw [List.mem_singleton.mp hy]; exact hmc
        · rw [h.waiting, hf] at hb; cases hb }

theorem schedPerm (h : Steady d e) (p : PerLane Bool) (c o l : Bool) :
    Steady d { e with sched := { e.sched with perm := p, outletClosed := c, outletOn := o, claim := l } } :=
  { inReset := h.inReset, clock := h.clock, settings := h.settings, store := h.store, bank := h.bank
    vehicle := h.vehicle, leads := h.leads, waiting := h.waiting, held := h.held, link := h.link, online := h.online
    sched := by obtain ⟨p', c', o', l', hs⟩ := h.sched; exact ⟨p, c, o, l, by rw [hs]⟩ }

end Steady

@[simp] theorem joinEntry_link (e : Entry) (p : StationLink) : (joinEntry e p).link = p.link := by
  unfold joinEntry; split <;> rfl

@[simp] theorem markEntry_link (h : Handle) (p : StationLink) : (markEntry h p).link = p.link := by
  unfold markEntry
  split
  · rfl
  · split
    · rfl
    · exact joinEntry_link _ _

@[simp] theorem retireEntry_link (h : Handle) (fn : Fn) (r : RetireReason) (p : StationLink) :
    (retireEntry h fn r p).link = p.link := by
  unfold retireEntry
  split
  · rfl
  · split
    · rfl
    · exact joinEntry_link _ _

@[simp] theorem dropEntry_link (h : Handle) (p : StationLink) : (dropEntry h p).link = p.link := rfl

theorem Steady.mark {d e : Device} (h : Steady d e) (x : Handle) : Steady d (mark x e) := by
  unfold Machine.mark
  split
  · exact h
  · split
    · split
      · exact h.updateStation (markEntry_link x)
      · exact h
    · exact h

theorem Steady.revise {d e : Device} (h : Steady d e) (x : Handle) (f : Record → Record) : Steady d (revise x f e) := by
  unfold Machine.revise
  split
  · split
    · exact h
    · exact (h.other (same_mono (same_putRecord x _ e))).mark x
  · exact h

theorem Steady.reportRetired {d e : Device} (h : Steady d e) (st : Option Station) (x : Handle) (fn : Fn)
    (w : RetireReason) (how : Report) : Steady d (reportRetired st x fn w how e) := by
  unfold Machine.reportRetired
  split
  · exact h.updateStation (retireEntry_link x fn w)
  · exact h.updateStation (dropEntry_link x)
  · exact h

/-- The marks that keep a record quiet and name a plan that leaves. -/
theorem steady_marks {d e : Device} (q : Option Handle) (l : Option (Handle × Station)) (h : Steady d e) :
    Steady d { e with table := { e.table with quiet := q, leaving := l } } :=
  h.other fun b hb => by cases b <;> first | rfl | exact absurd (by decide) hb

/-- Moves of records, plans and accounts are steady. -/
theorem steady (d : Device) : Kept (Steady d) where
  cap _ h := h.other (same_mono (same_applyCap _))
  budget _ x h := h.other (same_mono (same_setBudget (fun _ => x) _))
  fridge _ x _ h := h.other (same_mono (same_setFridge (fun _ => x) _))
  heater _ x _ hw hh h := h.heater x hw hh
  sched _ p c l h := h.schedPerm p c _ l
  heat _ h := h.heater _ rfl (.inl rfl)
  cool _ h := h.other (same_mono (same_setFridge (fun f => { f with target := coolValue _ }) _))
  outlet _ h := h.schedPerm _ _ _ _
  causes _ _ _ h := h.other fun b hb => by cases b <;> first | rfl | exact absurd (by decide) hb
  remap _ x _ h := h.revise x _
  atRisk _ x _ h := h.revise x _
  heaterFlag _ h := h.raiseFlag _
  budgetFlag _ h := h.raiseFlag _
  failure e x h := by
    refine h.stations _ fun st => ?_
    rw [PerStation_get_map, noteFailure_link]
  warningFlag _ _ h := h.raiseFlag _
  lamps _ _ h := h.other fun b hb => by cases b <;> first | rfl | exact absurd (by decide) hb
  plans _ _ h := h.other fun b hb => by cases b <;> first | rfl | exact absurd (by decide) hb
  account _ _ _ _ h := h.other (same_mono (same_setAccount _ _ _))
  allCauses _ _ h := h.other fun b hb => by cases b <;> first | rfl | exact absurd (by decide) hb
  departing := departing_of_marks fun _ q l => steady_marks q l
  quietly := quietly_of_marks fun _ q l => steady_marks q l
  revise _ x f h := h.revise x f
  put _ _ _ _ _ h := h.other (same_mono (same_putRecord _ _ _))
  free _ _ _ _ h := h.other (same_mono (same_freeSlot _ _))
  leave _ _ h := h.other (same_mono (same_leaveQueue _ _))
  join _ _ h := h.other (same_mono (same_joinQueue _ _))
  sequence _ h := h.other (same_mono (same_takeSequence _))
  retired _ st x fn w how h := h.reportRetired st x fn w how

/-! ## Through the heater sequencer's own work -/

/-- `P` holds through whole moves and through the scheduler's slot. -/
structure Slots (P : Device → Prop) : Prop extends Whole P where
  slots : ∀ d (x : Sched), x.outletOn = d.sched.outletOn → x.waiting = d.sched.waiting → x.owed = d.sched.owed →
    x.late = d.sched.late → P d → P { d with sched := x }

/-- `P` holds, too, through a write that the heater sequencer asks for and waits for. -/
structure Work (P : Device → Prop) : Prop extends Slots P where
  write : ∀ d c n, c.isOwn = true → n.askedIn ≠ [] → (∀ st, n ≠ .lockoutCleared st) → d.heater.waiting = false → P d →
    P (heaterWrite c n d)

namespace Slots

variable {P : Device → Prop} (k : Slots P) {d : Device}
include k

/-- A change of the sequencer's own state, which leaves its wait and what it holds. -/
theorem setHeat (f : Heater → Heater) (hd : (f d.heater).demand = d.heater.demand) (hw : (f d.heater).waiting = d.heater.waiting)
    (hh : (f d.heater).held = d.heater.held) (h : P d) : P (setHeat f d) := k.heater d _ hd hw (.inl hh) h

theorem swapReported (h : P d) : P (swapReported d) := k.setCauseAndRecompute (fun _ => ⟨rfl, rfl⟩) h

theorem enterPreglow (h : P d) : P (enterPreglow d) := k.takeClaim (k.setHeater _ h)

theorem slotReport (g f w : Bool) (h : P d) : P (slotReport g f w d) := by
  have swap : ∀ {e : Device}, P e → P (if w then Machine.swapReported e else e) := fun he =>
    kept_after (fun _ => k.swapReported) he
  unfold Machine.slotReport
  dsimp only
  split
  · split
    · exact swap (k.enterPreglow h)
    · split
      · have h1 := k.setHeat (fun x => { x with glowFrames := x.glowFrames + 1 }) rfl rfl rfl h
        split
        · exact k.setHeat _ rfl rfl rfl h1
        · exact swap h1
      · exact swap h
  · split
    · exact k.setHeat _ rfl rfl rfl h
    · exact swap h

theorem reportFailure (x : FailureKind) (h : P d) : P (reportFailure x d) := k.heaterFlag _ (k.failure _ _ h)

theorem glowWaitFailed (h : P d) : P (glowWaitFailed d) := by
  unfold Machine.glowWaitFailed
  dsimp only
  split
  · exact kept_after (fun _ => k.swapReported)
      (k.reportFailure _ (k.setCauseAndRecompute (fun _ => ⟨rfl, rfl⟩) (k.setHeater _ (k.discardStart h))))
  · exact h

theorem proveFlame (a b : Int) (h : P d) : P (proveFlame a b d) := by
  unfold Machine.proveFlame
  exact k.setHeat _ rfl rfl rfl (k.setHeater _ (k.releaseClaim h))

theorem takeReading (cab hx : Int) (h : P d) : P (takeReading cab hx d) := by
  have h0 := k.setHeat (fun x => { x with cab := some (clampInt (-80) 250 cab), hx := some (clampInt (-80) 500 hx) }) rfl rfl rfl h
  unfold Machine.takeReading
  dsimp only
  split
  · unfold readPrecheck
    exact kept_ite (k.setHeater _ (k.setHeat _ rfl rfl rfl h0)) h0
  · have h1 := k.setHeat (fun x => { x with
      overTimer := countIf (decide (clampInt (-80) 500 hx ≥ Config.overheatLimit)) x.overTimer }) rfl rfl rfl h0
    unfold readIgnite
    dsimp only
    split
    · exact kept_ite (k.proveFlame _ _ h1) h1
    · exact h1
  · exact k.setHeat _ rfl rfl rfl (k.setHeat _ rfl rfl rfl h0)
  · unfold readPause
    split
    · exact kept_ite (k.enterPrecheck h0) h0
    · exact h0
  · exact h0

theorem purgeFailed (h : P d) : P (purgeFailed d) := k.reportFailure _ (k.enterPurge _ h)

theorem overheatWritten (h : P d) : P (overheatWritten d) :=
  k.enterPurge _ (kept_ite (k.releaseClaim (k.reportFailure _ h)) (k.reportFailure _ h))

theorem purgeWritten (n : PurgeNext) (h : P d) : P (purgeWritten n d) := by
  have h1 := k.setHeat (fun x => { x with cause := .none }) rfl rfl rfl h
  cases n
  · exact k.setCauseAndRecompute (fun _ => ⟨rfl, rfl⟩) (k.setHeater _ h1)
  · exact k.enterPrecheck h1
  · exact k.setHeater _ h1
  · exact k.setHeater _ h1

theorem fuelOn (h : P d) : P (fuelOn d) := by
  refine k.setHeat _ ?_ ?_ ?_ h
  all_goals
    split
    · rfl
    · rfl

theorem seeDemand (h : P d) : P (seeDemand d) := kept_after (fun _ => k.demandHeat) h

/-! ## Slots -/

theorem openSlot (h : P d) : P (openSlot d) := k.formPermissions (k.slots d _ rfl rfl rfl rfl h)

theorem reportSlot (f w : Bool) (h : P d) : P (reportSlot f w d) := by
  unfold Machine.reportSlot Machine.heaterTake
  split
  next hw => exact k.holdMsg rfl hw h
  · exact k.slotReport _ _ _ h

theorem slotWithin (h : P d) : P (slotWithin d) := k.reportSlot _ _ (k.openSlot (k.slots d _ rfl rfl rfl rfl h))

theorem takeLength (h : P d) : P (takeLength d) := k.slots d _ rfl rfl rfl rfl h

/-- A frame opens, where `P` holds once slot 0 has opened. -/
theorem openFrame (w f x : Bool) (h : P (openFirst d)) : P (openFrame w f x d) := by
  unfold Machine.openFrame
  exact kept_ite (k.reportBudget _ _ (k.reportSlot _ _ h)) (k.reportSlot _ _ (k.reportBudget _ _ h))

end Slots

namespace Work

variable {P : Device → Prop} (k : Work P) {d : Device}
include k

theorem attemptFailed (hw : d.heater.waiting = false) (h : P d) : P (attemptFailed d) := by
  have h1 := k.setHeat (fun x => { x with attempts := bump Config.attemptLimit x.attempts }) rfl rfl rfl h
  unfold Machine.attemptFailed
  exact kept_ite (k.write _ _ _ rfl (by decide) (fun _ h => nomatch h) hw h1) (k.purgeFailed h1)

theorem endPurge (hw : d.heater.waiting = false) (h : P d) : P (endPurge d) :=
  k.write _ _ _ rfl (by simp [Cont.askedIn]) (fun _ h => nomatch h) hw h

theorem hotWritten (hw : d.heater.waiting = false) (h : P d) : P (hotWritten d) := k.endPurge hw (k.failure _ _ h)

theorem takeTimer (t : HeaterTimer) (hw : d.heater.waiting = false) (h : P d) : P (takeTimer t d) := by
  have released : (Machine.releaseClaim d).heater.waiting = false :=
    ((steady d).releaseClaim (.refl d)).waiting.trans hw
  cases t
  · exact k.glowWaitFailed h
  · exact kept_ite (k.write _ _ _ rfl (by decide) (fun _ h => nomatch h) hw
      (k.setHeat _ rfl rfl rfl (k.setHeater _ h))) h
  · exact kept_ite (k.attemptFailed released (k.releaseClaim h)) h
  · exact kept_ite (k.setHeat _ rfl rfl rfl h) h
  · exact kept_ite (k.enterPurge _ h) h
  · exact kept_ite (k.attemptFailed hw (k.setHeat _ rfl rfl rfl h)) h
  · exact kept_ite (k.write _ _ _ rfl (by decide) (fun _ h => nomatch h) hw h) h
  · exact kept_ite (k.setHeat _ rfl rfl rfl h) h
  · exact kept_ite (k.endPurge hw h) h
  · exact kept_ite (kept_ite (k.hotWritten hw h) (k.write _ _ _ rfl (by decide) (fun _ h => nomatch h) hw h)) h

/-- The sequencer's work on a message that is no clear. -/
theorem heaterTake {m : HeaterMsg} (hm : m.isClear = false) (h : P d) : P (heaterTake d m) := by
  unfold Machine.heaterTake
  split
  · rename_i hw
    exact k.holdMsg hm hw h
  · rename_i hw
    cases m with
    | demand => exact k.demandHeat h
    | stop => exact k.stopHeater h
    | voltage v => exact k.voltageHeater v h
    | slot g f w => exact k.slotReport g f w h
    | reading a b => exact k.takeReading a b h
    | timer t => exact k.takeTimer t (Bool.eq_false_iff.mpr hw) h
    | clear st => cases hm

end Work

end Sys2Proof.Machine
end

section
/-! PROOF. What a step can do to the part, said once: the quiet events (`Quiet`), the ways in which a request ends
(`Acts`, `Replies`), and every move of a step (`Move`). -/

namespace Sys2Proof.Machine
open Sys2Proof

/-! ## Requests -/

/-- A record that CREATE has put in its slot, with what its start brings. -/
def created (st : Station) (fn : Fn) (h : Handle) (b : CreateBody) (cls : Class) (params : Params) (flags : List Bool)
    (d : Device) : Device :=
  let e := takeSequence (clearFault fn d)
  let r := (newRecord e st fn b cls params flags e.table.counter).1
  quietly (some h) (fun d => if r.start.isNone then beginRecord h (putRecord h r d) else putRecord h r d) e

/-- A record that AMEND has revised, with what follows. -/
def amended (st : Station) (h : Handle) (r : Record) (b : AmendBody) (d : Device) : Device :=
  quietly (if isOwn st r then some h else none) (fun d =>
    let e := takeSequence (clearFault r.fn d)
    afterAmend h ((lookup e h).getD r) (revise h (fun r =>
      (amendedRecord e.clock.sec (e.settings.stations.get st).control b e.table.counter r).1) e)) d

/-- What a request of station `st` does before its answer is formed. -/
inductive Acts (st : Station) (d : Device) : Device → Prop
  | same : Acts st d d
  | swap (b : Bool) : Acts st d (setSched (fun s => { s with swapPending := b }) d)
  | mark (r : LockRole) : Acts st d { d with bank := setMark r d.bank }
  | ack (dr : Driver) : Acts st d (acknowledge dr d)
  | create (fn : Fn) (h : Handle) (b : CreateBody) (cls : Class) (params : Params) (flags : List Bool)
      (free : freeStationSlot d = some h) (room : (fnStationRecords d fn).length < fnLimit fn)
      (given : createParams (fnKind fn) b.fields = some (params, flags)) (fits : timesFit (fnKind fn) b = true) :
      Acts st d (created st fn h b cls params flags d)
  | amend (h : Handle) (r : Record) (b : AmendBody) (live : lookup d h = some r) (own : r.owner ≠ .internal)
      (fits : amendFits r.kind b = true) : Acts st d (amended st h r b d)
  | retire (h : Handle) (r : Record) (live : lookup d h = some r) (own : r.owner ≠ .internal) (how : Report)
      (told : how = if isOwn st r then .own else .entered) : Acts st d (retireRecord h .request how d)
  | restart : Acts st d (restartDevice d)

/-- A setting that a request may ask the store to write: no block's own state, no current, and nothing that the lock on the
floor forbids. -/
def PlainChange (d : Device) (c : Change) : Prop :=
  c.isOwn = false ∧ (∀ w v, c ≠ .num (.current w) v) ∧ (Locked d → KeepsLocked d.settings (applyChange c d.settings))

/-- How a request of station `st`, served in the state `d`, leaves the part. -/
inductive Replies (st : Station) (d : Device) : Device → Prop
  | answer (e : Device) (ty : Byte) (code : AnswerCode) (body : List Byte) (acts : Acts st d e) :
      Replies st d (answer st ty code body e)
  | after (e : Device) (ty : Byte) (code : AnswerCode) (spec : AnswerSpec) (acts : Acts st d e) :
      Replies st d (answerAfter d st ty code spec e)
  | write (c : Change) (ty : Byte) (code : AnswerCode) (spec : AnswerSpec) (plain : PlainChange d c) :
      Replies st d (askWrite c (.answer st ty code spec) d)
  | current (w : CurrentSetting) (v : Int) (ty : Byte) (code : AnswerCode) (spec : AnswerSpec) :
      Replies st d (askWrite (.num (.current w) v) (.answer st ty code spec) (keepIdle d))
  | clear : Replies st d (heaterTake d (.clear st))

namespace Replies

variable {st : Station} {d : Device}

theorem refused (ty : Byte) (code : AnswerCode) : Replies st d (refuse st ty code d) := .answer _ _ _ _ .same

theorem gated {ty : Byte} {ok right : Bool} {f : Device → Device} (h : Replies st d (f d)) :
    Replies st d (gated st ty ok right f d) := by
  unfold Machine.gated
  split
  · exact .refused _ _
  · split
    · exact .refused _ _
    · exact h

theorem configure {f : Station → Device → Device} (h : Replies st d (f st d)) : Replies st d (configure f st d) := .gated h

theorem unknown (ty : Byte) : Replies st d (refuse st ty .unknownRequest d) := .refused _ _

theorem lookupHandle (w : Option Word16) : Replies st d (lookupHandle w st d) := by
  unfold Machine.lookupHandle
  split
  · exact .refused _ _
  · split
    · exact .refused _ _
    · split
      · exact .answer _ _ _ _ .same
      · exact .refused _ _

theorem lookupFunction (q : Option FnQuery) : Replies st d (lookupFunction q st d) := by
  unfold Machine.lookupFunction
  split
  · exact .refused _ _
  · split
    · exact .refused _ _
    · split
      · exact .refused _ _
      · split
        · exact .refused _ _
        · exact .answer _ _ _ _ .same

theorem lookupOwn (f : Option Byte) : Replies st d (lookupOwn f st d) := by
  unfold Machine.lookupOwn
  split
  · exact .refused _ _
  · split
    · exact .answer _ _ _ _ .same
    · exact .refused _ _

theorem createChecked (fn : Fn) (b : CreateBody) : Replies st d (createChecked st fn b d) := by
  unfold Machine.createChecked
  split
  next cls params flags hc hp ht =>
    split
    · exact .refused _ _
    · split
      · exact .refused _ _
      next hroom =>
        split
        · exact .refused _ _
        next h hfree => exact .after _ _ _ _ (.create fn h b cls params flags hfree (Nat.lt_of_not_le hroom) hp ht)
  · exact .refused _ _

theorem create (b : Option CreateBody) : Replies st d (create b st d) := by
  unfold Machine.create
  split
  · exact .refused _ _
  · dsimp only
    split
    · exact .refused _ _
    · split
      · exact .refused _ _
      · split
        · exact .refused _ _
        · split
          · exact .refused _ _
          · split
            · exact .refused _ _
            · split
              · exact .refused _ _
              · exact .createChecked _ _

/-- A resolved handle names a live record. -/
theorem live_of_resolve {w : Word16} {h : Handle} {r : Record} {win : Window} (e : resolve d st w = .ok (h, r, win)) :
    lookup d h = some r := by
  unfold resolve at e
  dsimp only at e
  split at e
  · cases e
  · split at e
    · cases e
    · cases e; assumption

theorem amend (b : Option AmendBody) : Replies st d (amend b st d) := by
  unfold Machine.amend
  split
  · exact .refused _ _
  · split
    · exact .refused _ _
    · split
      · exact .refused _ _
      next h r win hr =>
        split
        · exact .refused _ _
        · split
          · exact .refused _ _
          next hown =>
            split
            · exact .refused _ _
            · split
              · exact .refused _ _
              next hfit => exact .after _ _ _ _ (.amend h r _ (live_of_resolve hr) hown (by simpa using hfit))

theorem retire (w : Option Word16) : Replies st d (retire w st d) := by
  unfold Machine.retire
  split
  · exact .refused _ _
  · split
    · exact .refused _ _
    next h r win hr =>
      split
      · exact .refused _ _
      · split
        · exact .refused _ _
        next hown => exact .after _ _ _ _ (.retire h r (live_of_resolve hr) hown _ rfl)

theorem status (ok : Bool) : Replies st d (status ok st d) := by
  unfold Machine.status
  split
  · exact .answer _ _ _ _ .same
  · exact .refused _ _

theorem ackWarning (b : Option Byte) : Replies st d (ackWarning b st d) := by
  unfold Machine.ackWarning
  split
  · exact .refused _ _
  · split
    · exact .refused _ _
    · split
      · exact .refused _ _
      · exact .answer _ _ _ _ (.ack _)

/-- A change that touches neither floor nor protected set nor any current. -/
theorem plain {c : Change} (ho : c.isOwn = false) (hc : ∀ w v, c ≠ .num (.current w) v)
    (hf : (applyChange c d.settings).floor = d.settings.floor)
    (hp : (applyChange c d.settings).protectedSet = d.settings.protectedSet) : PlainChange d c :=
  ⟨ho, hc, fun _ => ⟨hf.ge, fun l h => by rw [hp]; exact h⟩⟩

theorem scheduleWrite (r : Option ScheduleRun) : Replies st d (scheduleWrite r st d) := by
  unfold Machine.scheduleWrite
  split
  · exact .refused _ _
  · refine .gated ?_
    unfold writeRun
    split
    · exact .refused _ _
    · split
      · exact .refused _ _
      · split
        · exact .refused _ _
        · split
          · exact .answer _ _ _ _ .same
          · exact .write _ _ _ _ (plain rfl (fun _ _ => nofun) rfl rfl)

theorem scheduleLength (b : Option LengthBody) : Replies st d (scheduleLength b st d) := by
  unfold Machine.scheduleLength
  split
  · exact .refused _ _
  · refine .gated ?_
    unfold writeLength
    split
    · exact .refused _ _
    · split
      · exact .refused _ _
      · exact .write _ _ _ _ (plain rfl (fun _ _ => nofun) rfl rfl)

theorem scheduleCopy (ok : Bool) : Replies st d (scheduleCopy ok st d) :=
  .gated (.write _ _ _ _ (plain rfl (fun _ _ => nofun) rfl rfl))

theorem scheduleSwap (c ok : Bool) : Replies st d (scheduleSwap c ok st d) := .gated (.answer _ _ _ _ (.swap _))

/-- The lock holds just while both marks are set. -/
theorem floorLocked_iff : floorLocked d = true ↔ Locked d := Bool.and_eq_true_iff

theorem setFloor (w : Option Word16) : Replies st d (setFloor w st d) := by
  unfold Machine.setFloor
  split
  · exact .refused _ _
  · refine .gated ?_
    unfold writeFloor
    dsimp only
    split
    · exact .answer _ _ _ _ .same
    next hl =>
      refine .write _ _ _ _ ⟨rfl, fun _ _ => nofun, fun locked => ⟨?_, fun _ h => h⟩⟩
      simp only [floorLocked_iff.mpr locked, Bool.true_and, decide_eq_true_eq] at hl
      exact Nat.le_of_not_lt hl

theorem keepsLanes_get {old new : PerLane Bool} (h : keepsLanes old new = true) (l : Lane) (hl : old.get l = true) :
    new.get l = true := by
  simp only [keepsLanes, Bool.and_eq_true, Bool.or_eq_true, Bool.not_eq_true'] at h
  obtain ⟨⟨hheat, hcool⟩, haux⟩ := h
  cases l
  · exact hheat.resolve_left fun h => nomatch h.symm.trans hl
  · exact hcool.resolve_left fun h => nomatch h.symm.trans hl
  · exact haux.resolve_left fun h => nomatch h.symm.trans hl

theorem setProtect (b : Option Byte) : Replies st d (setProtect b st d) := by
  unfold Machine.setProtect
  split
  · exact .refused _ _
  · refine .gated ?_
    unfold writeProtect
    split
    · exact .refused _ _
    · split
      · exact .refused _ _
      · dsimp only
        split
        · exact .answer _ _ _ _ .same
        next hl =>
          refine .write _ _ _ _ ⟨rfl, fun _ _ => nofun, fun locked => ⟨Nat.le_refl _, ?_⟩⟩
          simp only [floorLocked_iff.mpr locked, Bool.true_and, Bool.not_eq_true, Bool.not_eq_false'] at hl
          exact keepsLanes_get hl

theorem lockMark (ok : Bool) : Replies st d (lockMark ok st d) :=
  .gated (f := fun d => Machine.answer st 0x28#8 .ok
    [marksByte { d with bank := setMark (d.settings.stations.get st).role d.bank }]
    { d with bank := setMark (d.settings.stations.get st).role d.bank }) (.answer _ _ _ _ (.mark _))

theorem requestClear (ok : Bool) : Replies st d (requestClear ok st d) := .gated .clear

theorem restart (ok : Bool) : Replies st d (restart ok st d) := .gated (.after _ _ _ _ .restart)

theorem plainNat {p : Param} (hc : ∀ w, p ≠ .current w) (hp : p ≠ .capacity) (lo hi v : Nat) (enc : Nat → List Byte) :
    Replies st d (plainNat p lo hi v enc st d) := by
  refine .write _ _ _ _ (plain rfl (fun w x e => hc w (by cases e; rfl)) ?_ ?_)
  · cases p with
    | capacity => exact absurd rfl hp
    | current w => exact absurd rfl (hc w)
    | scale k => cases k <;> rfl
    | _ => rfl
  · cases p with
    | capacity => exact absurd rfl hp
    | current w => exact absurd rfl (hc w)
    | scale k => cases k <;> rfl
    | _ => rfl

theorem setCapacity (w : Word16) : Replies st d (setCapacity w st d) := by
  unfold Machine.setCapacity
  dsimp only
  split
  · exact .answer _ _ _ _ .same
  next hl =>
    refine .write _ _ _ _ ⟨rfl, fun _ _ => nofun, fun locked => ⟨?_, fun _ h => h⟩⟩
    simp only [floorLocked_iff.mpr locked, Bool.true_and, decide_eq_true_eq] at hl
    exact Nat.le_min.mpr ⟨Nat.le_refl _, Nat.le_of_not_lt hl⟩

theorem setThreshold (x : Threshold) (w : Word16) : Replies st d (setThreshold x w st d) := by
  unfold Machine.setThreshold
  dsimp only
  split
  · exact .write _ _ _ _ (plain rfl (fun _ _ => nofun) rfl rfl)
  · exact .refused _ _

theorem setScale (x : SenseScale) (w : Word16) : Replies st d (setScale x w st d) :=
  .write _ _ _ _ (plain rfl (fun _ _ => nofun) (by cases x <;> rfl) (by cases x <;> rfl))

theorem setShedOrder (a b c : Byte) : Replies st d (setShedOrder a b c st d) := by
  unfold Machine.setShedOrder
  split
  · exact .write _ _ _ _ (plain rfl (fun _ _ => nofun) rfl rfl)
  · exact .refused _ _

theorem setBudgetField (f : BudgetField) : Replies st d (setBudgetField f st d) := by
  cases f
  · exact .plainNat (p := .horizon) (fun _ h => nomatch h) (fun h => nomatch h) _ _ _ _
  · exact .write _ _ _ _ (plain rfl (fun _ _ => nofun) rfl rfl)

theorem setCurrentSetting (x : CurrentSetting) (w : Word16) : Replies st d (setCurrentSetting x w st d) := by
  unfold Machine.setCurrentSetting
  split
  · exact .refused _ _
  · dsimp only
    split
    · exact .refused _ _
    · exact .current _ _ _ _ _

theorem setRestParam (x : RestParam) (w : Word16) : Replies st d (setRestParam x w st d) := by
  unfold Machine.setRestParam
  dsimp only
  split
  · exact .write _ _ _ _ (plain rfl (fun _ _ => nofun) rfl rfl)
  · exact .refused _ _

theorem setWindow (s : Station) (i : WindowIndex) (f : WindowFields) : Replies st d (setWindow s i f st d) := by
  unfold Machine.setWindow
  split
  · exact .refused _ _
  · dsimp only
    split
    · exact .write _ _ _ _ (plain rfl (fun _ _ => nofun) rfl rfl)
    · exact .refused _ _

theorem setLevel (s : Station) (f : LevelFields) : Replies st d (setLevel s f st d) := by
  unfold Machine.setLevel
  split
  · exact .refused _ _
  · dsimp only
    split
    · exact .write _ _ _ _ (plain rfl (fun _ _ => nofun) rfl rfl)
    · exact .refused _ _

theorem configureRefused (n : Option Byte) (a : Bool) : Replies st d (configureRefused n a st d) := .gated (.refused _ _)

theorem readParam (n : Option Byte) : Replies st d (readParam n st d) := by
  unfold Machine.readParam
  split
  · exact .refused _ _
  · refine .gated ?_
    split
    · exact .answer _ _ _ _ .same
    · exact .refused _ _

theorem readTableRun (t : TableId) (r : Option TableRun) : Replies st d (readTableRun t r st d) := by
  unfold Machine.readTableRun
  split
  · exact .refused _ _
  · refine .gated ?_
    dsimp only
    split
    · exact .refused _ _
    · exact .answer _ _ _ _ .same

end Replies

/-! ## Events and moves -/

/-- An event of the part that reaches neither the store nor what waits for it, nor the port's polls. -/
inductive Quiet (d : Device) : Device → Prop
  | start (h : Handle) (r : Record) (live : lookup d h = some r) (due : startDue d.clock.sec r = true) :
      Quiet d (beginRecord h d)
  | retire (h : Handle) (r : Record) (live : lookup d h = some r) (w : RetireReason) : Quiet d (retireRecord h w .entered d)
  | sample (v i : BitVec 12) : Quiet d (takeSample v i d)
  | integrate : Quiet d (setBank (integrate (fullCharge d)) d)
  | anchor : Quiet d (fullAnchor d)
  | voltage : Quiet d (voltageChange d)
  | marks : Quiet d (marksClear d)
  | fridge (raw : Int) : Quiet d (fridgeSample raw d)
  | faultClear : Quiet d (sensorFaultClear d)
  | blind : Quiet d (blindWindowChange d)
  | guard : Quiet d (guardEnd d)
  | fade : Quiet d (fadeStep d)
  | sense (t : PerChannel Bool) : Quiet d (senseSample t d)
  | overCurrent (c : Channel) : Quiet d (overCurrent c d)
  | engineFrame (id : CanId) (data : List Byte) : Quiet d (engineFrame id data d)
  | engineLost : Quiet d (engineLost d)
  | activityFrame (id : CanId) (data : List Byte) : Quiet d (activityFrame id data d)
  | activityLost : Quiet d (activityLost d)
  | status : Quiet d (buildStatus d)
  | sent : Quiet d (setVehicle txSuccess d)
  | failed : Quiet d (setVehicle txError d)
  | rejoin : Quiet d (setVehicle rejoin d)
  | accrue : Quiet d (accrueBoth d)
  | settle (dr : Driver) : Quiet d (settle dr d)
  | incomplete (dr : Driver) : Quiet d (setAccount dr incompleteSet d)
  | dashRepeat (dr : Driver) : Quiet d (dashRepeat dr d)
  | dashEnd (dr : Driver) : Quiet d (dashEnd dr d)
  | bunkEnd (dr : Driver) : Quiet d (bunkEnd dr d)
  | waking (dr : Driver) (due : wakingDue d dr = true) : Quiet d (enterWaking dr d)
  | due (dr : Driver) (due : dueDue d dr = true) : Quiet d (enterDue dr d)
  | ramp (dr : Driver) : Quiet d (rampTick dr d)
  | call (dr : Driver) : Quiet d (callOnset dr d)
  | unanswered (dr : Driver) : Quiet d (retirePlan dr .wakeUnanswered d)
  | begun : Quiet d { d with clock := { d.clock with begun := true } }
  | clock : Quiet d (advanceClock d)

/-- What a step that is no power-on can do to the part. -/
inductive Move (d : Device) : Device → Prop
  | same : Move d d
  | reset : Move d (enterReset d)
  | quiet (e : Device) (live : d.inReset = false) (q : Quiet d e) : Move d e
  | poll (live : d.inReset = false) : Move d (sendPoll d)
  | pauseEnd (live : d.inReset = false) : Move d (endPause d)
  | idle (live : d.inReset = false) : Move d (takeIdle d)
  | miss (live : d.inReset = false) : Move d (takeMiss d)
  | serve (st : Station) (carried : Bool) (e : Device) (live : d.inReset = false)
      (polled : d.link.phase = .awaiting st carried) (r : Replies st (opened st d) e) : Move d e
  | reading (cab hx : Int) (live : d.inReset = false) :
      Move d (heaterTake { d with leads := { d.leads with cab := cab, hx := hx } } (.reading cab hx))
  | timer (t : HeaterTimer) (live : d.inReset = false) : Move d (heaterTake d (.timer t))
  | slot (workFirst heaterFirst : Bool) (live : d.inReset = false) : Move d (slotBoundary workFirst heaterFirst d)
  | complete (live : d.inReset = false) : Move d (completeWrite d)

theorem onPart_moves {f : Device → Device} {s t : State} (h : onPart f s = .next t)
    (hm : s.dev.inReset = false → Move s.dev (f s.dev)) : Move s.dev t.dev := by
  cases hr : s.dev.inReset
  · rw [onPart_running f s hr] at h
    cases h
    exact hm hr
  · rw [onPart_reset f s hr] at h
    cases h
    exact .same

/-- A request that ends in one of the ways of `Replies` is a move. -/
theorem serve_moves {f : Station → Device → Device} {s t : State} (h : onPart (serve f) s = .next t)
    (hf : ∀ st d, Replies st d (f st d)) : Move s.dev t.dev := by
  refine onPart_moves h fun live => ?_
  unfold serve
  split
  next st c hp => exact .serve st c _ live hp (hf st _)
  · exact .same

theorem onDue_moves {test : Nat → Record → Bool} {h : Handle} {f : Device → Device} {d : Device}
    (hf : ∀ r, lookup d h = some r → test d.clock.sec r = true → Move d (f d)) : Move d (onDue test h f d) := by
  unfold onDue
  split
  next r hr =>
    split
    next ht => exact hf r hr ht
    · exact .same
  · exact .same

theorem due_moves {c : Bool} {d e : Device} (h : c = true → Move d e) : Move d (if c then e else d) := by
  split
  next hc => exact h hc
  · exact .same

theorem timer_moves (x : HeaterTimer) {s t : State} (h : onPart (fun d => heaterTake d (.timer x)) s = .next t) :
    Move s.dev t.dev := onPart_moves h (.timer x)

/-- Every command but a power-on makes one of the moves. -/
theorem exec_moves (c : Instr) (s t : State) (h : exec c s = .next t) :
    (∃ a b, c = .powerOn a b ∧ t.dev = powerUp a b s.dev) ∨ Move s.dev t.dev := by
  cases c with
  | powerOn a b => cases h; exact .inl ⟨a, b, rfl, rfl⟩
  | reset => cases h; exact .inr .reset
  | storeWriteComplete => exact .inr (onPart_moves h .complete)
  | pollSend => exact .inr (onPart_moves h .poll)
  | cyclePauseEnd => exact .inr (onPart_moves h .pauseEnd)
  | idleReply => exact .inr (onPart_moves h .idle)
  | pollMissed => exact .inr (onPart_moves h .miss)
  | unknownRequest ty => exact .inr (serve_moves h fun _ _ => .unknown ty)
  | lookupByHandle w => exact .inr (serve_moves h fun _ _ => .lookupHandle w)
  | lookupByFunction q => exact .inr (serve_moves h fun _ _ => .lookupFunction q)
  | lookupOwnRecords f => exact .inr (serve_moves h fun _ _ => .lookupOwn f)
  | create b => exact .inr (serve_moves h fun _ _ => .create b)
  | amend b => exact .inr (serve_moves h fun _ _ => .amend b)
  | retire w => exact .inr (serve_moves h fun _ _ => .retire w)
  | status ok => exact .inr (serve_moves h fun _ _ => .status ok)
  | ackWarning b => exact .inr (serve_moves h fun _ _ => .ackWarning b)
  | scheduleWrite r => exact .inr (serve_moves h fun _ _ => .scheduleWrite r)
  | scheduleLength b => exact .inr (serve_moves h fun _ _ => .scheduleLength b)
  | scheduleCopy ok => exact .inr (serve_moves h fun _ _ => .scheduleCopy ok)
  | scheduleSwap ok => exact .inr (serve_moves h fun _ _ => .scheduleSwap _ ok)
  | scheduleSwapCancel => exact .inr (serve_moves h fun _ _ => .scheduleSwap _ _)
  | setFloor w => exact .inr (serve_moves h fun _ _ => .setFloor w)
  | setProtect b => exact .inr (serve_moves h fun _ _ => .setProtect b)
  | lockMark ok => exact .inr (serve_moves h fun _ _ => .lockMark ok)
  | clearLockout ok => exact .inr (serve_moves h fun _ _ => .requestClear ok)
  | restart ok => exact .inr (serve_moves h fun _ _ => .restart ok)
  | configureCapacity v => exact .inr (serve_moves h fun _ _ => .configure (.setCapacity v))
  | configureFullVoltage v =>
    exact .inr (serve_moves h fun _ _ => .configure (.plainNat (by nofun) (by nofun) _ _ _ _))
  | configureThreshold x v => exact .inr (serve_moves h fun _ _ => .configure (.setThreshold x v))
  | configureDebounce x v =>
    exact .inr (serve_moves h fun _ _ => .configure (.plainNat (by nofun) (by nofun) _ _ _ _))
  | configureSenseScaling x v => exact .inr (serve_moves h fun _ _ => .configure (.setScale x v))
  | configureShedOrder x y z => exact .inr (serve_moves h fun _ _ => .configure (.setShedOrder x y z))
  | configureBudgetSetting f => exact .inr (serve_moves h fun _ _ => .configure (.setBudgetField f))
  | configureCurrents x v => exact .inr (serve_moves h fun _ _ => .configure (.setCurrentSetting x v))
  | configureSlotLength v =>
    exact .inr (serve_moves h fun _ _ => .configure (.plainNat (by nofun) (by nofun) _ _ _ _))
  | configureDeferralLimit v =>
    exact .inr (serve_moves h fun _ _ => .configure (.plainNat (by nofun) (by nofun) _ _ _ _))
  | configureFadeRate v =>
    exact .inr (serve_moves h fun _ _ => .configure (.plainNat (by nofun) (by nofun) _ _ _ _))
  | configureRestParameter x v => exact .inr (serve_moves h fun _ _ => .configure (.setRestParam x v))
  | configureWindow x i f => exact .inr (serve_moves h fun _ _ => .configure (.setWindow x i f))
  | configureStationLevel x f => exact .inr (serve_moves h fun _ _ => .configure (.setLevel x f))
  | configureIdentifierBase v =>
    exact .inr (serve_moves h fun _ _ => .configure (.plainNat (by nofun) (by nofun) _ _ _ _))
  | configureUnknown n z => exact .inr (serve_moves h fun _ _ => .configureRefused n _)
  | readConfig n => exact .inr (serve_moves h fun _ _ => .readParam n)
  | readTable x r => exact .inr (serve_moves h fun _ _ => .readTableRun x r)
  | recordStart x =>
    exact .inr (onPart_moves h fun live => onDue_moves fun r hr ht => .quiet _ live (.start x r hr ht))
  | recordEnd x =>
    exact .inr (onPart_moves h fun live => onDue_moves fun r hr _ => .quiet _ live (.retire x r hr .ended))
  | deferExpired x =>
    exact .inr (onPart_moves h fun live => onDue_moves fun r hr _ => .quiet _ live (.retire x r hr .deferExpired))
  | batterySample v i => exact .inr (onPart_moves h fun live => .quiet _ live (.sample v i))
  | chargeIntegration =>
    exact .inr (onPart_moves (f := fun d => setBank (integrate (fullCharge d)) d) h fun live => .quiet _ live .integrate)
  | fullAnchor => exact .inr (onPart_moves h fun live => .quiet _ live .anchor)
  | voltageStateChange => exact .inr (onPart_moves h fun live => .quiet _ live .voltage)
  | marksClear => exact .inr (onPart_moves h fun live => .quiet _ live .marks)
  | slotBoundary a b => exact .inr (onPart_moves h (.slot a b))
  | heaterReading a b =>
    exact .inr (onPart_moves (f := fun d => heaterTake { d with leads := { d.leads with cab := a, hx := b } } (.reading a b)) h
      (.reading a b))
  | glowWaitFailed => exact .inr (timer_moves .glowWaitFailed h)
  | preglowEnd => exact .inr (timer_moves .preglowEnd h)
  | noFlame => exact .inr (timer_moves .noFlame h)
  | stepChange => exact .inr (timer_moves .stepChange h)
  | pauseEntry => exact .inr (timer_moves .pauseEntry h)
  | flameLoss => exact .inr (timer_moves .flameLoss h)
  | overheat => exact .inr (timer_moves .overheat h)
  | runProved => exact .inr (timer_moves .runProved h)
  | purgeEnd => exact .inr (timer_moves .purgeEnd h)
  | purgeHot => exact .inr (timer_moves .purgeHot h)
  | fridgeSample raw => exact .inr (onPart_moves h fun live => .quiet _ live (.fridge raw))
  | sensorFaultClear => exact .inr (onPart_moves h fun live => .quiet _ live .faultClear)
  | blindWindowChange => exact .inr (onPart_moves h fun live => .quiet _ live .blind)
  | guardEnd => exact .inr (onPart_moves h fun live => .quiet _ live .guard)
  | lampFadeStep => exact .inr (onPart_moves h fun live => .quiet _ live .fade)
  | lampSenseSample x => exact .inr (onPart_moves h fun live => .quiet _ live (.sense x))
  | overCurrent x => exact .inr (onPart_moves h fun live => .quiet _ live (.overCurrent x))
  | engineState x b => exact .inr (onPart_moves h fun live => .quiet _ live (.engineFrame x b))
  | engineFrameLost => exact .inr (onPart_moves h fun live => .quiet _ live .engineLost)
  | driverActivity x b => exact .inr (onPart_moves h fun live => .quiet _ live (.activityFrame x b))
  | activityFrameLost => exact .inr (onPart_moves h fun live => .quiet _ live .activityLost)
  | canFrameIgnored x b => exact .inr (onPart_moves h fun _ => .same)
  | cabStatus => exact .inr (onPart_moves h fun live => .quiet _ live .status)
  | canTxSuccess => exact .inr (onPart_moves h fun live => .quiet _ live .sent)
  | canTxError => exact .inr (onPart_moves h fun live => .quiet _ live .failed)
  | busOffRejoin => exact .inr (onPart_moves h fun live => .quiet _ live .rejoin)
  | accrual => exact .inr (onPart_moves h fun live => .quiet _ live .accrue)
  | activitySettled x => exact .inr (onPart_moves h fun live => .quiet _ live (.settle x))
  | incompleteSet x => exact .inr (onPart_moves h fun live => .quiet _ live (.incomplete x))
  | dashRepeatOnset x => exact .inr (onPart_moves h fun live => .quiet _ live (.dashRepeat x))
  | dashSoundingEnd x => exact .inr (onPart_moves h fun live => .quiet _ live (.dashEnd x))
  | bunkSoundingEnd x => exact .inr (onPart_moves h fun live => .quiet _ live (.bunkEnd x))
  | planWaking x => exact .inr (onPart_moves h fun live => due_moves fun hd => .quiet _ live (.waking x hd))
  | planDue x => exact .inr (onPart_moves h fun live => due_moves fun hd => .quiet _ live (.due x hd))
  | rampLevelTick x => exact .inr (onPart_moves h fun live => .quiet _ live (.ramp x))
  | bunkCallOnset x => exact .inr (onPart_moves h fun live => due_moves fun _ => .quiet _ live (.call x))
  | wakeUnanswered x => exact .inr (onPart_moves h fun live => due_moves fun _ => .quiet _ live (.unanswered x))

theorem tick_moves (s : State) : Move s.dev (tick s).dev := by
  unfold tick
  split
  · exact .same
  next live =>
    have live : s.dev.inReset = false := Bool.eq_false_iff.mpr live
    split
    · exact .quiet _ live .begun
    · split
      · exact .quiet _ live .clock
      · exact .same

/-- Every step is a power-on or makes one of the moves. -/
theorem step_moves (s t : State) (h : step s = .next t) :
    (∃ a b, s.pending.head? = some (.powerOn a b) ∧ t.dev = powerUp a b s.dev) ∨ Move s.dev t.dev := by
  unfold step at h
  split at h
  next c rest hp =>
    refine (exec_moves c _ t h).imp_left fun ⟨a, b, hc, ht⟩ => ⟨a, b, ?_, ht⟩
    rw [hp, hc]
    rfl
  · cases h; exact .inr (tick_moves s)

end Sys2Proof.Machine
end

section
/-! PROOF. What the store, and what waits for it, has of the moves of a step: quiet events and a request's acts leave it
still (`Still`). -/

namespace Sys2Proof.Machine
open Sys2Proof

/-! ## The slot that CREATE takes -/

theorem firstFree_eq_some : ∀ (ss : List Slot) (i : Nat) (h : Handle), firstFree i ss = some h →
    i ≤ h.slot ∧ h.slot < i + ss.length ∧ ss[h.slot - i]? = some ⟨h.gen, none⟩ ∧
      ∀ j x, i ≤ j → j < h.slot → ss[j - i]? = some x → x.rcd.isSome = true
  | [], _, _, e => nomatch e
  | s :: ss, i, h, e => by
    unfold firstFree at e
    split at e
    next hn =>
      cases e
      obtain ⟨g, x⟩ := s
      rw [Option.isNone_iff_eq_none] at hn
      subst hn
      exact ⟨Nat.le_refl _, by simp, by simp, fun j x h1 h2 => by dsimp only at h2; omega⟩
    next hn =>
      obtain ⟨h1, h2, h3, h4⟩ := firstFree_eq_some ss (i + 1) h e
      have split : ∀ k, i + 1 ≤ k → k - i = (k - (i + 1)) + 1 := by omega
      refine ⟨by omega, by simp only [List.length_cons]; omega, ?_, fun j x hj hl hx => ?_⟩
      · rw [split _ h1, List.getElem?_cons_succ]; exact h3
      · rcases Nat.lt_or_ge i j with hij | hij
        · rw [split _ hij, List.getElem?_cons_succ] at hx
          exact h4 j x hij hl hx
        · have : j - i = 0 := by omega
          rw [this] at hx
          cases hx
          exact Option.isSome_iff_ne_none.mpr (mt Option.isNone_iff_eq_none.mpr hn)

/-- The slot that the next station record takes is free, and a station's. -/
theorem slot_of_freeStationSlot {d : Device} {h : Handle} (e : freeStationSlot d = some h) :
    d.table.slots[h.slot]? = some ⟨h.gen, none⟩ ∧ h.slot < 46 := by
  obtain ⟨-, hlt, hs, -⟩ := firstFree_eq_some _ _ _ e
  have hlen : h.slot < 46 := by
    have := List.length_take_le Config.stationSlots d.table.slots
    have h46 : Config.stationSlots = 46 := rfl
    omega
  refine ⟨?_, hlen⟩
  have h46 : h.slot < Config.stationSlots := hlen
  rw [Nat.sub_zero, List.getElem?_take, if_pos h46] at hs
  exact hs

/-! ## Occupancy of the slots -/

theorem calm_occupancy (o : List (Nat × Bool)) : Calm fun d => occupancy d = o where
  cap _ h := h
  budget _ _ h := h
  fridge _ _ _ h := h
  heater _ _ _ _ _ h := h
  sched _ _ _ _ h := h
  heat _ h := h
  cool _ h := h
  outlet _ h := h
  causes _ _ _ h := h
  remap _ _ _ h := (occupancy_revise _ _ _).trans h
  atRisk _ _ _ h := (occupancy_revise _ _ _).trans h
  heaterFlag _ h := h
  budgetFlag _ h := h

@[simp] theorem occupancy_recompute (d : Device) : occupancy (recompute d) = occupancy d :=
  (calm_occupancy _).settled.recompute rfl

@[simp] theorem occupancy_pushValue (fn : Fn) (d : Device) : occupancy (pushValue fn d) = occupancy d :=
  occupancy_congr (by rw [pushValue_table])

@[simp] theorem occupancy_setCause (fn : Fn) (f : CauseSet → CauseSet) (d : Device) :
    occupancy (setCause fn f d) = occupancy d := by
  unfold setCause
  dsimp only
  split
  · rfl
  · unfold applyMap
    rw [occupancy_pushValue]
    exact foldl_kept (P := fun e => occupancy e = occupancy d)
      (fun e h he => (occupancy_revise _ _ _).trans he) _ _ rfl

@[simp] theorem occupancy_setCauseAndRecompute (fn : Fn) (f : CauseSet → CauseSet) (d : Device) :
    occupancy (setCauseAndRecompute fn f d) = occupancy d := by
  unfold setCauseAndRecompute
  dsimp only
  split
  · exact occupancy_setCause _ _ _
  · rw [occupancy_recompute, occupancy_setCause]

@[simp] theorem occupancy_clearFault (fn : Fn) (d : Device) : occupancy (clearFault fn d) = occupancy d := by
  unfold clearFault
  split
  · split
    · rw [occupancy_setCauseAndRecompute]; rfl
    · rfl
  · rfl

/-! ## The acts of a request -/

namespace Kept

variable {P : Device → Prop} (k : Kept P) {d : Device}
include k

theorem created {st : Station} {fn : Fn} {h : Handle} {b : CreateBody} {cls : Class} {params : Params} {flags : List Bool}
    (free : freeStationSlot d = some h) (hd : P d) : P (created st fn h b cls params flags d) := by
  have slot : (takeSequence (Machine.clearFault fn d)).table.slots[h.slot]? = some ⟨h.gen, none⟩ :=
    free_of_occupancy (by simp) (slot_of_freeStationSlot free).1
  unfold Machine.created
  dsimp only
  refine k.quietly _ _ _ (fun e he hP => ?_) (k.sequence _ (k.clearFault fn hd))
  have put := k.put e h (newRecord (takeSequence (Machine.clearFault fn d)) st fn b cls params flags
    (takeSequence (Machine.clearFault fn d)).table.counter).1 none (he ▸ slot) hP
  split
  · exact k.beginRecord _ put
  · exact put

theorem amended (st : Station) (h : Handle) (r : Record) (b : AmendBody) (hd : P d) : P (amended st h r b d) :=
  k.quietly _ _ _ (fun _ _ h => k.afterAmend _ _ (k.revise _ _ _ (k.sequence _ (k.clearFault _ h)))) hd

end Kept

/-! ## What waits for the store stays still -/

/-- Store, writes asked for, what waits for them and the port's phase are the same, and messages are held only by a sequencer
that waits. -/
structure Still (d e : Device) : Prop where
  inReset : e.inReset = d.inReset
  settings : e.settings = d.settings
  jobs : e.store.jobs = d.store.jobs
  writing : e.store.writing = d.store.writing
  imageA : e.store.a = d.store.a
  imageB : e.store.b = d.store.b
  waiting : e.heater.waiting = d.heater.waiting
  clears : e.heater.held.filter HeaterMsg.isClear = d.heater.held.filter HeaterMsg.isClear
  schedWaiting : e.sched.waiting = d.sched.waiting
  owed : e.sched.owed = d.sched.owed
  late : e.sched.late = d.sched.late
  phase : e.link.phase = d.link.phase
  heldAnswer : e.link.heldAnswer = d.link.heldAnswer

namespace Still

variable {d e f : Device}

theorem refl (d : Device) : Still d d := ⟨rfl, rfl, rfl, rfl, rfl, rfl, rfl, rfl, rfl, rfl, rfl, rfl, rfl⟩

theorem trans (h : Still d e) (k : Still e f) : Still d f where
  inReset := k.inReset.trans h.inReset
  settings := k.settings.trans h.settings
  jobs := k.jobs.trans h.jobs
  writing := k.writing.trans h.writing
  imageA := k.imageA.trans h.imageA
  imageB := k.imageB.trans h.imageB
  waiting := k.waiting.trans h.waiting
  clears := k.clears.trans h.clears
  schedWaiting := k.schedWaiting.trans h.schedWaiting
  owed := k.owed.trans h.owed
  late := k.late.trans h.late
  phase := k.phase.trans h.phase
  heldAnswer := k.heldAnswer.trans h.heldAnswer

theorem of_steady (h : Steady d e) : Still d e where
  inReset := h.inReset
  settings := h.settings
  jobs := by rw [h.store]
  writing := by rw [h.store]
  imageA := by rw [h.store]
  imageB := by rw [h.store]
  waiting := h.waiting
  clears := h.heldClears
  schedWaiting := h.schedWaiting
  owed := h.owed
  late := h.late
  phase := h.phase
  heldAnswer := h.heldAnswer

/-- A change of blocks that do not wait for the store. -/
theorem of_same (h : sameExcept [.table, .budget, .fridge, .lamps, .accounts, .plans, .bank, .vehicle, .leads, .clock] d e) :
    Still d e where
  inReset := same_inReset h
  settings := same_settings h
  jobs := by rw [same_store h]
  writing := by rw [same_store h]
  imageA := by rw [same_store h]
  imageB := by rw [same_store h]
  waiting := by rw [same_heater h]
  clears := by rw [same_heater h]
  schedWaiting := by rw [same_sched h]
  owed := by rw [same_sched h]
  late := by rw [same_sched h]
  phase := by rw [same_link h]
  heldAnswer := by rw [same_link h]

end Still

/-- Moves of records, plans and accounts keep a property that steady changes keep. -/
theorem Kept.of_steady {P : Device → Prop} (lift : ∀ {d e}, Steady d e → P d → P e) : Kept P where
  cap e := lift ((steady e).cap _ (.refl e))
  budget e x := lift ((steady e).budget _ x (.refl e))
  fridge e x hx := lift ((steady e).fridge _ x hx (.refl e))
  heater e x hd hw hh := lift ((steady e).heater _ x hd hw hh (.refl e))
  sched e p c l := lift ((steady e).sched _ p c l (.refl e))
  heat e := lift ((steady e).heat _ (.refl e))
  cool e := lift ((steady e).cool _ (.refl e))
  outlet e := lift ((steady e).outlet _ (.refl e))
  causes e s l := lift ((steady e).causes _ s l (.refl e))
  remap e h l := lift ((steady e).remap _ h l (.refl e))
  atRisk e h b := lift ((steady e).atRisk _ h b (.refl e))
  heaterFlag e := lift ((steady e).heaterFlag _ (.refl e))
  budgetFlag e := lift ((steady e).budgetFlag _ (.refl e))
  failure e x := lift ((steady e).failure _ x (.refl e))
  warningFlag e dr := lift ((steady e).warningFlag _ dr (.refl e))
  lamps e x := lift ((steady e).lamps _ x (.refl e))
  plans e x := lift ((steady e).plans _ x (.refl e))
  account e dr f ha := lift ((steady e).account _ dr f ha (.refl e))
  allCauses e x := lift ((steady e).allCauses _ x (.refl e))
  departing := departing_of_marks fun e q l => lift (steady_marks q l (.refl e))
  quietly := quietly_of_marks fun e q l => lift (steady_marks q l (.refl e))
  revise e h f := lift ((steady e).revise _ h f (.refl e))
  put e h r x hs := lift ((steady e).put _ h r x hs (.refl e))
  free e h r hl := lift ((steady e).free _ h r hl (.refl e))
  leave e h := lift ((steady e).leave _ h (.refl e))
  join e h := lift ((steady e).join _ h (.refl e))
  sequence e := lift ((steady e).sequence _ (.refl e))
  retired e st h fn w how := lift ((steady e).retired _ st h fn w how (.refl e))

theorem kept_still (d : Device) : Kept (Still d) := .of_steady fun s h => h.trans (.of_steady s)

theorem Kept.of_still {P : Device → Prop} (still : ∀ d e, Still d e → P d → P e) : Kept P :=
  .of_steady fun s => still _ _ (.of_steady s)

namespace Still

variable {d e : Device} (h : Still d e)
include h

theorem bank (x : Bank) : Still d { e with bank := x } := h.trans ⟨rfl, rfl, rfl, rfl, rfl, rfl, rfl, rfl, rfl, rfl, rfl, rfl, rfl⟩
theorem vehicle (x : Vehicle) : Still d { e with vehicle := x } :=
  h.trans ⟨rfl, rfl, rfl, rfl, rfl, rfl, rfl, rfl, rfl, rfl, rfl, rfl, rfl⟩
theorem leads (x : Leads) : Still d { e with leads := x } :=
  h.trans ⟨rfl, rfl, rfl, rfl, rfl, rfl, rfl, rfl, rfl, rfl, rfl, rfl, rfl⟩
theorem fridge (x : Fridge) : Still d { e with fridge := x } :=
  h.trans ⟨rfl, rfl, rfl, rfl, rfl, rfl, rfl, rfl, rfl, rfl, rfl, rfl, rfl⟩
theorem lamps (x : PerChannel Lamp) : Still d { e with lamps := x } :=
  h.trans ⟨rfl, rfl, rfl, rfl, rfl, rfl, rfl, rfl, rfl, rfl, rfl, rfl, rfl⟩
theorem account (dr : Driver) (f : Account → Account) : Still d (setAccount dr f e) :=
  h.trans ⟨rfl, rfl, rfl, rfl, rfl, rfl, rfl, rfl, rfl, rfl, rfl, rfl, rfl⟩
theorem table (x : Table) : Still d { e with table := x } :=
  h.trans ⟨rfl, rfl, rfl, rfl, rfl, rfl, rfl, rfl, rfl, rfl, rfl, rfl, rfl⟩
theorem stations (x : PerStation StationLink) : Still d { e with link := { e.link with stations := x } } :=
  h.trans ⟨rfl, rfl, rfl, rfl, rfl, rfl, rfl, rfl, rfl, rfl, rfl, rfl, rfl⟩

/-- The scheduler's state apart from its waits. -/
theorem sched (x : Sched) (hw : x.waiting = e.sched.waiting) (ho : x.owed = e.sched.owed) (hl : x.late = e.sched.late) :
    Still d { e with sched := x } :=
  h.trans ⟨rfl, rfl, rfl, rfl, rfl, rfl, rfl, rfl, hw, ho, hl, rfl, rfl⟩

theorem startCompressor : Still d (startCompressor e) := h.fridge _

theorem followCall : Still d (followCall e) := by
  unfold Machine.followCall
  dsimp only
  split
  · exact kept_ite (kept_after (fun _ x => x.startCompressor) (h.fridge _)) h
  · exact kept_ite h (h.fridge _)
  · exact kept_after (fun _ x => x.fridge _) h
  · exact h

theorem engineBecomes (run : Bool) : Still d (engineBecomes run e) :=
  kept_ite h ((kept_still d).recompute ((h.vehicle _).bank _))

theorem countSecond : Still d (countSecond e) :=
  h.trans ⟨rfl, rfl, rfl, rfl, rfl, rfl, rfl, rfl, rfl, rfl, rfl, rfl, rfl⟩

end Still

theorem quiet_still {d e : Device} (q : Quiet d e) : Still d e := by
  have k := kept_still d
  have r := Still.refl d
  cases q with
  | start h _ _ _ => exact k.beginRecord h r
  | retire h _ _ w => exact k.retireRecord h w _ r
  | sample v i => exact ⟨rfl, rfl, rfl, rfl, rfl, rfl, rfl, rfl, rfl, rfl, rfl, rfl, rfl⟩
  | integrate => exact r.bank _
  | anchor => exact kept_ite (r.bank _) r
  | voltage =>
    unfold voltageChange
    split
    · exact k.sendVoltage _ (k.formPermissions (k.recompute (r.bank _)))
    · exact r
  | marks => exact kept_ite (r.bank _) r
  | fridge raw =>
    exact kept_ite ((r.leads _).fridge _)
      (kept_ite (((r.leads _).fridge _).fridge _) (((r.leads _).fridge _).fridge _).followCall)
  | faultClear => exact kept_ite (r.fridge _).followCall r
  | blind => exact kept_ite (r.fridge _).followCall r
  | guard =>
    exact kept_ite (kept_ite (r.fridge _)
      (kept_ite (kept_after (fun _ x => x.startCompressor) (r.fridge _)) (r.fridge _))) r
  | fade => exact r.lamps _
  | sense t => exact ⟨rfl, rfl, rfl, rfl, rfl, rfl, rfl, rfl, rfl, rfl, rfl, rfl, rfl⟩
  | overCurrent c => exact kept_ite (k.setCauseAndRecompute _ _ (r.lamps _)) r
  | engineFrame id data => exact kept_ite (Still.engineBecomes (r.vehicle _) _) r
  | engineLost => exact kept_ite (r.engineBecomes _) r
  | activityFrame id data => exact kept_ite (k.whole.report _ _ (k.whole.report _ _ (r.vehicle _))) r
  | activityLost => exact kept_ite (k.whole.report _ _ (k.whole.report _ _ (r.vehicle _))) r
  | status => exact r.vehicle _
  | sent => exact r.vehicle _
  | failed => exact r.vehicle _
  | rejoin => exact r.vehicle _
  | accrue => exact Still.account (Still.account (k.units.accrue _ (k.units.accrue _ r)) _ _) _ _
  | settle dr => exact k.whole.settle dr r
  | incomplete dr => exact r.account _ _
  | dashRepeat dr => exact r.account _ _
  | dashEnd dr => exact r.account _ _
  | bunkEnd dr => exact r.account _ _
  | waking dr _ => exact k.whole.enterWaking dr r
  | due dr _ => exact k.whole.enterDue dr r
  | ramp dr =>
    unfold rampTick
    split
    · exact r
    · split
      · exact k.whole.handRamp _ _ _ r
      · exact r
    · exact r
  | call dr => exact k.whole.callOnset dr r
  | unanswered dr => exact k.whole.retirePlan dr _ r
  | begun => exact ⟨rfl, rfl, rfl, rfl, rfl, rfl, rfl, rfl, rfl, rfl, rfl, rfl, rfl⟩
  | clock =>
    have turned := kept_after (c := decide (d.clock.cs + 1 ≥ 100) = true) (fun _ x => Still.countSecond x) r
    exact turned.trans ⟨rfl, rfl, rfl, rfl, rfl, rfl, rfl, rfl, rfl, rfl, rfl, rfl, rfl⟩

theorem Kept.pushAll {P : Device → Prop} (k : Kept P) {d : Device} (h : P d) : P (pushAll d) :=
  foldl_kept (fun _ fn => k.pushValue fn) _ _ h

/-- Table and stations' sets as a RESTART leaves them first. -/
def cleared (d : Device) : Device :=
  { d with table := clearTable d.table, link := { d.link with stations := d.link.stations.map restartStation } }

/-- No exchange of the tables is asked for. -/
def noSwap (d : Device) : Device := setSched (fun s => { s with swapPending := false }) d

theorem restartDevice_eq (d : Device) : restartDevice d =
    withBudgetNotice (fun d => recomputeCore (setBudget (fun b => { b with position := 0 }) d))
      (noSwap (endPlan .two none .silent (endPlan .one none .silent (pushAll (cleared d))))) := rfl

theorem Kept.restartDevice {P : Device → Prop} (k : Kept P) {d : Device} (swap : ∀ e, P e → P (noSwap e))
    (h : P (cleared d)) : P (restartDevice d) := by
  rw [restartDevice_eq]
  have plans := swap _ (k.endPlan .two none .silent (k.endPlan .one none .silent (k.pushAll h)))
  exact k.settled.withBudgetNotice (k.settled.recomputeCore (k.settled.setBudget _ plans))

theorem Still.restartDevice {d : Device} : Still d (restartDevice d) :=
  (kept_still d).restartDevice (fun _ h => h.sched _ rfl rfl rfl)
    (((Still.refl d).table (clearTable d.table)).stations (d.link.stations.map restartStation))

theorem acts_still {st : Station} {d e : Device} (a : Acts st d e) : Still d e := by
  have k := kept_still d
  have r := Still.refl d
  cases a with
  | same => exact r
  | swap b => exact r.sched _ rfl rfl rfl
  | mark x => exact r.bank _
  | ack dr => exact k.whole.acknowledge dr r
  | create fn h b cls params flags free _ _ _ => exact k.created free r
  | amend h x b _ _ _ => exact k.amended st h x b r
  | retire h _ _ _ how _ => exact k.retireRecord h _ how r
  | restart => exact .restartDevice

end Sys2Proof.Machine
end

section
/-! PROOF. What holds through answers, boundaries and the rest of a write (`Resting`), and with it two parts of the books:
the store writes one image at a time (`StoreOk`), and blocks wait only for a write that is asked for (`WaitsOk`). -/

namespace Sys2Proof.Machine
open Sys2Proof

/-! ## Writes asked for -/

@[simp] theorem setImage_jobs (i : ImageId) (f : Image → Image) (s : Store) : (setImage i f s).jobs = s.jobs := by
  cases i <;> rfl

@[simp] theorem beginWrite_jobs (d : Device) : (beginWrite d).store.jobs = d.store.jobs := by
  unfold beginWrite
  split
  · exact setImage_jobs _ _ _
  · rfl

@[simp] theorem askWrite_jobs (c : Change) (k : Cont) (d : Device) :
    (askWrite c k d).store.jobs = d.store.jobs ++ [⟨c, k⟩] := beginWrite_jobs _

theorem beginWrite_eq (d : Device) : beginWrite d = { d with store := (beginWrite d).store } := by
  unfold beginWrite
  split
  · rfl
  · rfl

/-- A write that is asked for changes nothing but the store. -/
theorem askWrite_eq (c : Change) (k : Cont) (d : Device) :
    askWrite c k d = { d with store := (askWrite c k d).store } := by
  unfold askWrite
  rw [beginWrite_eq]

/-! ## What holds through answers, boundaries and the rest of a write -/

/-- The scheduler waits for no write and owes no boundary. -/
def freeSched (d : Device) : Device := setSched (fun s => { s with waiting := false, owed := none }) d

/-- `P` holds through every change that is still. -/
def StillKept (P : Device → Prop) : Prop := ∀ d e, Still d e → P d → P e

namespace Slots

variable {P : Device → Prop} (k : Slots P) {d : Device}
include k

/-- The scheduler waits no more. -/
theorem freed {x : Sched} (h : P (freeSched d)) (hx : x.outletOn = d.sched.outletOn) (hw : x.waiting = false)
    (ho : x.owed = none) (hl : x.late = d.sched.late) : P { d with sched := x } :=
  k.slots (freeSched d) x hx hw ho hl h

theorem openFirst (h : P (freeSched d)) : P (openFirst d) := k.openSlot (k.freed h rfl rfl rfl rfl)

theorem openFrame_free (w f x : Bool) (h : P (freeSched d)) : P (Machine.openFrame w f x d) := k.openFrame w f x (k.openFirst h)

theorem idleEnds (h : P (freeSched d)) : P (idleEnds d) := by
  unfold Machine.idleEnds
  split
  · exact k.openFrame_free _ _ _ h
  next ho => exact k.formPermissions (k.freed h rfl rfl ho rfl)

theorem boundaryWritten (f x : Bool)
    (owe : currentsPending d = true → P (setSched (fun s => { s with owed := some (f, x) }) d))
    (free : currentsPending d = false → P (freeSched d)) : P (boundaryWritten f x d) := by
  unfold Machine.boundaryWritten
  split
  next hc => exact owe hc
  next hc => exact k.openFrame_free _ _ _ (free (Bool.eq_false_iff.mpr hc))

/-- A frame boundary, from `P` before the swap or the new frame. -/
theorem frameBoundary {Q : Device → Prop} (f x : Bool) (swap : ∀ e, P e → Q (swapTables f x e))
    (frame : ∀ e, P e → Q (Machine.openFrame false false x e)) (h : P d) : Q (frameBoundary f x d) := by
  have h1 := k.takeLength (kept_after (c := (d.sched.swapPending && f) = true) k.frameWork h)
  exact kept_ite (swap _ h1) (frame _ h1)

/-- What the owning block does with a value that is written. -/
theorem changed (c : Change) (old : Settings) (current : (∃ w v, c = .num (.current w) v) → P (freeSched d))
    (capacity : ∀ v, c = .num .capacity v → P (if v.toNat = old.capacity then d else capacityChanged v.toNat d))
    (timers : P d → P { d with bank := { d.bank with timers := Debounce.zero } })
    (station : P d → ∀ st, P (stationChanged st d))
    (h : (¬ ∃ w v, c = .num (.current w) v) → (∀ v, c ≠ .num .capacity v) → P d) : P (changed c old d) := by
  by_cases hc : ∃ w v, c = .num (.current w) v
  · obtain ⟨w, v, rfl⟩ := hc
    exact k.recompute _ (k.idleEnds (current ⟨w, v, rfl⟩))
  by_cases hcap : ∃ v, c = .num .capacity v
  · obtain ⟨v, rfl⟩ := hcap
    exact capacity v rfl
  · replace h := h hc fun v e => hcap ⟨v, e⟩
    have ladder := k.ladder d h
    cases c with
    | num p v =>
      cases p with
      | capacity => exact absurd ⟨v, rfl⟩ hcap
      | threshold => exact timers h
      | current w => exact absurd ⟨w, v, rfl⟩ hc
      | horizon => exact k.recompute _ h
      | margin => exact k.recompute _ h
      | rest => exact k.evaluateBoth h
      | _ => exact h
    | shedOrder => exact ladder
    | protectedSet => exact ladder
    | floor => exact k.recompute _ h
    | window st => exact station h st
    | level st => exact station h st
    | _ => exact h

/-- What the owning block does, where `P` holds through still changes. -/
theorem changed_still (still : StillKept P) (c : Change) (old : Settings)
    (current : (∃ w v, c = .num (.current w) v) → P (freeSched d)) (h : (¬ ∃ w v, c = .num (.current w) v) → P d) :
    P (Machine.changed c old d) := by
  refine k.changed c old current (fun v e => ?_) (still _ _ ((Still.refl d).bank _))
    (fun h st => still _ _ ((Still.refl d).stations _) h) fun hc _ => h hc
  have h := h fun ⟨w, x, hx⟩ => by rw [e] at hx; cases hx
  exact kept_ite h (k.recompute _ (still _ _ ((Still.refl d).bank _) h))

end Slots

/-- `P` holds through moves of records, plans and accounts, through every write that the heater sequencer asks for and waits
for, and through answers sent and held. -/
structure Held (P : Device → Prop) : Prop extends Slots P where
  asked : ∀ d c n, c.isOwn = true → n.askedIn ≠ [] → P d → P (heaterWrite c n d)
  answer : ∀ d st ty code body, P d → P (answer st ty code body d)
  hold : ∀ d st a, d.heater.waiting = true → P d →
    P (setLink (fun l => { l with phase := .serving st, heldAnswer := some a }) d)
  holdClear : ∀ d st, P d → P (holdMsg (.clear st) d)
  accepted : ∀ d, P d → P { d with store := { d.store with defaulted := false } }

theorem Held.of_still {P : Device → Prop} (still : StillKept P)
    (asked : ∀ d c n, c.isOwn = true → n.askedIn ≠ [] → P d → P (heaterWrite c n d))
    (answer : ∀ d st ty code body, P d → P (Machine.answer st ty code body d))
    (hold : ∀ d st a, d.heater.waiting = true → P d →
      P (setLink (fun l => { l with phase := .serving st, heldAnswer := some a }) d))
    (holdClear : ∀ d st, P d → P (holdMsg (.clear st) d))
    (accepted : ∀ d, P d → P { d with store := { d.store with defaulted := false } }) : Held P where
  toWhole := (Kept.of_still still).whole
  slots d x _ hw ho hl := still _ _ ((Still.refl d).sched x hw ho hl)
  asked := asked
  answer := answer
  hold := hold
  holdClear := holdClear
  accepted := accepted

/-- `P` holds, too, through the moves of the slot scheduler. -/
structure Resting (P : Device → Prop) : Prop extends Held P where
  unwait : ∀ d, P d → P (freeSched d)
  swap : ∀ d a b, P d → P (swapTables a b d)
  owe : ∀ d o, P d → P (setSched (fun s => { s with owed := o }) d)

namespace Held

variable {P : Device → Prop} (k : Held P) {d : Device}
include k

theorem work : Work P where
  toSlots := k.toSlots
  write d c n ho ha _ _ h := k.asked d c n ho ha h

theorem answerAfter (old : Device) (st : Station) (ty : Byte) (code : AnswerCode) (spec : AnswerSpec) (h : P d) :
    P (answerAfter old st ty code spec d) := by
  unfold Machine.answerAfter
  split
  next hw => exact k.hold d st _ (Bool.and_eq_true_iff.mp hw).1 h
  · exact k.answer _ _ _ _ _ h

theorem releaseAnswer (h : P d) : P (releaseAnswer d) := by
  unfold Machine.releaseAnswer
  split
  · exact kept_ite h (k.answer _ _ _ _ _ h)
  · exact h

theorem clearLockout (st : Station) (h : P d) : P (clearLockout st d) :=
  kept_ite (k.asked _ _ _ rfl nofun h) (k.answer _ _ _ _ _ h)

theorem heaterTake (m : HeaterMsg) (h : P d) : P (heaterTake d m) := by
  cases m with
  | clear st => exact kept_ite (k.holdClear d st h) (k.clearLockout st h)
  | _ => exact k.work.heaterTake rfl h

theorem lockoutCleared (st : Station) (h : P d) : P (lockoutCleared st d) :=
  k.answerAfter _ _ _ _ _ (k.seeDemand (k.setCauseAndRecompute (fun _ => ⟨rfl, rfl⟩)
    (k.setHeater _ (k.setHeat _ rfl rfl rfl h))))

/-- The sequencer goes on after a write. -/
theorem heaterResume {f : Device → Device} (hf : ∀ d, d.heater.waiting = false → P d → P (f d))
    (h : P (setHeat (fun h => { h with waiting := false, held := [] }) d)) : P (heaterResume f d) :=
  foldl_kept (fun _ m => k.heaterTake m) _ _ (hf _ rfl h)

/-- A request that has been served. -/
theorem replies {st : Station} {e : Device} (acts : ∀ e, Acts st d e → P e)
    (write : ∀ c ty code spec, PlainChange d c → P (askWrite c (.answer st ty code spec) d))
    (current : ∀ w v ty code spec, P (askWrite (.num (.current w) v) (.answer st ty code spec) (keepIdle d)))
    (r : Replies st d e) : P e := by
  cases r with
  | answer e ty code body a => exact k.answer _ _ _ _ _ (acts e a)
  | after e ty code spec a => exact k.answerAfter _ _ _ _ _ (acts e a)
  | write c ty code spec plain => exact write c ty code spec plain
  | current w v ty code spec => exact current w v ty code spec
  | clear => exact k.heaterTake _ (acts d .same)

/-- The block or request that waited goes on: a heater's wait ends first, and a frame boundary is taken apart. -/
theorem goOn (n : Cont) (old : Device)
    (resume : n.askedIn ≠ [] → P (setHeat (fun h => { h with waiting := false, held := [] }) d))
    (boundary : ∀ f x, n = .boundary f x → P (Machine.boundaryWritten f x d))
    (h : n.askedIn = [] → (∀ f x, n ≠ .boundary f x) → P d) : P (goOn n old d) := by
  cases n with
  | answer st ty code spec => exact k.answerAfter _ _ _ _ _ (k.accepted d (h rfl nofun))
  | ignite => exact k.heaterResume (fun _ _ => k.fuelOn) (resume nofun)
  | overheat => exact k.heaterResume (fun _ _ => k.overheatWritten) (resume nofun)
  | attemptFailed => exact k.heaterResume (fun _ _ => k.purgeFailed) (resume nofun)
  | purgeHot => exact k.heaterResume (fun _ => k.work.hotWritten) (resume nofun)
  | purgeEnd n => exact k.heaterResume (fun _ _ => k.purgeWritten n) (resume nofun)
  | lockoutCleared st => exact k.heaterResume (fun _ _ => k.lockoutCleared st) (resume nofun)
  | boundary f x => exact boundary f x rfl
  | nothing => exact h rfl nofun

end Held

namespace Resting

variable {P : Device → Prop} (k : Resting P) {d : Device}
include k

theorem frameBoundary (f x : Bool) (h : P d) : P (frameBoundary f x d) :=
  k.toHeld.frameBoundary f x (fun e => k.swap e f x) (fun e he => k.toHeld.openFrame_free _ _ _ (k.unwait e he)) h

/-- A slot boundary, where one that has to wait is no exception. -/
theorem slotBoundary (f x : Bool) (late : P (setSched (fun s => { s with late := s.late ++ [(f, x)] }) d)) (h : P d) :
    P (slotBoundary f x d) := kept_ite late (kept_ite (k.toHeld.slotWithin h) (k.frameBoundary f x h))

theorem changed (still : StillKept P) (c : Change) (old : Settings) (h : P d) : P (changed c old d) :=
  k.toHeld.changed_still still c old (fun _ => k.unwait d h) fun _ => h

theorem goOn (n : Cont) (old : Device)
    (resume : n.askedIn ≠ [] → P (setHeat (fun h => { h with waiting := false, held := [] }) d))
    (h : n.askedIn = [] → P d) : P (goOn n old d) :=
  k.toHeld.goOn n old resume
    (fun f x e => k.toHeld.boundaryWritten f x (fun _ => k.owe d _ (h (e ▸ rfl))) fun _ => k.unwait d (h (e ▸ rfl)))
    fun e _ => h e

end Resting

/-! ## The store writes one image at a time -/

/-- A write is in progress only while one is asked for, and the image being written fails its check. -/
def OneWrite (x : Store) : Prop :=
  (x.writing ≠ none → x.jobs ≠ []) ∧ (x.writing = some .a → x.a.valid = false) ∧
  (x.writing = some .b → x.b.valid = false)

theorem storeOk_iff (d : Device) : StoreOk d ↔ OneWrite d.store ∧ (d.store.writing = none → d.store.jobs = []) := by
  unfold StoreOk OneWrite
  constructor
  · rintro ⟨hw, ha, hb⟩
    exact ⟨⟨fun h => mt hw.mpr h, ha, hb⟩, hw.mp⟩
  · rintro ⟨⟨hj, ha, hb⟩, hw⟩
    exact ⟨⟨hw, fun h => by_contra fun hn => hj hn h⟩, ha, hb⟩

/-- Once the write at the head of the queue has begun, a write is in progress where one is asked for. -/
theorem storeOk_beginWrite {d : Device} (h : OneWrite d.store) : StoreOk (beginWrite d) := by
  rw [storeOk_iff]
  obtain ⟨hj, ha, hb⟩ := h
  unfold beginWrite
  split
  next j js hw hjobs =>
    have jobs : ∀ i f, (setImage i f d.store).jobs ≠ [] := fun i f => by rw [setImage_jobs, hjobs]; nofun
    refine ⟨⟨fun _ => jobs _ _, fun hi => ?_, fun hi => ?_⟩, nofun⟩
    · dsimp only at hi ⊢
      rw [Option.some.inj hi]; rfl
    · dsimp only at hi ⊢
      rw [Option.some.inj hi]; rfl
  next hn =>
    refine ⟨⟨hj, ha, hb⟩, fun hw => ?_⟩
    cases hx : d.store.jobs with
    | nil => rfl
    | cons j js => exact absurd hx (hn j js hw)

theorem storeOk_askWrite {d : Device} (c : Change) (n : Cont) (h : OneWrite d.store) : StoreOk (askWrite c n d) := by
  obtain ⟨-, ha, hb⟩ := h
  exact storeOk_beginWrite ⟨fun _ => by simp, ha, hb⟩

theorem oneWrite_askWrite {d : Device} (c : Change) (n : Cont) (h : OneWrite d.store) : OneWrite (askWrite c n d).store :=
  ((storeOk_iff _).mp (storeOk_askWrite c n h)).1

theorem still_oneWrite : StillKept fun d => OneWrite d.store := fun d e s h => by
  unfold OneWrite at h ⊢
  dsimp only at h ⊢
  rw [s.writing, s.jobs, s.imageA, s.imageB]
  exact h

theorem still_storeOk : StillKept StoreOk := fun d e s h => by
  unfold StoreOk
  rw [s.writing, s.jobs, s.imageA, s.imageB]
  exact h

theorem resting_oneWrite : Resting fun d => OneWrite d.store where
  toWhole := (Kept.of_still still_oneWrite).whole
  slots _ _ _ _ _ _ h := h
  asked d c n _ _ h := oneWrite_askWrite (d := setHeat (fun h => { h with waiting := true }) d) c n h
  answer _ _ _ _ _ h := h
  hold _ _ _ _ h := h
  holdClear _ _ h := h
  unwait _ h := h
  swap d _ _ h := by unfold swapTables; exact oneWrite_askWrite _ _ h
  owe _ _ h := h
  accepted _ h := h

theorem resting_storeOk : Resting StoreOk where
  toWhole := (Kept.of_still still_storeOk).whole
  slots _ _ _ _ _ _ h := h
  asked d c n _ _ h :=
    storeOk_askWrite (d := setHeat (fun h => { h with waiting := true }) d) c n ((storeOk_iff d).mp h).1
  answer _ _ _ _ _ h := h
  hold _ _ _ _ h := h
  holdClear _ _ h := h
  unwait _ h := h
  swap d _ _ h := by unfold swapTables; exact storeOk_askWrite _ _ ((storeOk_iff d).mp h).1
  owe _ _ h := h
  accepted _ h := h

/-- The boundaries that came during a wait are taken in their order. -/
theorem takeLate_kept {P : Device → Prop} {d : Device} (slot : ∀ d a b, P d → P (slotBoundary a b d))
    (h : P (setSched (fun s => { s with late := [] }) d)) : P (takeLate d) :=
  foldl_kept (fun d (b : Bool × Bool) => slot d b.1 b.2) d.sched.late _ h

/-- The part as a write's completion leaves it before what waited goes on. -/
def written (i : ImageId) (j : Job) (rest : List Job) (d : Device) : Device :=
  { d with
    store := { setImage i (fun im => { im with valid := true }) d.store with jobs := rest, writing := none, ticks := 0 }
    settings := applyChange j.change d.settings }

/-- The part as the rest of a completed write leaves it, before late boundaries are taken. -/
def resumed (i : ImageId) (j : Job) (rest : List Job) (d : Device) : Device :=
  releaseAnswer (goOn j.cont (written i j rest d) (changed j.change d.settings (written i j rest d)))

theorem completeWrite_eq {d : Device} {i : ImageId} {j : Job} {rest : List Job} (hw : d.store.writing = some i)
    (hj : d.store.jobs = j :: rest) :
    completeWrite d = beginWrite (if d.sched.waiting then takeLate (resumed i j rest d) else resumed i j rest d) := by
  unfold completeWrite
  rw [hw, hj]
  rfl

/-- What holds once a write is complete. -/
theorem completeWrite_kept {P : Device → Prop} {d : Device} (idle : P d)
    (done : ∀ i j rest, d.store.writing = some i → d.store.jobs = j :: rest →
      P (beginWrite (if d.sched.waiting then takeLate (resumed i j rest d) else resumed i j rest d))) :
    P (completeWrite d) := by
  cases hw : d.store.writing with
  | none => unfold completeWrite; rw [hw]; exact idle
  | some i =>
    cases hj : d.store.jobs with
    | nil => unfold completeWrite; rw [hw, hj]; exact idle
    | cons j rest => rw [completeWrite_eq hw hj]; exact done i j rest hw hj

theorem storeOk_completeWrite {d : Device} (h : StoreOk d) : StoreOk (completeWrite d) := by
  refine completeWrite_kept h fun i j rest _ _ => storeOk_beginWrite ?_
  have k := resting_oneWrite
  have h0 : OneWrite (written i j rest d).store := ⟨fun h => absurd rfl h, nofun, nofun⟩
  have h1 := k.changed still_oneWrite j.change d.settings h0
  have h2 : OneWrite (resumed i j rest d).store := k.toHeld.releaseAnswer (k.goOn j.cont _ (fun _ => h1) fun _ => h1)
  split
  · exact takeLate_kept (P := fun d => OneWrite d.store) (fun d a b h => k.slotBoundary a b h h) h2
  · exact h2

/-! ## Blocks wait only for a write that is asked for -/

/-- A block waits only for a write that is asked for, and an answer is held only while the port serves a station and the
heater sequencer waits; each but for an excuse, which holds in the rest of a write. -/
def Waits (heat sched held : Prop) (d : Device) : Prop :=
  (d.heater.waiting = true → heat ∨ ∃ j ∈ d.store.jobs, j.ofHeater = true) ∧
  (d.sched.waiting = true → sched ∨ ∃ j ∈ d.store.jobs, j.ofSched = true) ∧
  (d.link.heldAnswer.isSome = true → (∃ st, d.link.phase = .serving st) ∧ (held ∨ d.heater.waiting = true))

/-- A slot boundary is late only while the scheduler waits. -/
def LateWaits (d : Device) : Prop := d.sched.late ≠ [] → d.sched.waiting = true

theorem waitsOk_iff (d : Device) : WaitsOk d ↔ (d.inReset = false → LateWaits d ∧ Waits False False False d) := by
  simp only [WaitsOk, LateWaits, Waits, false_or]

theorem ofHeater_iff (c : Change) (n : Cont) : (⟨c, n⟩ : Job).ofHeater = true ↔ n.askedIn ≠ [] := by
  simp [Job.ofHeater]

/-- A further write that is asked for leaves the writes that blocks wait for. -/
theorem mem_askWrite {c : Change} {n : Cont} {d : Device} {t : Job → Bool} (h : ∃ j ∈ d.store.jobs, t j = true) :
    ∃ j ∈ (askWrite c n d).store.jobs, t j = true := by
  obtain ⟨j, hj, ht⟩ := h
  exact ⟨j, by rw [askWrite_jobs]; exact List.mem_append_left _ hj, ht⟩

theorem mem_askWrite_self {c : Change} {n : Cont} {d : Device} {t : Job → Bool} (h : t ⟨c, n⟩ = true) :
    ∃ j ∈ (askWrite c n d).store.jobs, t j = true :=
  ⟨⟨c, n⟩, by rw [askWrite_jobs]; exact List.mem_append_right _ (List.mem_singleton.mpr rfl), h⟩

theorem waits_askWrite {H S M : Prop} {c : Change} {n : Cont} {d : Device}
    (hheater : d.heater.waiting = true → (H ∨ ∃ j ∈ d.store.jobs, j.ofHeater = true) ∨ n.askedIn ≠ [])
    (hsched : d.sched.waiting = true → (S ∨ ∃ j ∈ d.store.jobs, j.ofSched = true) ∨ (⟨c, n⟩ : Job).ofSched = true)
    (hheld : d.link.heldAnswer.isSome = true → (∃ st, d.link.phase = .serving st) ∧ (M ∨ d.heater.waiting = true)) :
    Waits H S M (askWrite c n d) := by
  refine ⟨fun hw => ?_, fun hw => ?_, ?_⟩
  · rw [askWrite_eq] at hw
    rcases hheater hw with (he | hj) | hn
    · exact .inl he
    · exact .inr (mem_askWrite hj)
    · exact .inr (mem_askWrite_self ((ofHeater_iff _ _).mpr hn))
  · rw [askWrite_eq] at hw
    rcases hsched hw with (he | hj) | hn
    · exact .inl he
    · exact .inr (mem_askWrite hj)
    · exact .inr (mem_askWrite_self hn)
  · rw [askWrite_eq]
    exact hheld

theorem still_waits (H S M : Prop) : StillKept (Waits H S M) := fun d e s h => by
  unfold Waits
  rw [s.waiting, s.jobs, s.schedWaiting, s.heldAnswer, s.phase]
  exact h

theorem resting_waits (H S M : Prop) : Resting (Waits H S M) where
  toWhole := (Kept.of_still (still_waits H S M)).whole
  slots d x _ hw ho hl h := still_waits H S M _ _ ((Still.refl d).sched x hw ho hl) h
  asked d c n _ hn h := by
    obtain ⟨-, hs, hh⟩ := h
    exact waits_askWrite (fun _ => .inr hn) (fun hw => .inl (hs hw)) fun hw => ⟨(hh hw).1, .inr rfl⟩
  answer d st ty code body h := by
    obtain ⟨hw, hs, -⟩ := h
    exact ⟨hw, hs, nofun⟩
  hold d st a hb h := by
    obtain ⟨hw, hs, -⟩ := h
    exact ⟨hw, hs, fun _ => ⟨⟨st, rfl⟩, .inr hb⟩⟩
  holdClear _ _ h := h
  accepted _ h := h
  unwait d h := by
    obtain ⟨hw, -, hh⟩ := h
    exact ⟨hw, nofun, hh⟩
  swap d a b h := by
    obtain ⟨hw, -, hh⟩ := h
    unfold swapTables
    exact waits_askWrite (fun h => .inl (hw h)) (fun _ => .inr rfl) hh
  owe _ _ h := h

theorem still_late (l : List (Bool × Bool)) : StillKept fun d => d.sched.late = l := fun _ _ s h => s.late.trans h

theorem resting_late (l : List (Bool × Bool)) : Resting fun d => d.sched.late = l where
  toWhole := (Kept.of_still (still_late l)).whole
  slots _ _ _ _ _ hl h := hl.trans h
  asked d c n _ _ h := by rw [heaterWrite, askWrite_eq]; exact h
  answer _ _ _ _ _ h := h
  hold _ _ _ _ h := h
  holdClear _ _ h := h
  accepted _ h := h
  unwait _ h := h
  swap d a b h := by rw [swapTables, askWrite_eq]; exact h
  owe _ _ h := h

theorem still_lateWaits : StillKept LateWaits := fun d e s h => by
  unfold LateWaits
  rw [s.late, s.schedWaiting]
  exact h

theorem held_lateWaits : Held LateWaits where
  toWhole := (Kept.of_still still_lateWaits).whole
  slots d x _ hw ho hl h := still_lateWaits _ _ ((Still.refl d).sched x hw ho hl) h
  asked d c n _ _ h := by rw [heaterWrite, askWrite_eq]; exact h
  answer _ _ _ _ _ h := h
  hold _ _ _ _ h := h
  holdClear _ _ h := h
  accepted _ h := h

theorem lateWaits_slotBoundary {d : Device} (a b : Bool) (h : LateWaits d) : LateWaits (slotBoundary a b d) := by
  by_cases hw : d.sched.waiting = true
  · unfold slotBoundary
    rw [if_pos hw]
    exact fun _ => hw
  · have none : d.sched.late = [] := by_contra fun hl => hw (h hl)
    have late : (slotBoundary a b d).sched.late = [] := by
      unfold slotBoundary
      rw [if_neg hw]
      exact kept_ite (P := fun d => d.sched.late = []) ((resting_late []).toHeld.slotWithin none) ((resting_late []).frameBoundary a b none)
    exact fun hl => absurd late hl

/-- With the rest of the write done and a held answer released, answers are held only while the heater waits. -/
theorem waits_releaseAnswer {H S : Prop} {d : Device} (h : Waits H S True d) : Waits H S False (releaseAnswer d) := by
  obtain ⟨hw, hs, hh⟩ := h
  unfold releaseAnswer
  split
  next a ha =>
    split
    next hb => exact ⟨hw, hs, fun hi => ⟨(hh hi).1, .inr hb⟩⟩
    · exact ⟨hw, hs, nofun⟩
  next ha => exact ⟨hw, hs, fun hi => by rw [ha] at hi; cases hi⟩

theorem currentsPending_iff (d : Device) : currentsPending d = true ↔ ∃ j ∈ d.store.jobs, j.ofCurrent = true := by
  unfold currentsPending
  rw [List.any_eq_true]
  rfl

theorem ofCurrent_iff (j : Job) : j.ofCurrent = true ↔ ∃ w v, j.change = .num (.current w) v := by
  unfold Job.ofCurrent
  split
  next w v h => exact ⟨fun _ => ⟨w, v, h⟩, fun _ => rfl⟩
  next hn => exact ⟨nofun, fun ⟨w, v, h⟩ => absurd h (hn w v)⟩

theorem isBoundary_iff (j : Job) : j.isBoundary = true ↔ ∃ f x, j.cont = .boundary f x := by
  unfold Job.isBoundary
  split
  next f x h => exact ⟨fun _ => ⟨f, x, h⟩, fun _ => rfl⟩
  next hn => exact ⟨nofun, fun ⟨f, x, h⟩ => absurd h (hn f x)⟩

/-- The head of the queue waits no more once its write is complete, and what is left in the queue is waited for. -/
theorem waits_written {d : Device} (i : ImageId) {j : Job} {rest : List Job} (hj : d.store.jobs = j :: rest)
    (h : Waits False False False d) : Waits (j.ofHeater = true) (j.ofSched = true) True (written i j rest d) := by
  obtain ⟨hw, hs, hh⟩ := h
  rw [hj] at hw hs
  refine ⟨fun h => ?_, fun h => ?_, fun h => ⟨(hh h).1, .inl trivial⟩⟩
  · obtain ⟨x, hx, hp⟩ := (hw h).resolve_left id
    rcases List.mem_cons.mp hx with rfl | hx
    · exact .inl hp
    · exact .inr ⟨x, hx, hp⟩
  · obtain ⟨x, hx, hp⟩ := (hs h).resolve_left id
    rcases List.mem_cons.mp hx with rfl | hx
    · exact .inl hp
    · exact .inr ⟨x, hx, hp⟩

theorem waits_resumed {d : Device} (i : ImageId) {j : Job} {rest : List Job} (hj : d.store.jobs = j :: rest)
    (h : Waits False False False d) : Waits False False False (resumed i j rest d) := by
  have h0 := waits_written i hj h
  have afterChange : Waits (j.ofHeater = true) (j.isBoundary = true) True
      (changed j.change d.settings (written i j rest d)) := by
    obtain ⟨hw, hs, hh⟩ := h0
    refine (resting_waits _ _ _).toHeld.changed_still (still_waits _ _ _) _ _ (fun _ => ⟨hw, nofun, hh⟩) fun hc => ⟨hw, fun x => ?_, hh⟩
    refine (hs x).imp_left fun ho => ?_
    rw [Job.ofSched, Bool.or_eq_true] at ho
    exact ho.resolve_right fun h => hc ((ofCurrent_iff j).mp h)
  refine waits_releaseAnswer ?_
  obtain ⟨hw, hs, hh⟩ := afterChange
  have k := (resting_waits False False True).toHeld
  have heat : j.cont.askedIn = [] → ¬ j.ofHeater = true := fun hn => by simp [Job.ofHeater, hn]
  refine k.goOn _ _ (fun hn => ⟨nofun, fun x => ?_, fun y => ⟨(hh y).1, .inl trivial⟩⟩) (fun f x e => ?_)
    fun hn hb => ⟨fun x => (hw x).imp_left (heat hn), fun x => (hs x).imp_left fun ho => ?_, hh⟩
  · refine (hs x).imp_left fun ho => ?_
    obtain ⟨f, y, e⟩ := (isBoundary_iff j).mp ho
    exact hn (by rw [e]; rfl)
  · have heat := heat (by rw [e]; rfl)
    refine k.boundaryWritten f x (fun hp => ⟨fun x => (hw x).imp_left heat, fun _ => .inr ?_, hh⟩)
      fun _ => ⟨fun x => (hw x).imp_left heat, nofun, hh⟩
    obtain ⟨y, hy, hc⟩ := (currentsPending_iff _).mp hp
    exact ⟨y, hy, by rw [Job.ofSched, hc, Bool.or_true]⟩
  · obtain ⟨f, y, e⟩ := (isBoundary_iff j).mp ho
    exact hb f y e

/-! ## Moves -/

theorem waits_beginWrite {d : Device} (h : Waits False False False d) : Waits False False False (beginWrite d) := by
  rw [beginWrite_eq, Waits]
  rw [beginWrite_jobs]
  exact h

theorem lateWaits_completeWrite {d : Device} (h : LateWaits d) : LateWaits (completeWrite d) := by
  refine completeWrite_kept h fun i j rest _ _ => ?_
  rw [LateWaits, beginWrite_eq]
  split
  · exact takeLate_kept (P := LateWaits) (fun d a b => lateWaits_slotBoundary a b) fun hl => absurd rfl hl
  next hw =>
    have none : d.sched.late = [] := by_contra fun hl => hw (h hl)
    have k := resting_late []
    have late : (resumed i j rest d).sched.late = [] :=
      k.toHeld.releaseAnswer (k.goOn _ _ (fun _ => k.changed (still_late []) _ _ none) fun _ => k.changed (still_late []) _ _ none)
    exact fun hl => absurd late hl

theorem waits_completeWrite {d : Device} (h : Waits False False False d) : Waits False False False (completeWrite d) := by
  refine completeWrite_kept h fun i j rest _ hj => waits_beginWrite ?_
  have h1 := waits_resumed i hj h
  exact kept_ite (takeLate_kept (fun d a b hd => (resting_waits _ _ _).slotBoundary a b hd hd) h1) h1

/-! ### Polls -/

/-- What holds through the poll of a station and through its skip count holds through a visit. -/
theorem visit_kept {P : Device → Prop} (poll : ∀ st d, P d → P (pollStation st d))
    (skip : ∀ st (n : StationLink → Nat) d, P d → P (updateStation st (fun p => { p with skip := n p }) d)) :
    ∀ (l : List Station) (d : Device), P d → P (visit l d).2
  | [], _, h => h
  | st :: rest, d, h => by
    unfold visit
    dsimp only
    split
    · exact poll _ _ h
    · exact visit_kept poll skip rest d h
    · split
      · exact poll _ _ (skip st (fun _ => Config.skipReload) d h)
      · exact visit_kept poll skip rest _ (skip st (fun p => p.skip - 1) d h)

theorem sendPoll_kept {P : Device → Prop} {d : Device} (poll : ∀ st d, P d → P (pollStation st d))
    (skip : ∀ st (n : StationLink → Nat) d, P d → P (updateStation st (fun p => { p with skip := n p }) d))
    (cycle : ∀ d, P d → P (beginCycle d)) (pause : ∀ d, P d → P (enterPause d))
    (h : P d) : P (sendPoll d) := by
  have v := visit_kept poll skip
  have next : P (nextPoll d) := by
    unfold nextPoll
    dsimp only
    split
    next e he => have := v (Station.all.filter fun st => d.link.pos ≤ stationAddress st) d h; rw [he] at this; exact this
    next e he =>
      have h1 : P e := by have := v (Station.all.filter fun st => d.link.pos ≤ stationAddress st) d h; rw [he] at this; exact this
      split
      · split
        next f hf => have := v Station.all _ (cycle e h1); rw [hf] at this; exact this
        next f hf => have := v Station.all _ (cycle e h1); rw [hf] at this; exact pause f this
      · exact pause e h1
  exact kept_ite next h

/-- From one state to the other only the link changes, and a held answer stays; nothing does while a station is served. -/
def PollsOn (d e : Device) : Prop :=
  (∃ l, e = { d with link := l } ∧ l.heldAnswer = d.link.heldAnswer) ∧ (∀ st, d.link.phase = .serving st → e = d)

theorem pollsOn_refl (d : Device) : PollsOn d d := ⟨⟨d.link, rfl, rfl⟩, fun _ _ => rfl⟩

theorem pollsOn_sendPoll (d : Device) : PollsOn d (sendPoll d) := by
  refine ⟨?_, fun st hs => ?_⟩
  · have only : ∀ e f : Device, (∃ l, f = { e with link := l } ∧ l.heldAnswer = e.link.heldAnswer) →
        (∃ l, e = { d with link := l } ∧ l.heldAnswer = d.link.heldAnswer) →
        ∃ l, f = { d with link := l } ∧ l.heldAnswer = d.link.heldAnswer := by
      rintro e f ⟨l, rfl, hl⟩ ⟨x, rfl, hx⟩
      exact ⟨l, rfl, hl.trans hx⟩
    exact sendPoll_kept (fun st e => only e _ ⟨_, rfl, rfl⟩) (fun st n e => only e _ ⟨_, rfl, rfl⟩)
      (fun e => only e _ ⟨_, rfl, rfl⟩) (fun e => only e _ ⟨_, rfl, rfl⟩) ⟨d.link, rfl, rfl⟩
  · unfold sendPoll
    rw [hs, if_neg nofun]

theorem pollsOn_endPause (d : Device) : PollsOn d (endPause d) :=
  ⟨kept_ite (P := fun e => ∃ l, e = { d with link := l } ∧ l.heldAnswer = d.link.heldAnswer) ⟨_, rfl, rfl⟩ ⟨d.link, rfl, rfl⟩,
    fun st hs => by unfold endPause; rw [hs, if_neg nofun]⟩

theorem pollsOn_takeIdle (d : Device) : PollsOn d (takeIdle d) := by
  unfold takeIdle
  split
  next st c hp => exact ⟨⟨_, rfl, rfl⟩, fun st hs => by rw [hp] at hs; cases hs⟩
  · exact pollsOn_refl d

theorem pollsOn_takeMiss (d : Device) : PollsOn d (takeMiss d) := by
  unfold takeMiss
  split
  next st c hp => exact ⟨⟨_, rfl, rfl⟩, fun st hs => by rw [hp] at hs; cases hs⟩
  · exact pollsOn_refl d

/-- Where a held answer is held only while a station is served, a poll's moves leave the waits. -/
theorem waits_pollsOn {d e : Device} (p : PollsOn d e) (h : Waits False False False d) : Waits False False False e := by
  obtain ⟨⟨l, rfl, hl⟩, hs⟩ := p
  obtain ⟨hw, hsched, hh⟩ := h
  refine ⟨hw, hsched, fun ha => ?_⟩
  have ha : d.link.heldAnswer.isSome = true := hl ▸ ha
  obtain ⟨⟨st, hst⟩, hb⟩ := hh ha
  have : l = d.link := congrArg Device.link (hs st hst)
  exact ⟨⟨st, this ▸ hst⟩, hb⟩

/-! ### Requests -/

/-- No answer is held while a reply is awaited. -/
theorem waits_opened {d : Device} {st x : Station} {c : Bool} (hp : d.link.phase = .awaiting x c)
    (h : Waits False False False d) : Waits False False False (opened st d) := by
  obtain ⟨hw, hs, hh⟩ := h
  refine ⟨hw, hs, fun ha => ?_⟩
  obtain ⟨⟨y, hy⟩, -⟩ := hh ha
  rw [hp] at hy
  cases hy

theorem waits_replies {d e : Device} {st : Station} (r : Replies st d e) (h : Waits False False False d) :
    Waits False False False e := by
  refine (resting_waits _ _ _).toHeld.replies (fun e a => still_waits _ _ _ _ _ (acts_still a) h)
    (fun c ty code spec _ => ?_) (fun w v ty code spec => ?_) r
  · obtain ⟨hw, hs, hh⟩ := h
    exact waits_askWrite (fun x => .inl (hw x)) (fun x => .inl (hs x)) hh
  · obtain ⟨hw, hs, hh⟩ := h
    exact waits_askWrite (fun x => .inl (hw x)) (fun _ => .inr (Bool.or_true _)) hh

theorem storeOk_replies {d e : Device} {st : Station} (r : Replies st d e) (h : StoreOk d) : StoreOk e :=
  resting_storeOk.toHeld.replies (fun e a => still_storeOk _ _ (acts_still a) h) (fun _ _ _ _ _ => storeOk_askWrite _ _ ((storeOk_iff _).mp h).1)
    (fun _ _ _ _ _ => storeOk_askWrite (d := keepIdle d) _ _ ((storeOk_iff d).mp h).1) r

theorem lateWaits_replies {d e : Device} {st : Station} (r : Replies st d e) (h : LateWaits d) : LateWaits e := by
  refine held_lateWaits.replies (fun e a => still_lateWaits _ _ (acts_still a) h)
    (fun c ty code spec _ => ?_) (fun w v ty code spec => ?_) r
  · rw [LateWaits, askWrite_eq]; exact h
  · rw [LateWaits, askWrite_eq]; exact fun _ => rfl

/-! ### Every move keeps the store's order and what waits for it -/

theorem storeOk_pollsOn {d e : Device} (p : PollsOn d e) (h : StoreOk d) : StoreOk e := by
  obtain ⟨⟨l, rfl, -⟩, -⟩ := p; exact h

theorem lateWaits_pollsOn {d e : Device} (p : PollsOn d e) (h : LateWaits d) : LateWaits e := by
  obtain ⟨⟨l, rfl, -⟩, -⟩ := p; exact h

theorem storeOk_move {d e : Device} (m : Move d e) (h : StoreOk d) : StoreOk e := by
  have k := resting_storeOk
  cases m with
  | same => exact h
  | reset => exact ⟨⟨fun _ => rfl, fun _ => rfl⟩, nofun, nofun⟩
  | quiet e _ q => exact still_storeOk _ _ (quiet_still q) h
  | poll => exact storeOk_pollsOn (pollsOn_sendPoll d) h
  | pauseEnd => exact storeOk_pollsOn (pollsOn_endPause d) h
  | idle => exact storeOk_pollsOn (pollsOn_takeIdle d) h
  | miss => exact storeOk_pollsOn (pollsOn_takeMiss d) h
  | serve st c e _ _ r => exact storeOk_replies r h
  | reading a b _ => exact k.toHeld.heaterTake _ (still_storeOk _ _ ((Still.refl d).leads _) h)
  | timer t _ => exact k.toHeld.heaterTake _ h
  | slot a b _ => exact k.slotBoundary a b h h
  | complete _ => exact storeOk_completeWrite h

theorem waitsOk_of_live {d : Device} (hr : d.inReset = false) (h : WaitsOk d) : LateWaits d ∧ Waits False False False d :=
  (waitsOk_iff d).mp h hr

theorem waitsOk_move {d e : Device} (m : Move d e) (h : WaitsOk d) : WaitsOk e := by
  have k := resting_waits False False False
  cases m with
  | same => exact h
  | reset => exact fun hr => nomatch hr
  | quiet e hr q =>
    obtain ⟨hl, hw⟩ := waitsOk_of_live hr h
    exact (waitsOk_iff e).mpr fun _ => ⟨still_lateWaits _ _ (quiet_still q) hl, still_waits _ _ _ _ _ (quiet_still q) hw⟩
  | poll hr =>
    obtain ⟨hl, hw⟩ := waitsOk_of_live hr h
    have p := pollsOn_sendPoll d
    exact (waitsOk_iff _).mpr fun _ => ⟨lateWaits_pollsOn p hl, waits_pollsOn p hw⟩
  | pauseEnd hr =>
    obtain ⟨hl, hw⟩ := waitsOk_of_live hr h
    have p := pollsOn_endPause d
    exact (waitsOk_iff _).mpr fun _ => ⟨lateWaits_pollsOn p hl, waits_pollsOn p hw⟩
  | idle hr =>
    obtain ⟨hl, hw⟩ := waitsOk_of_live hr h
    have p := pollsOn_takeIdle d
    exact (waitsOk_iff _).mpr fun _ => ⟨lateWaits_pollsOn p hl, waits_pollsOn p hw⟩
  | miss hr =>
    obtain ⟨hl, hw⟩ := waitsOk_of_live hr h
    have p := pollsOn_takeMiss d
    exact (waitsOk_iff _).mpr fun _ => ⟨lateWaits_pollsOn p hl, waits_pollsOn p hw⟩
  | serve st c e hr hp r =>
    obtain ⟨hl, hw⟩ := waitsOk_of_live hr h
    exact (waitsOk_iff e).mpr fun _ => ⟨lateWaits_replies r hl, waits_replies r (waits_opened hp hw)⟩
  | reading a b hr =>
    obtain ⟨hl, hw⟩ := waitsOk_of_live hr h
    exact (waitsOk_iff _).mpr fun _ => ⟨held_lateWaits.heaterTake _ hl, k.toHeld.heaterTake _ hw⟩
  | timer t hr =>
    obtain ⟨hl, hw⟩ := waitsOk_of_live hr h
    exact (waitsOk_iff _).mpr fun _ => ⟨held_lateWaits.heaterTake _ hl, k.toHeld.heaterTake _ hw⟩
  | slot a b hr =>
    obtain ⟨hl, hw⟩ := waitsOk_of_live hr h
    exact (waitsOk_iff _).mpr fun _ => ⟨lateWaits_slotBoundary a b hl, k.slotBoundary a b hw hw⟩
  | complete hr =>
    obtain ⟨hl, hw⟩ := waitsOk_of_live hr h
    exact (waitsOk_iff _).mpr fun _ => ⟨lateWaits_completeWrite hl, waits_completeWrite hw⟩

/-! ### Power-on -/

theorem startHeaterFrom_kept {P : Device → Prop} (k : Slots P)
    (ask : ∀ e c, c.isOwn = true → P e → P (askWrite c .nothing e)) {d : Device} (h : P d) : P (startHeaterFrom d) := by
  have state : P (if d.settings.combustionMark then setHeat (fun h => { h with state := .purge }) d
      else if d.settings.lockout = .none then d else setHeat (fun h => { h with state := .lockout }) d) :=
    kept_ite (k.setHeat _ rfl rfl rfl h) (kept_ite h (k.setHeat _ rfl rfl rfl h))
  have cause := kept_ite (c := d.settings.lockout = .none) state
    (k.cause _ (causeLockout true) (fun _ => ⟨rfl, rfl⟩) state)
  unfold startHeaterFrom
  dsimp only
  split
  · exact ask _ _ rfl cause
  · exact cause

/-- What holds of the part as its blocks start holds once power-on has run, if it holds through a write that no block waits
for. -/
theorem powerUp_kept {P : Device → Prop} (k : Slots P) (okA okB : Bool) (d : Device)
    (ask : ∀ e c, c.isOwn = true → P e → P (askWrite c .nothing e))
    (start : ∀ c x, x.jobs = [] → x.writing = none → P (rebuildLadder (startDevice c x d.leads))) : P (powerUp okA okB d) :=
  k.openSlot (k.recompute _ (startHeaterFrom_kept k ask (start _ _ rfl rfl)))

theorem storeOk_powerUp (okA okB : Bool) (d : Device) : StoreOk (powerUp okA okB d) := by
  refine powerUp_kept resting_storeOk.toSlots okA okB d
    (fun e c _ h => storeOk_askWrite c _ ((storeOk_iff e).mp h).1) fun c x hj hw => ?_
  have hw : (startDevice c x d.leads).store.writing = none := hw
  have idle : ∀ i, (startDevice c x d.leads).store.writing ≠ some i := fun i h => nomatch hw.symm.trans h
  exact ⟨⟨fun _ => hj, fun _ => hw⟩, fun h => absurd h (idle _), fun h => absurd h (idle _)⟩

theorem waitsOk_powerUp (okA okB : Bool) (d : Device) : WaitsOk (powerUp okA okB d) := by
  have waits : Waits False False False (powerUp okA okB d) :=
    powerUp_kept (resting_waits _ _ _).toSlots okA okB d
      (fun e c _ ⟨hw, hs, hh⟩ => waits_askWrite (fun x => .inl (hw x)) (fun x => .inl (hs x)) hh)
      fun c x _ _ => ⟨nofun, nofun, nofun⟩
  have late : LateWaits (powerUp okA okB d) :=
    powerUp_kept held_lateWaits.toSlots okA okB d (fun e c _ h => by rw [LateWaits, askWrite_eq]; exact h)
      fun c x _ _ h => absurd rfl h
  exact (waitsOk_iff _).mpr fun _ => ⟨late, waits⟩

end Sys2Proof.Machine
end

section
/-! PROOF. Table, sets, charge, accounts and transmit count stay in order through every move; with the store's order and the
waits this settles the statement on the part's books. -/

namespace Sys2Proof.Machine
open Sys2Proof

/-! ## The table -/

theorem tableOk_congr {d e : Device} (hs : occupancy e = occupancy d) (hq : e.table.queue.Nodup) (h : TableOk d) :
    TableOk e := by
  obtain ⟨hlen, hgen, -⟩ := h
  have hlen' : e.table.slots.length = d.table.slots.length := by
    have := congrArg List.length hs
    simpa [occupancy] using this
  refine ⟨hlen'.trans hlen, fun s hs' => ?_, hq⟩
  have mem : (s.gen, s.rcd.isSome) ∈ occupancy d := hs ▸ List.mem_map_of_mem hs'
  obtain ⟨x, hx, e⟩ := List.mem_map.mp mem
  rw [← (Prod.mk.inj e).1]
  exact hgen x hx

theorem tableOk_revise {d : Device} (h : Handle) (f : Record → Record) (ok : TableOk d) : TableOk (revise h f d) :=
  tableOk_congr (occupancy_revise h f d) (by rw [revise_queue]; exact ok.2.2) ok

theorem nextGen_range (g : Nat) : 1 ≤ nextGen g ∧ nextGen g ≤ 255 := by
  unfold nextGen
  split
  · omega
  · omega

/-- A slot is written with a generation within range. -/
theorem tableOk_set {d : Device} (i : Nat) {s : Slot} (hg : i < d.table.slots.length → 1 ≤ s.gen ∧ s.gen ≤ 255)
    (ok : TableOk d) : TableOk { d with table := { d.table with slots := d.table.slots.set i s } } := by
  obtain ⟨hlen, hgen, hq⟩ := ok
  refine ⟨by simpa using hlen, fun x hx => ?_, hq⟩
  rcases List.getElem_of_mem hx with ⟨j, hj, hx⟩
  rw [List.getElem_set] at hx
  split at hx
  next hi => exact hx ▸ hg (by simpa [hi] using hj)
  · exact hx ▸ hgen _ (List.getElem_mem _)

theorem tableOk_putRecord {d : Device} {h : Handle} (r : Record) {x : Option Record}
    (hs : d.table.slots[h.slot]? = some ⟨h.gen, x⟩) (ok : TableOk d) : TableOk (putRecord h r d) :=
  tableOk_set h.slot (s := ⟨h.gen, some r⟩) (fun _ => ok.2.1 ⟨h.gen, x⟩ (List.mem_of_getElem? hs)) ok

theorem tableOk_freeSlot {d : Device} (i : Nat) (ok : TableOk d) : TableOk (freeSlot i d) :=
  tableOk_set i (fun _ => nextGen_range _) ok

theorem tableOk_leaveQueue {d : Device} (h : Handle) (ok : TableOk d) : TableOk (leaveQueue h d) :=
  tableOk_congr (d := d) rfl (ok.2.2.filter _) ok

theorem tableOk_joinQueue {d : Device} (h : Handle) (ok : TableOk d) : TableOk (joinQueue h d) := by
  refine tableOk_congr (occupancy_congr (joinQueue_slots h d)) ?_ ok
  rw [joinQueue_queue]
  split
  · exact ok.2.2
  next hn => exact ok.2.2.append (List.nodup_singleton h) (by simpa using hn)

theorem tableOk_clearTable {d : Device} (ok : TableOk d) : TableOk { d with table := clearTable d.table } := by
  obtain ⟨hlen, hgen, -⟩ := ok
  refine ⟨by simpa [clearTable] using hlen, fun s hs => ?_, List.nodup_nil⟩
  obtain ⟨x, hx, rfl⟩ := List.mem_map.mp hs
  split
  · exact nextGen_range _
  · exact hgen x hx

/-! ## Stations' sets -/

theorem stationOk_flags {p : StationLink} (f : Flags → Flags) (ok : StationOk p) : StationOk (flagStation f p) := by
  unfold flagStation
  split
  next hl =>
    obtain ⟨hn, -, hm⟩ := ok
    exact ⟨hn, fun h => absurd hl h, hm⟩
  · exact ok

theorem stationOk_noteFailure {p : StationLink} (k : FailureKind) (ok : StationOk p) : StationOk (noteFailure k p) := by
  unfold noteFailure
  split
  next hl =>
    obtain ⟨hn, -, hm⟩ := ok
    exact ⟨hn, fun h => absurd hl h, hm⟩
  · exact ok

theorem length_dropOldestRetired : ∀ es : List Entry, es.any Entry.isRetired = true →
    (dropOldestRetired es).length + 1 = es.length
  | [], h => nomatch h
  | e :: es, h => by
    unfold dropOldestRetired
    split
    · rfl
    next he =>
      have : es.any Entry.isRetired = true := by simpa [he] using h
      simp [length_dropOldestRetired es this]

theorem length_makeRoom (es : List Entry) : (makeRoom es).length = es.length - 1 := by
  unfold makeRoom
  split
  next h => have := length_dropOldestRetired es h; omega
  · exact List.length_drop

theorem stationOk_joinEntry {p : StationLink} (e : Entry) (hl : p.link = .online) (ok : StationOk p) :
    StationOk (joinEntry e p) := by
  obtain ⟨hn, -, hm⟩ := ok
  have h64 : Config.setLimit = 64 := rfl
  unfold joinEntry
  split
  · refine ⟨?_, fun h => absurd hl h, hm⟩
    simp only [List.length_append, length_makeRoom, List.length_singleton]
    omega
  · refine ⟨?_, fun h => absurd hl h, hm⟩
    simp only [List.length_append, List.length_singleton]
    omega

theorem stationOk_markEntry {p : StationLink} (h : Handle) (ok : StationOk p) : StationOk (markEntry h p) := by
  unfold markEntry
  split
  · exact ok
  next hl =>
    split
    · exact ok
    · exact stationOk_joinEntry _ (not_not.mp hl) ok

theorem length_convertEntry (h : Handle) (e : Entry) : ∀ es, (convertEntry h e es).length = es.length
  | [] => rfl
  | x :: xs => by
    unfold convertEntry
    split
    · rfl
    · simp [length_convertEntry h e xs]

theorem stationOk_retireEntry {p : StationLink} (h : Handle) (fn : Fn) (r : RetireReason) (ok : StationOk p) :
    StationOk (retireEntry h fn r p) := by
  unfold retireEntry
  split
  · exact ok
  next hl =>
    split
    · obtain ⟨hn, ho, hm⟩ := ok
      exact ⟨(length_convertEntry _ _ _).trans_le hn, fun x => absurd x hl, hm⟩
    · exact stationOk_joinEntry _ (not_not.mp hl) ok

theorem stationOk_dropEntry {p : StationLink} (h : Handle) (ok : StationOk p) : StationOk (dropEntry h p) := by
  obtain ⟨hn, ho, hm⟩ := ok
  refine ⟨(List.length_filter_le _ _).trans hn, fun hl => ?_, hm⟩
  obtain ⟨he, hf, hk⟩ := ho hl
  exact ⟨by simp [dropEntry, he], hf, hk⟩

theorem stationOk_goodReply {p : StationLink} (ok : StationOk p) : StationOk (goodReply p) := by
  obtain ⟨hn, ho, hm⟩ := ok
  unfold goodReply
  split
  · exact ⟨hn, fun h => absurd rfl h, fun _ => Nat.zero_lt_succ 2⟩
  next hl => exact ⟨hn, fun h => absurd hl h, fun _ => Nat.zero_lt_succ 2⟩
  · exact ⟨hn, ho, hm⟩

theorem stationOk_missPoll {p : StationLink} (c : Bool) (ok : StationOk p) : StationOk (missPoll c p) := by
  obtain ⟨hn, ho, hm⟩ := ok
  unfold missPoll
  split
  next hl =>
    dsimp only
    split
    · exact ⟨Nat.zero_le _, fun _ => ⟨rfl, rfl, rfl⟩, nofun⟩
    next h => exact ⟨hn, fun h => absurd hl h, fun _ => Nat.lt_of_not_le h⟩
  · exact ⟨hn, ho, hm⟩

/-- A station that is ONLINE with no more entries and no more missed polls. -/
theorem stationOk_online {p q : StationLink} (hl : p.link = .online) (hq : q.link = p.link) (hm : q.missed = p.missed)
    (he : q.entries.length ≤ p.entries.length) (ok : StationOk p) : StationOk q := by
  obtain ⟨hn, -, hp⟩ := ok
  exact ⟨he.trans hn, fun h => absurd (hq.trans hl) h, fun _ => hm ▸ hp hl⟩

theorem stationOk_chooseNotice {d : Device} (st : Station) {p : StationLink} (ok : StationOk p) :
    StationOk (chooseNotice d st p).2 := by
  unfold chooseNotice
  dsimp only
  split
  · exact ok
  next hl =>
    have same : ∀ q : StationLink, q.link = p.link → q.missed = p.missed → q.entries.length ≤ p.entries.length →
      StationOk q := fun q hq hm he => stationOk_online (not_not.mp hl) hq hm he ok
    split
    · exact same _ rfl rfl (Nat.le_refl _)
    split
    · exact same _ rfl rfl (Nat.le_refl _)
    split
    · exact same _ rfl rfl (Nat.le_refl _)
    split
    · exact same _ rfl rfl (Nat.le_refl _)
    split
    · exact same _ rfl rfl (Nat.le_refl _)
    split
    · exact same _ rfl rfl (Nat.le_refl _)
    split
    · exact ok
    next he => exact same _ rfl rfl (by rw [he]; exact Nat.le_succ _)
    next he => exact same _ rfl rfl (by rw [he]; exact Nat.le_succ _)

theorem stationOk_restartStation {p : StationLink} (ok : StationOk p) : StationOk (restartStation p) := by
  obtain ⟨-, -, hm⟩ := ok
  exact ⟨Nat.zero_le _, fun h => ⟨rfl, if_neg h, rfl⟩, hm⟩

theorem stationOk_reviseEnabled {p : StationLink} (b : Bool) (ok : StationOk p) : StationOk (reviseEnabled b p) := by
  obtain ⟨hn, ho, hm⟩ := ok
  unfold reviseEnabled
  split
  · exact ⟨hn, ho, hm⟩
  · exact ⟨Nat.zero_le _, fun _ => ⟨rfl, rfl, rfl⟩, nofun⟩
  next hl => exact ⟨hn, fun _ => ho (by rw [hl]; nofun), nofun⟩
  · exact ⟨hn, ho, hm⟩

theorem stationOk_startStation (c : StationSettings) : StationOk (startStation c) := by
  refine ⟨Nat.zero_le _, fun _ => ⟨rfl, rfl, rfl⟩, fun h => ?_⟩
  unfold startStation at h
  dsimp only at h
  split at h
  · cases h
  · cases h

theorem stationsOk_map {d : Device} {f : StationLink → StationLink} (hf : ∀ p, StationOk p → StationOk (f p))
    (ok : StationsOk d) : StationsOk { d with link := { d.link with stations := d.link.stations.map f } } := fun st => by
  rw [PerStation_get_map]
  exact hf _ (ok st)

theorem stationsOk_updateStation {d : Device} (st : Station) {f : StationLink → StationLink}
    (hf : ∀ p, StationOk p → StationOk (f p)) (ok : StationsOk d) : StationsOk (updateStation st f d) := fun x => by
  unfold updateStation
  dsimp only
  by_cases hx : x = st
  · rw [hx, PerStation_get_set]
    exact hf _ (ok st)
  · rw [PerStation_get_set_ne _ _ hx]
    exact ok x

theorem stationsOk_mark {d : Device} (h : Handle) (ok : StationsOk d) : StationsOk (mark h d) := by
  unfold mark
  split
  · exact ok
  · split
    · split
      · exact stationsOk_updateStation _ (fun _ => stationOk_markEntry h) ok
      · exact ok
    · exact ok

theorem stationsOk_revise {d : Device} (h : Handle) (f : Record → Record) (ok : StationsOk d) :
    StationsOk (revise h f d) := by
  unfold revise
  split
  · split
    · exact ok
    · exact stationsOk_mark h (d := putRecord h _ d) ok
  · exact ok

theorem stationsOk_reportRetired {d : Device} (st : Option Station) (h : Handle) (fn : Fn) (w : RetireReason) (how : Report)
    (ok : StationsOk d) : StationsOk (reportRetired st h fn w how d) := by
  unfold reportRetired
  split
  · exact stationsOk_updateStation _ (fun _ => stationOk_retireEntry h fn w) ok
  · exact stationsOk_updateStation _ (fun _ => stationOk_dropEntry h) ok
  · exact ok

/-! ## Table, sets, accounts and transmit count -/

/-- The books apart from the charge and the store. -/
def LedgerOk (d : Device) : Prop := TableOk d ∧ StationsOk d ∧ AccountsOk d ∧ VehicleOk d

theorem accountsOk_setAccount {d : Device} (dr : Driver) {f : Account → Account}
    (hf : AccountOk (d.accounts.get dr) → AccountOk (f (d.accounts.get dr))) (ok : AccountsOk d) :
    AccountsOk (setAccount dr f d) := fun x => by
  unfold setAccount
  dsimp only
  by_cases hx : x = dr
  · rw [hx, PerDriver_get_set]
    exact hf (ok dr)
  · rw [PerDriver_get_set_ne _ _ hx]
    exact ok x

theorem ledgerOk_revise {d : Device} (h : Handle) (f : Record → Record) : LedgerOk d → LedgerOk (revise h f d) :=
  fun ⟨ht, hs, ha, hv⟩ =>
    ⟨tableOk_revise _ _ ht, stationsOk_revise _ _ hs, by rw [AccountsOk, same_accounts (same_revise h f d)]; exact ha,
      by rw [VehicleOk, same_vehicle (same_revise h f d)]; exact hv⟩

theorem kept_ledger : Kept LedgerOk where
  cap _ h := h
  budget _ _ h := h
  fridge _ _ _ h := h
  heater _ _ _ _ _ h := h
  sched _ _ _ _ h := h
  heat _ h := h
  cool _ h := h
  outlet _ h := h
  causes _ _ _ h := h
  remap _ _ _ := ledgerOk_revise _ _
  atRisk _ _ _ := ledgerOk_revise _ _
  heaterFlag d := fun ⟨ht, hs, ha, hv⟩ => ⟨ht, stationsOk_map (fun _ => stationOk_flags _) hs, ha, hv⟩
  budgetFlag d := fun ⟨ht, hs, ha, hv⟩ => ⟨ht, stationsOk_map (fun _ => stationOk_flags _) hs, ha, hv⟩
  failure d k := fun ⟨ht, hs, ha, hv⟩ => ⟨ht, stationsOk_map (fun _ => stationOk_noteFailure k) hs, ha, hv⟩
  warningFlag d dr := fun ⟨ht, hs, ha, hv⟩ => ⟨ht, stationsOk_map (fun _ => stationOk_flags _) hs, ha, hv⟩
  lamps _ _ h := h
  plans _ _ h := h
  account d dr f hf := fun ⟨ht, hs, ha, hv⟩ => ⟨ht, hs, accountsOk_setAccount dr hf ha, hv⟩
  allCauses _ _ h := h
  departing := departing_of_marks fun _ _ _ h => h
  quietly := quietly_of_marks fun _ _ _ h => h
  revise _ _ _ := ledgerOk_revise _ _
  put d h r x hx := fun ⟨ht, hs, ha, hv⟩ => ⟨tableOk_putRecord r hx ht, hs, ha, hv⟩
  free d h r _ := fun ⟨ht, hs, ha, hv⟩ => ⟨tableOk_freeSlot _ ht, hs, ha, hv⟩
  leave d h := fun ⟨ht, hs, ha, hv⟩ => ⟨tableOk_leaveQueue h ht, hs, ha, hv⟩
  join d h := fun ⟨ht, hs, ha, hv⟩ => by
    have same := same_joinQueue h d
    refine ⟨tableOk_joinQueue h ht, ?_, ?_, ?_⟩
    · rw [StationsOk, same_link same]; exact hs
    · rw [AccountsOk, same_accounts same]; exact ha
    · rw [VehicleOk, same_vehicle same]; exact hv
  sequence d := fun ⟨ht, hs, ha, hv⟩ => by
    have same := same_takeSequence d
    refine ⟨tableOk_congr (occupancy_takeSequence d) (by rw [takeSequence_queue]; exact ht.2.2) ht, ?_, ?_, ?_⟩
    · rw [StationsOk, same_link same]; exact hs
    · rw [AccountsOk, same_accounts same]; exact ha
    · rw [VehicleOk, same_vehicle same]; exact hv
  retired d st h fn w how := fun ⟨ht, hs, ha, hv⟩ => by
    have same := same_reportRetired st h fn w how d
    refine ⟨?_, stationsOk_reportRetired st h fn w how hs, ?_, ?_⟩
    · rw [TableOk, same_table same]; exact ht
    · rw [AccountsOk, same_accounts same]; exact ha
    · rw [VehicleOk, same_vehicle same]; exact hv

/-- Heater, scheduler, store, settings, clock and the port's poll do not enter the ledger. -/
theorem resting_ledger : Resting LedgerOk where
  toWhole := kept_ledger.whole
  slots _ _ _ _ _ _ h := h
  asked d c n _ _ h := by rw [heaterWrite, askWrite_eq]; exact h
  answer _ _ _ _ _ h := h
  hold _ _ _ _ h := h
  holdClear _ _ h := h
  accepted _ h := h
  unwait _ h := h
  swap d a b h := by rw [swapTables, askWrite_eq]; exact h
  owe _ _ h := h

/-! ### Every move keeps the ledger -/

/-- Only the fridge's own state follows the call. -/
theorem followCall_eq (d : Device) : ∃ f, followCall d = { d with fridge := f } := by
  unfold followCall
  dsimp only
  split
  · split
    · split
      · exact ⟨_, rfl⟩
      · exact ⟨_, rfl⟩
    · exact ⟨_, rfl⟩
  · split
    · exact ⟨_, rfl⟩
    · exact ⟨_, rfl⟩
  · split
    · exact ⟨_, rfl⟩
    · exact ⟨_, rfl⟩
  · exact ⟨_, rfl⟩

theorem guardEnd_eq (d : Device) : ∃ f, guardEnd d = { d with fridge := f } := by
  unfold guardEnd
  split
  · split
    · exact ⟨_, rfl⟩
    · split
      · dsimp only
        split
        · exact ⟨_, rfl⟩
        · exact ⟨_, rfl⟩
      · exact ⟨_, rfl⟩
  · exact ⟨_, rfl⟩

theorem ledger_followCall {d : Device} (h : LedgerOk d) : LedgerOk (followCall d) := by
  obtain ⟨f, hf⟩ := followCall_eq d
  exact hf ▸ h

theorem ledger_vehicle {d : Device} (x : Vehicle) (hb : x.busOff = d.vehicle.busOff)
    (hw : x.waiting = d.vehicle.waiting) (ht : x.txErrors = d.vehicle.txErrors) (h : LedgerOk d) :
    LedgerOk { d with vehicle := x } := by
  obtain ⟨htab, hs, ha, hv⟩ := h
  exact ⟨htab, hs, ha, by rw [VehicleOk, hb, hw, ht]; exact hv⟩

theorem ledger_engineBecomes {d : Device} (run : Bool) (h : LedgerOk d) : LedgerOk (engineBecomes run d) :=
  kept_ite h (kept_ledger.recompute (ledger_vehicle { d.vehicle with running := run } rfl rfl rfl h))

theorem vehicleOk_txError {d : Device} (h : VehicleOk d) : VehicleOk (setVehicle txError d) := by
  obtain ⟨hb, ht⟩ := h
  unfold setVehicle txError VehicleOk
  dsimp only
  split
  · split
    · exact ⟨fun _ => rfl, nofun⟩
    next hw hlt => exact ⟨fun h => absurd h (by rw [hw.2]; nofun), fun _ => Nat.lt_of_not_le hlt⟩
  · exact ⟨hb, ht⟩

theorem vehicleOk_txSuccess {d : Device} (h : VehicleOk d) : VehicleOk (setVehicle txSuccess d) := by
  obtain ⟨hb, ht⟩ := h
  unfold setVehicle txSuccess VehicleOk
  dsimp only
  split
  · exact ⟨fun _ => rfl, fun h => (Nat.sub_le _ _).trans_lt (ht h)⟩
  · exact ⟨hb, ht⟩

theorem vehicleOk_rejoin {d : Device} (h : VehicleOk d) : VehicleOk (setVehicle rejoin d) := by
  obtain ⟨hb, ht⟩ := h
  unfold setVehicle rejoin VehicleOk
  dsimp only
  split
  · exact ⟨nofun, fun _ => Nat.zero_lt_succ 255⟩
  · exact ⟨hb, ht⟩

theorem vehicleOk_buildStatus {d : Device} (h : VehicleOk d) : VehicleOk (buildStatus d) := by
  obtain ⟨hb, ht⟩ := h
  unfold buildStatus setVehicle VehicleOk
  dsimp only
  split
  · exact ⟨hb, ht⟩
  next hn => exact ⟨fun h => absurd h hn, ht⟩

theorem accountOk_dashRepeat (now : Nat) {a : Account} (h : AccountOk a) :
    AccountOk (if dashRepeatDue now a then dashOnset now a else a) := by
  obtain ⟨hc, ha, hs⟩ := h
  split
  next hd => exact ⟨hc, ha, fun _ => (Bool.and_eq_true_iff.mp hd).1⟩
  · exact ⟨hc, ha, hs⟩

theorem accountOk_dashEnd (now : Nat) {a : Account} (h : AccountOk a) :
    AccountOk (if dashEndDue now a then { a with sounding := false } else a) := by
  obtain ⟨hc, ha, hs⟩ := h
  split
  · exact ⟨hc, ha, nofun⟩
  · exact ⟨hc, ha, hs⟩

theorem accountOk_incompleteSet {a : Account} (h : AccountOk a) : AccountOk (incompleteSet a) := by
  unfold incompleteSet
  split
  · exact h
  · exact h

theorem accountOk_bunkEnd (now : Nat) {a : Account} (h : AccountOk a) :
    AccountOk (if bunkEndDue now a then { a with bunkUntil := none } else a) := by
  split
  · exact h
  · exact h

theorem ledger_quiet {d e : Device} (q : Quiet d e) (h : LedgerOk d) : LedgerOk e := by
  have k := kept_ledger
  cases q with
  | start x _ _ _ => exact k.beginRecord x h
  | retire x _ _ w => exact k.retireRecord x w _ h
  | sample v i => exact ledger_vehicle { d.vehicle with
      engineAge := bump Config.engineAgeLimit d.vehicle.engineAge
      activityAge := bump Config.activityAgeLimit d.vehicle.activityAge } rfl rfl rfl h
  | integrate => exact h
  | anchor => exact kept_ite (P := LedgerOk) h h
  | voltage =>
    unfold voltageChange
    split
    · exact k.sendVoltage _ (k.formPermissions (k.recompute h))
    · exact h
  | marks => exact kept_ite (P := LedgerOk) h h
  | fridge raw => exact kept_ite (P := LedgerOk) h (kept_ite (P := LedgerOk) h (ledger_followCall h))
  | faultClear => exact kept_ite (ledger_followCall h) h
  | blind => exact kept_ite (ledger_followCall h) h
  | guard => obtain ⟨f, hf⟩ := guardEnd_eq d; exact hf ▸ h
  | fade => exact h
  | sense t => exact h
  | overCurrent c => exact kept_ite (k.setCauseAndRecompute _ _ h) h
  | engineFrame id data =>
    exact kept_ite (ledger_engineBecomes _ (ledger_vehicle { d.vehicle with engineAge := 0 } rfl rfl rfl h)) h
  | engineLost => exact kept_ite (ledger_engineBecomes _ h) h
  | activityFrame id data =>
    exact kept_ite (k.whole.report _ _ (k.whole.report _ _
      (ledger_vehicle { d.vehicle with activityAge := 0, lostHanded := false } rfl rfl rfl h))) h
  | activityLost =>
    exact kept_ite (k.whole.report _ _ (k.whole.report _ _ (ledger_vehicle { d.vehicle with lostHanded := true } rfl rfl rfl h))) h
  | status => obtain ⟨ht, hs, ha, hv⟩ := h; exact ⟨ht, hs, ha, vehicleOk_buildStatus hv⟩
  | sent => obtain ⟨ht, hs, ha, hv⟩ := h; exact ⟨ht, hs, ha, vehicleOk_txSuccess hv⟩
  | failed => obtain ⟨ht, hs, ha, hv⟩ := h; exact ⟨ht, hs, ha, vehicleOk_txError hv⟩
  | rejoin => obtain ⟨ht, hs, ha, hv⟩ := h; exact ⟨ht, hs, ha, vehicleOk_rejoin hv⟩
  | accrue => exact k.whole.accrueBoth h
  | settle dr => exact k.whole.settle dr h
  | incomplete dr => exact k.account d dr _ accountOk_incompleteSet h
  | dashRepeat dr => exact k.account d dr _ (accountOk_dashRepeat _) h
  | dashEnd dr => exact k.account d dr _ (accountOk_dashEnd _) h
  | bunkEnd dr => exact k.account d dr _ (accountOk_bunkEnd _) h
  | waking dr _ => exact k.whole.enterWaking dr h
  | due dr _ => exact k.whole.enterDue dr h
  | ramp dr =>
    unfold rampTick
    split
    · exact h
    · split
      · exact k.whole.handRamp _ _ _ h
      · exact h
    · exact h
  | call dr => exact k.whole.callOnset dr h
  | unanswered dr => exact k.whole.retirePlan dr _ h
  | begun => exact h
  | clock =>
    have turned : LedgerOk (if decide (d.clock.cs + 1 ≥ 100) = true then countSecond d else d) :=
      kept_after (f := countSecond) (fun _ x => x) h
    exact ledger_vehicle _ rfl rfl rfl turned

theorem ledger_restartDevice {d : Device} (h : LedgerOk d) : LedgerOk (restartDevice d) := by
  obtain ⟨ht, hs, ha, hv⟩ := h
  exact kept_ledger.restartDevice (fun _ h => h)
    ⟨tableOk_clearTable ht, stationsOk_map (fun _ => stationOk_restartStation) hs, ha, hv⟩

theorem ledger_acts {st : Station} {d e : Device} (a : Acts st d e) (h : LedgerOk d) : LedgerOk e := by
  have k := kept_ledger
  cases a with
  | same => exact h
  | swap b => exact h
  | mark x => exact h
  | ack dr => exact k.whole.acknowledge dr h
  | create fn x b cls params flags free _ _ _ => exact k.created free h
  | amend x r b _ _ _ => exact k.amended st x r b h
  | retire x _ _ _ how _ => exact k.retireRecord x _ how h
  | restart => exact ledger_restartDevice h

theorem ledger_replies {st : Station} {d e : Device} (r : Replies st d e) (h : LedgerOk d) : LedgerOk e :=
  resting_ledger.toHeld.replies (fun _ a => ledger_acts a h) (fun _ _ _ _ _ => by rw [askWrite_eq]; exact h)
    (fun _ _ _ _ _ => by rw [askWrite_eq]; exact h) r

theorem ledger_updateStation {d : Device} (st : Station) {f : StationLink → StationLink}
    (hf : ∀ p, StationOk p → StationOk (f p)) : LedgerOk d → LedgerOk (updateStation st f d) :=
  fun ⟨ht, hs, ha, hv⟩ => ⟨ht, stationsOk_updateStation st hf hs, ha, hv⟩

theorem ledger_sendPoll {d : Device} (h : LedgerOk d) : LedgerOk (sendPoll d) :=
  sendPoll_kept
    (fun st _ h => ledger_updateStation st (f := fun _ => _) (fun _ _ => stationOk_chooseNotice st (h.2.1 st)) h)
    (fun st _ _ => ledger_updateStation st fun _ ok => ok) (fun _ h => h) (fun _ h => h) h

theorem ledger_takeIdle {d : Device} (h : LedgerOk d) : LedgerOk (takeIdle d) := by
  unfold takeIdle
  split
  · exact ledger_updateStation _ (fun _ => stationOk_goodReply) h
  · exact h

theorem ledger_takeMiss {d : Device} (h : LedgerOk d) : LedgerOk (takeMiss d) := by
  unfold takeMiss
  split
  · exact ledger_updateStation _ (fun _ => stationOk_missPoll _) h
  · exact h

theorem ledger_completeWrite {d : Device} (h : LedgerOk d) : LedgerOk (completeWrite d) := by
  refine completeWrite_kept h fun i j rest _ _ => ?_
  have k := resting_ledger
  have h1 : LedgerOk (changed j.change d.settings (written i j rest d)) :=
    k.toHeld.changed _ _ (fun _ => h) (fun v _ => kept_ite (P := LedgerOk) h (kept_ledger.recompute h)) (fun h => h)
      (fun h st => ledger_updateStation st (fun _ => stationOk_reviseEnabled _) h) fun _ _ => h
  have h2 : LedgerOk (resumed i j rest d) := k.toHeld.releaseAnswer (k.goOn _ _ (fun _ => h1) fun _ => h1)
  rw [beginWrite_eq]
  exact kept_ite (P := LedgerOk) (takeLate_kept (fun d a b hd => k.slotBoundary a b hd hd) h2) h2

theorem ledger_move {d e : Device} (m : Move d e) (h : LedgerOk d) : LedgerOk e := by
  have k := resting_ledger
  cases m with
  | same => exact h
  | reset => exact h
  | quiet e _ q => exact ledger_quiet q h
  | poll => exact ledger_sendPoll h
  | pauseEnd => exact kept_ite (P := LedgerOk) h h
  | idle => exact ledger_takeIdle h
  | miss => exact ledger_takeMiss h
  | serve st c e _ _ r => exact ledger_replies r (ledger_updateStation st (fun _ => stationOk_goodReply) h)
  | reading a b _ => exact k.toHeld.heaterTake _ h
  | timer t _ => exact k.toHeld.heaterTake _ h
  | slot a b _ => exact k.slotBoundary a b h h
  | complete _ => exact ledger_completeWrite h

theorem accountOk_start (a : Account) (hc : a.cd = 0 ∧ a.dd = 0 ∧ a.bl = 0 ∧ a.rl = 0) (hw : levelRank a.warnings = 0)
    (ha : a.ack = .none) (hs : a.sounding = false) : AccountOk a := by
  obtain ⟨h1, h2, h3, h4⟩ := hc
  exact ⟨⟨by omega, by omega, by omega, by omega⟩, ⟨fun _ => ha, fun _ => hw⟩, fun h => nomatch hs.symm.trans h⟩

theorem ledger_powerUp (okA okB : Bool) (d : Device) : LedgerOk (powerUp okA okB d) := by
  refine powerUp_kept resting_ledger.toSlots okA okB d (fun e c _ h => by rw [askWrite_eq]; exact h)
    fun c x _ _ => ⟨⟨rfl, fun s hs => ?_, List.nodup_nil⟩, fun st => ?_, fun dr => ?_, nofun, fun _ => Nat.zero_lt_succ 255⟩
  · rw [List.eq_of_mem_replicate hs]
    decide
  · exact PerStation_get_map startStation c.stations st ▸ stationOk_startStation _
  · cases dr
    · exact accountOk_start _ ⟨rfl, rfl, rfl, rfl⟩ rfl rfl rfl
    · exact accountOk_start _ ⟨rfl, rfl, rfl, rfl⟩ rfl rfl rfl

/-! ## The charge -/

theorem charge_congr {d e : Device} (hb : e.bank.q ≤ d.bank.q) (hs : e.settings.capacity = d.settings.capacity)
    (h : ChargeOk d) : ChargeOk e := by
  rw [ChargeOk, hs]
  exact hb.trans h

theorem kept_charge : Kept ChargeOk :=
  .of_steady fun s h => charge_congr (by rw [s.bank]) (by rw [s.settings]) h

theorem resting_charge : Resting ChargeOk where
  toWhole := kept_charge.whole
  slots _ _ _ _ _ _ h := h
  asked d c n _ _ h := by rw [heaterWrite, askWrite_eq]; exact h
  answer _ _ _ _ _ h := h
  hold _ _ _ _ h := h
  holdClear _ _ h := h
  accepted _ h := h
  unwait _ h := h
  swap d a b h := by rw [swapTables, askWrite_eq]; exact h
  owe _ _ h := h

theorem integrate_le (cmax : Nat) (b : Bank) : (integrate cmax b).q ≤ cmax := by
  unfold integrate
  dsimp only
  split
  · exact Nat.zero_le _
  · split
    · exact Nat.le_refl _
    next h => exact Int.toNat_le.mpr (not_lt.mp h)

theorem cutoffAnchor_le (floor : Nat) (b : Bank) : (cutoffAnchor floor b).q ≤ b.q := by
  unfold cutoffAnchor
  split
  next h => exact Nat.le_of_lt h
  · exact Nat.le_refl _

theorem charge_followCall {d : Device} (h : ChargeOk d) : ChargeOk (followCall d) := by
  obtain ⟨f, hf⟩ := followCall_eq d
  exact hf ▸ h

theorem charge_engineBecomes {d : Device} (run : Bool) (h : ChargeOk d) : ChargeOk (engineBecomes run d) :=
  kept_ite h (kept_charge.recompute h)

theorem charge_quiet {d e : Device} (q : Quiet d e) (h : ChargeOk d) : ChargeOk e := by
  have k := kept_charge
  cases q with
  | start x _ _ _ => exact k.beginRecord x h
  | retire x _ _ w => exact k.retireRecord x w _ h
  | sample v i => exact h
  | integrate => exact integrate_le _ _
  | anchor => exact kept_ite (P := ChargeOk) (Nat.le_refl _) h
  | voltage =>
    unfold voltageChange
    split
    next v _ =>
      refine k.sendVoltage _ (k.formPermissions (k.recompute (charge_congr (d := d) ?_ rfl h)))
      unfold setBank
      dsimp only
      split
      · exact cutoffAnchor_le _ _
      · exact Nat.le_refl _
    · exact h
  | marks => exact kept_ite (P := ChargeOk) h h
  | fridge raw => exact kept_ite (P := ChargeOk) h (kept_ite (P := ChargeOk) h (charge_followCall h))
  | faultClear => exact kept_ite (charge_followCall h) h
  | blind => exact kept_ite (charge_followCall h) h
  | guard => obtain ⟨f, hf⟩ := guardEnd_eq d; exact hf ▸ h
  | fade => exact h
  | sense t => exact h
  | overCurrent c => exact kept_ite (k.setCauseAndRecompute _ _ h) h
  | engineFrame id data => exact kept_ite (charge_engineBecomes _ h) h
  | engineLost => exact kept_ite (charge_engineBecomes _ h) h
  | activityFrame id data => exact kept_ite (k.whole.report _ _ (k.whole.report _ _ h)) h
  | activityLost => exact kept_ite (k.whole.report _ _ (k.whole.report _ _ h)) h
  | status => exact h
  | sent => exact h
  | failed => exact h
  | rejoin => exact h
  | accrue => exact k.whole.accrueBoth h
  | settle dr => exact k.whole.settle dr h
  | incomplete dr => exact h
  | dashRepeat dr => exact h
  | dashEnd dr => exact h
  | bunkEnd dr => exact h
  | waking dr _ => exact k.whole.enterWaking dr h
  | due dr _ => exact k.whole.enterDue dr h
  | ramp dr =>
    unfold rampTick
    split
    · exact h
    · split
      · exact k.whole.handRamp _ _ _ h
      · exact h
    · exact h
  | call dr => exact k.whole.callOnset dr h
  | unanswered dr => exact k.whole.retirePlan dr _ h
  | begun => exact h
  | clock => exact kept_after (P := ChargeOk) (f := countSecond) (c := decide (d.clock.cs + 1 ≥ 100) = true) (fun _ x => x) h

theorem charge_acts {st : Station} {d e : Device} (a : Acts st d e) (h : ChargeOk d) : ChargeOk e := by
  have k := kept_charge
  cases a with
  | same => exact h
  | swap b => exact h
  | mark x => cases x <;> exact h
  | ack dr => exact k.whole.acknowledge dr h
  | create fn x b cls params flags free _ _ _ => exact k.created free h
  | amend x r b _ _ _ => exact k.amended st x r b h
  | retire x _ _ _ how _ => exact k.retireRecord x _ how h
  | restart => exact k.restartDevice (fun _ h => h) h

theorem charge_replies {st : Station} {d e : Device} (r : Replies st d e) (h : ChargeOk d) : ChargeOk e :=
  resting_charge.toHeld.replies (fun _ a => charge_acts a h) (fun _ _ _ _ _ => by rw [askWrite_eq]; exact h)
    (fun _ _ _ _ _ => by rw [askWrite_eq]; exact h) r

/-- Every setting but the capacity leaves the capacity. -/
theorem applyChange_capacity (c : Change) (s : Settings) (hc : ∀ v, c ≠ .num .capacity v) :
    (applyChange c s).capacity = s.capacity := by
  cases c with
  | num p v =>
    cases p with
    | capacity => exact absurd rfl (hc v)
    | scale k => cases k <;> rfl
    | _ => rfl
  | _ => rfl

theorem charge_capacityChanged {d : Device} (hc : d.settings.capacity = cap) : ChargeOk (capacityChanged cap d) := by
  unfold capacityChanged
  refine kept_charge.recompute ?_
  rw [ChargeOk]
  dsimp only
  rw [hc]
  split
  · exact Nat.le_refl _
  next h => exact Nat.le_of_not_lt h

theorem charge_completeWrite {d : Device} (h : ChargeOk d) : ChargeOk (completeWrite d) := by
  refine completeWrite_kept h fun i j rest _ _ => ?_
  have k := resting_charge
  have other : (∀ v, j.change ≠ .num .capacity v) → ChargeOk (written i j rest d) := fun hc =>
    charge_congr (d := d) (Nat.le_refl _) (applyChange_capacity _ _ hc) h
  have h1 : ChargeOk (changed j.change d.settings (written i j rest d)) := by
    refine k.toHeld.changed _ _ (fun ⟨w, v, e⟩ => other fun x hx => by rw [e] at hx; cases hx) (fun v e => ?_) (fun h => h)
      (fun h _ => h) fun _ hc => other hc
    have cap : (written i j rest d).settings.capacity = v.toNat := by
      unfold written
      rw [e]
      rfl
    split
    next hv => exact charge_congr (d := d) (Nat.le_refl _) (cap.trans hv) h
    · exact charge_capacityChanged cap
  have h2 : ChargeOk (resumed i j rest d) := k.toHeld.releaseAnswer (k.goOn _ _ (fun _ => h1) fun _ => h1)
  rw [beginWrite_eq]
  exact kept_ite (P := ChargeOk) (takeLate_kept (fun d a b hd => k.slotBoundary a b hd hd) h2) h2

theorem charge_pollsOn {d e : Device} (p : PollsOn d e) (h : ChargeOk d) : ChargeOk e := by
  obtain ⟨⟨l, rfl, -⟩, -⟩ := p; exact h

theorem charge_move {d e : Device} (m : Move d e) (h : ChargeOk d) : ChargeOk e := by
  have k := resting_charge
  cases m with
  | same => exact h
  | reset => exact h
  | quiet e _ q => exact charge_quiet q h
  | poll => exact charge_pollsOn (pollsOn_sendPoll d) h
  | pauseEnd => exact charge_pollsOn (pollsOn_endPause d) h
  | idle => exact charge_pollsOn (pollsOn_takeIdle d) h
  | miss => exact charge_pollsOn (pollsOn_takeMiss d) h
  | serve st c e _ _ r => exact charge_replies r h
  | reading a b _ => exact k.toHeld.heaterTake _ h
  | timer t _ => exact k.toHeld.heaterTake _ h
  | slot a b _ => exact k.slotBoundary a b h h
  | complete _ => exact charge_completeWrite h

theorem charge_powerUp (okA okB : Bool) (d : Device) : ChargeOk (powerUp okA okB d) :=
  powerUp_kept resting_charge.toSlots okA okB d (fun e c _ h => by rw [askWrite_eq]; exact h)
    fun c x _ _ => Nat.div_le_self _ _

/-! ## The books -/

theorem books_iff (d : Device) : BooksOk d ↔ LedgerOk d ∧ ChargeOk d ∧ StoreOk d ∧ WaitsOk d := by
  unfold BooksOk LedgerOk
  tauto

/-- Settles O58: each part of the books is kept by every move of a step and holds right after power-on. -/
theorem everyStepKeepsTheBooks : Obligations.EveryStepKeepsTheBooks := by
  intro s t h hs
  rw [books_iff] at h ⊢
  obtain ⟨hl, hc, hst, hw⟩ := h
  rcases step_moves s t hs with ⟨a, b, -, ht⟩ | m
  · rw [ht]
    exact ⟨ledger_powerUp a b _, charge_powerUp a b _, storeOk_powerUp a b _, waitsOk_powerUp a b _⟩
  · exact ⟨ledger_move m hl, charge_move m hc, storeOk_move m hst, waitsOk_move m hw⟩

end Sys2Proof.Machine
end

section
/-! PROOF. At most one request is open at a time (`JobsOk`), the scheduler waits while a write of its own is asked for
(`SchedOk`), and the lock on the floor holds (`LockOk`). -/

namespace Sys2Proof.Machine
open Sys2Proof

/-! ## Open requests -/

/-- How many of a write's answers a request waits for. -/
def Job.weight (j : Job) : Nat := (if j.answers then 1 else 0) + (if j.clears then 1 else 0)

/-- The requests that writes asked for are to answer. -/
def jobWeight (js : List Job) : Nat := (js.filter Job.answers).length + (js.filter Job.clears).length

theorem jobWeight_cons (j : Job) (js : List Job) : jobWeight (j :: js) = j.weight + jobWeight js := by
  unfold jobWeight Job.weight
  cases ha : j.answers
  · cases hc : j.clears
    · simp [ha, hc]
    · simp [ha, hc]; omega
  · cases hc : j.clears
    · simp [ha, hc]; omega
    · simp [ha, hc]; omega

theorem jobWeight_append (js : List Job) (j : Job) : jobWeight (js ++ [j]) = jobWeight js + j.weight := by
  induction js with
  | nil => rw [List.nil_append, jobWeight_cons, Nat.add_comm]
  | cons x xs ih => rw [List.cons_append, jobWeight_cons, jobWeight_cons, ih, Nat.add_assoc]

/-- The clears of the lockout among held messages. -/
def clearCount (ms : List HeaterMsg) : Nat := (ms.filter HeaterMsg.isClear).length

theorem clearCount_clear (ms : List HeaterMsg) (st : Station) : clearCount (ms ++ [.clear st]) = clearCount ms + 1 := by
  unfold clearCount
  rw [List.filter_append, List.length_append]
  rfl

theorem openRequests_eq (d : Device) : openRequests d =
    jobWeight d.store.jobs + clearCount d.heater.held + if d.link.heldAnswer.isSome then 1 else 0 := rfl

/-- Every write of a setting answers a request; with `n` requests taken up besides, at most one is open, and the port
serves a station while one is. -/
def JobsP (n : Nat) (d : Device) : Prop :=
  (∀ j ∈ d.store.jobs, j.change.isOwn = true ∨ j.answers = true) ∧
  openRequests d + n ≤ 1 ∧ (openRequests d + n = 1 → ∃ st, d.link.phase = .serving st)

theorem jobsOk_iff {d : Device} (hr : d.inReset = false) : JobsOk d ↔ JobsP 0 d := by
  unfold JobsOk JobsP
  simp only [hr, true_imp_iff, Nat.add_zero]

theorem jobsOk_of_jobsP {d : Device} (h : JobsP 0 d) : JobsOk d := ⟨h.1, fun _ => h.2⟩

theorem still_jobsP (n : Nat) : StillKept (JobsP n) := fun d e s h => by
  unfold JobsP at h ⊢
  rw [openRequests_eq] at h ⊢
  unfold clearCount at h ⊢
  rw [s.jobs, s.clears, s.heldAnswer, s.phase]
  exact h

/-- A write that answers no request is asked for. -/
theorem jobsP_askWrite_own {n : Nat} {c : Change} {k : Cont} {d : Device} (hc : c.isOwn = true)
    (hw : (⟨c, k⟩ : Job).weight = 0) (h : JobsP n d) : JobsP n (askWrite c k d) := by
  obtain ⟨hj, hn, hs⟩ := h
  have hopen : openRequests (askWrite c k d) = openRequests d := by
    rw [openRequests_eq, openRequests_eq, askWrite_jobs, jobWeight_append, hw, askWrite_eq]
    rfl
  refine ⟨fun j hm => ?_, hopen.symm ▸ hn, hopen.symm ▸ fun x => ?_⟩
  · rw [askWrite_jobs] at hm
    rcases List.mem_append.mp hm with hm | hm
    · exact hj j hm
    · rw [List.mem_singleton.mp hm]; exact .inl hc
  · rw [askWrite_eq]; exact hs x

/-- A write that answers the request taken up is asked for. -/
theorem jobsP_askWrite_answers {c : Change} {k : Cont} {d : Device} (hj : c.isOwn = true ∨ (⟨c, k⟩ : Job).answers = true)
    (hw : (⟨c, k⟩ : Job).weight = 1) (h : JobsP 1 d) : JobsP 0 (askWrite c k d) := by
  obtain ⟨hall, hn, hs⟩ := h
  have hopen : openRequests (askWrite c k d) = openRequests d + 1 := by
    rw [openRequests_eq, openRequests_eq, askWrite_jobs, jobWeight_append, hw, askWrite_eq]
    dsimp only
    omega
  refine ⟨fun j hm => ?_, hopen.symm ▸ hn, fun x => ?_⟩
  · rw [askWrite_jobs] at hm
    rcases List.mem_append.mp hm with hm | hm
    · exact hall j hm
    · rw [List.mem_singleton.mp hm]; exact hj
  · rw [askWrite_eq]; exact hs (by rw [hopen] at x; exact x)

theorem weight_of_ne {c : Change} {k : Cont} (ha : ∀ st ty code spec, k ≠ .answer st ty code spec)
    (hl : ∀ st, k ≠ .lockoutCleared st) : (⟨c, k⟩ : Job).weight = 0 := by
  cases k with
  | answer st ty code spec => exact absurd rfl (ha st ty code spec)
  | lockoutCleared st => exact absurd rfl (hl st)
  | _ => rfl

theorem work_jobsP (n : Nat) : Work (JobsP n) where
  toWhole := (Kept.of_still (still_jobsP n)).whole
  slots d x _ hw ho hl h := still_jobsP n _ _ ((Still.refl d).sched x hw ho hl) h
  write d c k hc ha hk _ h := by
    refine jobsP_askWrite_own (d := setHeat (fun h => { h with waiting := true }) d) hc (weight_of_ne ?_ hk) h
    rintro st ty code spec rfl
    exact ha rfl

theorem jobsP_free {n : Nat} {d : Device} (h : JobsP n d) : JobsP n (freeSched d) := h

theorem jobsP_swapTables {n : Nat} {d : Device} (a b : Bool) (h : JobsP n d) : JobsP n (swapTables a b d) := by
  unfold swapTables
  exact jobsP_askWrite_own rfl rfl h

theorem jobsP_slotBoundary {n : Nat} {d : Device} (a b : Bool) (h : JobsP n d) : JobsP n (slotBoundary a b d) :=
  kept_ite (P := JobsP n) h (kept_ite ((work_jobsP n).slotWithin h)
    ((work_jobsP n).frameBoundary a b (fun _ => jobsP_swapTables a b) (fun _ => (work_jobsP n).openFrame_free _ _ _) h))

/-- The answer to the request taken up leaves no request open. -/
theorem jobsP_answer {d : Device} (st : Station) (ty : Byte) (code : AnswerCode) (body : List Byte) (h : JobsP 1 d) :
    JobsP 0 (answer st ty code body d) := by
  obtain ⟨hj, hn, -⟩ := h
  have hopen : openRequests (answer st ty code body d) ≤ openRequests d := Nat.add_le_add_left (Nat.zero_le _) _
  exact ⟨hj, by omega, fun x => by omega⟩

/-- An answer that is held keeps the request open, and the port serves its station. -/
theorem jobsP_answerAfter {d : Device} (old : Device) (st : Station) (ty : Byte) (code : AnswerCode) (spec : AnswerSpec)
    (h : JobsP 1 d) : JobsP 0 (answerAfter old st ty code spec d) := by
  unfold answerAfter
  split
  · obtain ⟨hj, hn, -⟩ := h
    refine ⟨hj, ?_, fun _ => ⟨st, rfl⟩⟩
    rw [openRequests_eq] at hn ⊢
    simp only [setLink, Option.isSome_some, if_true]
    omega
  · exact jobsP_answer _ _ _ _ h

theorem jobsP_clear {d : Device} (st : Station) (h : JobsP 1 d) : JobsP 0 (heaterTake d (.clear st)) := by
  have held : JobsP 0 (holdMsg (.clear st) d) := by
    obtain ⟨hj, hn, hs⟩ := h
    have hopen : openRequests (holdMsg (.clear st) d) = openRequests d + 1 := by
      have hc : clearCount (holdMsg (.clear st) d).heater.held = clearCount d.heater.held + 1 := clearCount_clear _ st
      have sum : ∀ a b c : Nat, a + (b + 1) + c = a + b + c + 1 := by omega
      rw [openRequests_eq, openRequests_eq, hc]
      exact sum _ _ _
    exact ⟨hj, hopen.symm ▸ hn, hopen.symm ▸ hs⟩
  have taken : JobsP 0 (clearLockout st d) := by
    unfold clearLockout
    split
    · exact jobsP_askWrite_answers (d := setHeat (fun h => { h with waiting := true }) d) (c := .lockout .none)
        (k := .lockoutCleared st) (.inl rfl) rfl h
    · exact jobsP_answer _ _ _ _ h
  exact kept_ite held taken

/-- The messages held are taken in order, with each clear among them one request taken up. -/
theorem jobsP_takeAll : ∀ (ms : List HeaterMsg) (d : Device), JobsP (clearCount ms) d → JobsP 0 (ms.foldl heaterTake d)
  | [], _, h => h
  | m :: ms, d, h => by
    cases hm : m.isClear
    · refine jobsP_takeAll ms _ ((work_jobsP _).heaterTake hm ?_)
      rwa [clearCount, List.filter_cons_of_neg (by simp [hm])] at h
    · have hc : clearCount (m :: ms) = clearCount ms + 1 := by
        rw [clearCount, List.filter_cons_of_pos hm]; rfl
      have zero : clearCount ms = 0 := by have := h.2.1; omega
      refine jobsP_takeAll ms _ ?_
      rw [zero]
      cases m with
      | clear st => exact jobsP_clear st (by rw [hc, zero] at h; exact h)
      | _ => cases hm

/-- The sequencer's wait ends with a count of the clears that it holds. -/
theorem jobsP_resumed {n : Nat} {d : Device} (h : JobsP n d) :
    JobsP (n + clearCount d.heater.held) (setHeat (fun h => { h with waiting := false, held := [] }) d) := by
  obtain ⟨hj, hn, hs⟩ := h
  have hopen : openRequests (setHeat (fun h => { h with waiting := false, held := [] }) d) + clearCount d.heater.held =
      openRequests d := by
    rw [openRequests_eq, openRequests_eq]
    exact Nat.add_right_comm _ _ _
  exact ⟨hj, by omega, fun x => hs (by omega)⟩

theorem jobsP_heaterResume {f : Device → Device} {d : Device}
    (hf : ∀ n d, d.heater.waiting = false → JobsP n d → JobsP n (f d)) (h : JobsP 0 d) : JobsP 0 (heaterResume f d) := by
  have h1 := jobsP_resumed h
  rw [Nat.zero_add] at h1
  exact jobsP_takeAll _ _ (hf _ _ rfl h1)

theorem jobsP_lockoutCleared {d : Device} (st : Station) (h : JobsP 1 d) : JobsP 0 (lockoutCleared st d) := by
  have k := work_jobsP 1
  exact jobsP_answerAfter _ _ _ _ _ (k.seeDemand (k.setCauseAndRecompute (fun _ => ⟨rfl, rfl⟩)
    (k.setHeater _ (k.setHeat _ rfl rfl rfl h))))

/-- What waited goes on, with the request that the completed write answers taken up. -/
theorem jobsP_goOn {d : Device} (c : Change) (n : Cont) (old : Device) (h : JobsP (⟨c, n⟩ : Job).weight d) :
    JobsP 0 (goOn n old d) := by
  cases n with
  | answer st ty code spec =>
    exact jobsP_answerAfter (d := { d with store := { d.store with defaulted := false } }) _ _ _ _ _ h
  | ignite => exact jobsP_heaterResume (fun n _ _ => (work_jobsP n).fuelOn) h
  | overheat => exact jobsP_heaterResume (fun n _ _ => (work_jobsP n).overheatWritten) h
  | attemptFailed => exact jobsP_heaterResume (fun n _ _ => (work_jobsP n).purgeFailed) h
  | purgeHot => exact jobsP_heaterResume (fun n _ => (work_jobsP n).hotWritten) h
  | purgeEnd x => exact jobsP_heaterResume (fun n _ _ => (work_jobsP n).purgeWritten x) h
  | lockoutCleared st =>
    have none : clearCount d.heater.held = 0 := by
      have h1 := h.2.1
      rw [openRequests_eq] at h1
      have : (⟨c, .lockoutCleared st⟩ : Job).weight = 1 := rfl
      omega
    have h0 := jobsP_resumed h
    rw [none] at h0
    have h1 := jobsP_lockoutCleared st h0
    exact jobsP_takeAll d.heater.held _ (by rw [none]; exact h1)
  | boundary f x =>
    exact (work_jobsP 0).boundaryWritten f x (fun _ => h) fun _ => h
  | nothing => exact h

theorem jobsP_releaseAnswer {d : Device} (h : JobsP 0 d) : JobsP 0 (releaseAnswer d) := by
  unfold releaseAnswer
  split
  next a ha =>
    split
    · exact h
    · obtain ⟨hj, hn, -⟩ := h
      have hopen : openRequests (answer a.station a.type a.code (specBytes d a.station a.spec) d) + 1 = openRequests d := by
        rw [openRequests_eq, openRequests_eq, ha]
        rfl
      exact ⟨hj, by omega, fun x => by omega⟩
  · exact h

/-- The completed write is asked for no more. -/
theorem jobsP_written {d : Device} (i : ImageId) {j : Job} {rest : List Job} (hj : d.store.jobs = j :: rest)
    (h : JobsP 0 d) : JobsP j.weight (written i j rest d) := by
  obtain ⟨hall, hn, hs⟩ := h
  have hopen : openRequests (written i j rest d) + j.weight = openRequests d := by
    have sum : ∀ a b c w : Nat, a + b + c + w = w + a + b + c := by omega
    rw [openRequests_eq, openRequests_eq, hj, jobWeight_cons]
    exact sum _ _ _ _
  exact ⟨fun x hx => hall x (by rw [hj]; exact List.mem_cons_of_mem _ hx), by omega, fun x => hs (by omega)⟩

theorem jobsP_changed {n : Nat} {d : Device} (c : Change) (old : Settings) (h : JobsP n d) : JobsP n (changed c old d) :=
  (work_jobsP n).changed_still (still_jobsP n) c old (fun _ => h) fun _ => h

theorem jobsP_completeWrite {d : Device} (h : JobsP 0 d) : JobsP 0 (completeWrite d) := by
  refine completeWrite_kept h fun i j rest _ hj => ?_
  have h1 : JobsP 0 (resumed i j rest d) :=
    jobsP_releaseAnswer (jobsP_goOn j.change j.cont _ (jobsP_changed _ _ (jobsP_written i hj h)))
  have h2 : JobsP 0 (if d.sched.waiting then takeLate (resumed i j rest d) else resumed i j rest d) :=
    kept_ite (takeLate_kept (fun d a b => jobsP_slotBoundary a b) h1) h1
  have hopen : ∀ e, openRequests (beginWrite e) = openRequests e := fun e => by
    rw [openRequests_eq, openRequests_eq, beginWrite_jobs, beginWrite_eq]
  obtain ⟨ha, hn, hs⟩ := h2
  refine ⟨by rw [beginWrite_jobs]; exact ha, by rw [hopen]; exact hn, fun x => ?_⟩
  rw [hopen] at x
  rw [beginWrite_eq]
  exact hs x

/-- While a reply is awaited no request is open; the request that it carries is taken up. -/
theorem jobsP_opened {d : Device} {x st : Station} {c : Bool} (hp : d.link.phase = .awaiting x c) (h : JobsP 0 d) :
    JobsP 1 (opened st d) := by
  obtain ⟨hj, hn, hs⟩ := h
  have hopen : openRequests (opened st d) = openRequests d := rfl
  have zero : openRequests d = 0 := by
    by_contra hne
    obtain ⟨y, hy⟩ := hs (by omega)
    rw [hp] at hy
    cases hy
  exact ⟨hj, by omega, fun _ => ⟨st, rfl⟩⟩

theorem jobsP_replies {d e : Device} {st : Station} (r : Replies st d e) (h : JobsP 1 d) : JobsP 0 e := by
  cases r with
  | answer e ty code body a => exact jobsP_answer _ _ _ _ (still_jobsP 1 _ _ (acts_still a) h)
  | after e ty code spec a => exact jobsP_answerAfter _ _ _ _ _ (still_jobsP 1 _ _ (acts_still a) h)
  | write c ty code spec _ => exact jobsP_askWrite_answers (.inr rfl) rfl h
  | current w v ty code spec => exact jobsP_askWrite_answers (d := keepIdle d) (.inr rfl) rfl h
  | clear => exact jobsP_clear st h

theorem jobsP_pollsOn {d e : Device} (p : PollsOn d e) (h : JobsP 0 d) : JobsP 0 e := by
  obtain ⟨⟨l, rfl, hl⟩, hs⟩ := p
  obtain ⟨hj, hn, hserve⟩ := h
  have hopen : openRequests { d with link := l } = openRequests d := by
    rw [openRequests_eq, openRequests_eq, hl]
  refine ⟨hj, hopen.symm ▸ hn, fun x => ?_⟩
  obtain ⟨st, hst⟩ := hserve (by rw [hopen] at x; exact x)
  have : l = d.link := congrArg Device.link (hs st hst)
  exact ⟨st, this ▸ hst⟩

theorem jobsP_move {d e : Device} (hr : d.inReset = false) (m : Move d e) (h : JobsP 0 d) : JobsOk e := by
  cases m with
  | same => exact jobsOk_of_jobsP h
  | reset => exact ⟨fun _ hj => absurd hj List.not_mem_nil, nofun⟩
  | quiet e _ q => exact jobsOk_of_jobsP (still_jobsP 0 _ _ (quiet_still q) h)
  | poll => exact jobsOk_of_jobsP (jobsP_pollsOn (pollsOn_sendPoll d) h)
  | pauseEnd => exact jobsOk_of_jobsP (jobsP_pollsOn (pollsOn_endPause d) h)
  | idle => exact jobsOk_of_jobsP (jobsP_pollsOn (pollsOn_takeIdle d) h)
  | miss => exact jobsOk_of_jobsP (jobsP_pollsOn (pollsOn_takeMiss d) h)
  | serve st c e _ hp r => exact jobsOk_of_jobsP (jobsP_replies r (jobsP_opened hp h))
  | reading a b _ =>
    exact jobsOk_of_jobsP ((work_jobsP 0).heaterTake rfl (still_jobsP 0 _ _ ((Still.refl d).leads _) h))
  | timer t _ => exact jobsOk_of_jobsP ((work_jobsP 0).heaterTake rfl h)
  | slot a b _ => exact jobsOk_of_jobsP (jobsP_slotBoundary a b h)
  | complete _ => exact jobsOk_of_jobsP (jobsP_completeWrite h)

/-- In reset a move leaves the part as it is, or enters reset again. -/
theorem move_inReset {d e : Device} (hr : d.inReset = true) (m : Move d e) : e = d ∨ e = enterReset d := by
  cases m with
  | same => exact .inl rfl
  | reset => exact .inr rfl
  | quiet _ live _ => rw [hr] at live; cases live
  | poll live => rw [hr] at live; cases live
  | pauseEnd live => rw [hr] at live; cases live
  | idle live => rw [hr] at live; cases live
  | miss live => rw [hr] at live; cases live
  | serve _ _ _ live => rw [hr] at live; cases live
  | reading _ _ live => rw [hr] at live; cases live
  | timer _ live => rw [hr] at live; cases live
  | slot _ _ live => rw [hr] at live; cases live
  | complete live => rw [hr] at live; cases live

theorem jobsOk_enterReset (d : Device) : JobsOk (enterReset d) := ⟨fun _ hj => absurd hj List.not_mem_nil, nofun⟩

theorem jobsOk_move {d e : Device} (m : Move d e) (h : JobsOk d) : JobsOk e := by
  cases hr : d.inReset
  · exact jobsP_move hr m ((jobsOk_iff hr).mp h)
  · rcases move_inReset hr m with rfl | rfl
    · exact h
    · exact jobsOk_enterReset d

theorem jobsOk_powerUp (okA okB : Bool) (d : Device) : JobsOk (powerUp okA okB d) := by
  refine jobsOk_of_jobsP (powerUp_kept (work_jobsP 0).toSlots okA okB d (fun e c hc h => jobsP_askWrite_own hc rfl h) ?_)
  intro c x hj _
  refine (Kept.of_still (still_jobsP 0)).settled.rebuildLadder ?_
  have hopen : openRequests (startDevice c x d.leads) = 0 := by
    have hj : (startDevice c x d.leads).store.jobs = [] := hj
    rw [openRequests_eq, hj]
    rfl
  refine ⟨fun j hm => ?_, by omega, fun h => by omega⟩
  rw [show (startDevice c x d.leads).store.jobs = [] from hj] at hm
  cases hm

end Sys2Proof.Machine
end

section
/-! PROOF. The scheduler waits while a write of its own is asked for (`SchedOk`), and the lock on the floor holds
(`LockOk`). -/

namespace Sys2Proof.Machine
open Sys2Proof

/-! ## The waits of the scheduler -/

/-- `SchedOk` without the condition that the part is out of reset. -/
def SchedP (d : Device) : Prop :=
  (∀ j ∈ d.store.jobs, j.ofSched = true → d.sched.waiting = true) ∧
  (d.sched.owed.isSome = true → d.sched.waiting = true ∧ ∃ j ∈ d.store.jobs, j.ofCurrent = true) ∧
  (d.store.jobs.filter Job.isBoundary).length + (if d.sched.owed.isSome then 1 else 0) ≤ 1 ∧
  d.store.jobs.Pairwise fun j k => j.ofCurrent = true → k.isBoundary = false

theorem schedOk_iff (d : Device) : SchedOk d ↔ (d.inReset = false → SchedP d) := Iff.rfl

/-- No frame boundary is written or owed, and the scheduler waits while a change of a current is asked for. -/
def NoBoundary (d : Device) : Prop :=
  (∀ j ∈ d.store.jobs, j.ofSched = true → d.sched.waiting = true) ∧
  (∀ j ∈ d.store.jobs, j.isBoundary = false) ∧ d.sched.owed = none

theorem ofSched_iff (j : Job) : j.ofSched = true ↔ j.isBoundary = true ∨ j.ofCurrent = true := Bool.or_eq_true_iff

theorem ofCurrent_of_own {j : Job} (h : j.change.isOwn = true) : j.ofCurrent = false := by
  refine Bool.eq_false_iff.mpr fun hc => ?_
  obtain ⟨w, v, e⟩ := (ofCurrent_iff j).mp hc
  rw [e] at h
  cases h

theorem still_schedP : StillKept SchedP := fun d e s h => by
  unfold SchedP
  rw [s.jobs, s.schedWaiting, s.owed]
  exact h

theorem still_noBoundary : StillKept NoBoundary := fun d e s h => by
  unfold NoBoundary
  rw [s.jobs, s.schedWaiting, s.owed]
  exact h

/-- A write that is not the scheduler's is asked for. -/
theorem schedP_askWrite {c : Change} {n : Cont} {d : Device} (hs : (⟨c, n⟩ : Job).ofSched = false) (h : SchedP d) :
    SchedP (askWrite c n d) := by
  obtain ⟨hw, ho, hn, hp⟩ := h
  have hb : (⟨c, n⟩ : Job).isBoundary = false := (Bool.or_eq_false_iff.mp hs).1
  rw [SchedP, askWrite_jobs, askWrite_eq]
  refine ⟨fun j hj hsj => ?_, fun h => ?_, ?_, ?_⟩
  · rcases List.mem_append.mp hj with hj | hj
    · exact hw j hj hsj
    · rw [List.mem_singleton.mp hj, hs] at hsj; cases hsj
  · obtain ⟨h1, j, hj, hc⟩ := ho h
    exact ⟨h1, j, List.mem_append_left _ hj, hc⟩
  · rw [List.filter_append, List.filter_singleton, hb]
    simpa using hn
  · exact List.pairwise_append.mpr ⟨hp, List.pairwise_singleton _ _, fun j _ k hk _ => by
      rw [List.mem_singleton.mp hk]; exact hb⟩

theorem noBoundary_askWrite {c : Change} {n : Cont} {d : Device} (hs : (⟨c, n⟩ : Job).ofSched = false)
    (h : NoBoundary d) : NoBoundary (askWrite c n d) := by
  obtain ⟨hw, hb, ho⟩ := h
  rw [NoBoundary, askWrite_jobs, askWrite_eq]
  refine ⟨fun j hj hsj => ?_, fun j hj => ?_, ho⟩
  · rcases List.mem_append.mp hj with hj | hj
    · exact hw j hj hsj
    · rw [List.mem_singleton.mp hj, hs] at hsj; cases hsj
  · rcases List.mem_append.mp hj with hj | hj
    · exact hb j hj
    · rw [List.mem_singleton.mp hj]; exact (Bool.or_eq_false_iff.mp hs).1

theorem ofSched_asked {c : Change} {n : Cont} (hc : c.isOwn = true) (hn : n.askedIn ≠ []) :
    (⟨c, n⟩ : Job).ofSched = false := by
  refine Bool.or_eq_false_iff.mpr ⟨Bool.eq_false_iff.mpr fun hb => ?_, ofCurrent_of_own hc⟩
  obtain ⟨f, x, e⟩ := (isBoundary_iff _).mp hb
  exact hn (by rw [show n = .boundary f x from e]; rfl)

theorem held_schedP : Held SchedP where
  toWhole := (Kept.of_still still_schedP).whole
  slots d x _ hw ho hl h := still_schedP _ _ ((Still.refl d).sched x hw ho hl) h
  asked d c n hc hn h :=
    schedP_askWrite (d := setHeat (fun h => { h with waiting := true }) d) (ofSched_asked hc hn) h
  answer _ _ _ _ _ h := h
  hold _ _ _ _ h := h
  holdClear _ _ h := h
  accepted _ h := h

theorem held_noBoundary : Held NoBoundary where
  toWhole := (Kept.of_still still_noBoundary).whole
  slots d x _ hw ho hl h := still_noBoundary _ _ ((Still.refl d).sched x hw ho hl) h
  asked d c n hc hn h :=
    noBoundary_askWrite (d := setHeat (fun h => { h with waiting := true }) d) (ofSched_asked hc hn) h
  answer _ _ _ _ _ h := h
  hold _ _ _ _ h := h
  holdClear _ _ h := h
  accepted _ h := h

/-- With no write of the scheduler's asked for, it may go on. -/
theorem schedP_free {d : Device} (h : ∀ j ∈ d.store.jobs, j.ofSched = false) : SchedP (freeSched d) := by
  have hb : ∀ j ∈ d.store.jobs, j.isBoundary = false := fun j hj => (Bool.or_eq_false_iff.mp (h j hj)).1
  refine ⟨fun j hj hs => ?_, nofun, ?_, ?_⟩
  · rw [h j hj] at hs; cases hs
  · have none : d.store.jobs.filter Job.isBoundary = [] := List.filter_eq_nil_iff.mpr fun j hj => by simp [hb j hj]
    have : (freeSched d).store.jobs.filter Job.isBoundary = [] := none
    rw [this]
    exact Nat.zero_le _
  · exact List.pairwise_iff_forall_sublist.mpr fun {j k} hs _ => hb k (hs.subset (by simp))

theorem schedP_of_noBoundary {d : Device} (h : NoBoundary d) : SchedP d := by
  obtain ⟨hw, hb, ho⟩ := h
  refine ⟨hw, fun hx => ?_, ?_, ?_⟩
  · rw [ho] at hx; cases hx
  · rw [List.filter_eq_nil_iff.mpr fun j hj => by simp [hb j hj], ho]
    exact Nat.zero_le _
  · exact List.pairwise_iff_forall_sublist.mpr fun {j k} hs _ => hb k (hs.subset (by simp))

/-- While the scheduler does not wait, no write of its own is asked for and it owes no boundary. -/
theorem free_of_schedP {d : Device} (hw : d.sched.waiting = false) (h : SchedP d) :
    (∀ j ∈ d.store.jobs, j.ofSched = false) ∧ d.sched.owed = none := by
  obtain ⟨hj, ho, -, -⟩ := h
  refine ⟨fun j hm => Bool.eq_false_iff.mpr fun hs => ?_, Option.not_isSome_iff_eq_none.mp fun hs => ?_⟩
  · exact nomatch (hj j hm hs).symm.trans hw
  · exact nomatch (ho hs).1.symm.trans hw

/-- The tables are exchanged by a scheduler that waits for nothing. -/
theorem schedP_swapTables {d : Device} (a b : Bool) (hw : d.sched.waiting = false) (h : SchedP d) :
    SchedP (swapTables a b d) := by
  obtain ⟨hfree, howed⟩ := free_of_schedP hw h
  have hb : ∀ j ∈ d.store.jobs, j.isBoundary = false := fun j hj => (Bool.or_eq_false_iff.mp (hfree j hj)).1
  have hc : ∀ j ∈ d.store.jobs, j.ofCurrent = false := fun j hj => (Bool.or_eq_false_iff.mp (hfree j hj)).2
  rw [swapTables, SchedP, askWrite_jobs, askWrite_eq]
  refine ⟨fun _ _ _ => rfl, fun hs => ?_, ?_, ?_⟩
  · have hs : d.sched.owed.isSome = true := hs
    rw [howed] at hs
    cases hs
  · have none : d.store.jobs.filter Job.isBoundary = [] := List.filter_eq_nil_iff.mpr fun j hj => by simp [hb j hj]
    simp only [setSched, List.filter_append, none, howed]
    exact Nat.le_refl 1
  · refine List.pairwise_append.mpr ⟨?_, List.pairwise_singleton _ _, fun j hj k _ hjc => ?_⟩
    · exact h.2.2.2
    · rw [hc j hj] at hjc; cases hjc

theorem still_waitingFree : StillKept fun d => d.sched.waiting = false ∧ SchedP d := fun d e s h =>
  ⟨s.schedWaiting.trans h.1, still_schedP d e s h.2⟩

theorem held_waitingFree : Held fun d => d.sched.waiting = false ∧ SchedP d where
  toWhole := (Kept.of_still still_waitingFree).whole
  slots d x _ hw ho hl h := still_waitingFree _ _ ((Still.refl d).sched x hw ho hl) h
  asked d c n hc hn h := ⟨by rw [heaterWrite, askWrite_eq]; exact h.1, held_schedP.asked d c n hc hn h.2⟩
  answer _ _ _ _ _ h := h
  hold _ _ _ _ h := h
  holdClear _ _ h := h
  accepted _ h := h

theorem schedP_slotBoundary {d : Device} (a b : Bool) (h : SchedP d) : SchedP (slotBoundary a b d) := by
  unfold slotBoundary
  split
  · exact h
  next hw =>
    have free : d.sched.waiting = false ∧ SchedP d := ⟨Bool.eq_false_iff.mpr hw, h⟩
    refine kept_ite (held_schedP.slotWithin h) ?_
    exact held_waitingFree.frameBoundary (Q := SchedP) a b (fun e he => schedP_swapTables a b he.1 he.2)
      (fun e he => held_schedP.openFrame_free _ _ _ (schedP_free (free_of_schedP he.1 he.2).1)) free

/-! ### The rest of a write -/

/-- The write at the head of the queue is one that a request waits for, where it changes a setting. -/
theorem head_answers {d : Device} {j : Job} {rest : List Job} (hj : d.store.jobs = j :: rest) (hjobs : JobsP 0 d)
    (hown : j.change.isOwn = false) : j.answers = true ∧ ∀ k ∈ rest, k.change.isOwn = true := by
  obtain ⟨hall, hn, -⟩ := hjobs
  rw [hj] at hall
  have ha : j.answers = true := (hall j List.mem_cons_self).resolve_left (by rw [hown]; nofun)
  refine ⟨ha, fun k hk => (hall k (List.mem_cons_of_mem _ hk)).resolve_right fun hka => ?_⟩
  have two : 2 ≤ (d.store.jobs.filter Job.answers).length := by
    rw [hj, List.filter_cons_of_pos ha, List.length_cons]
    have := List.length_pos_of_mem (List.mem_filter.mpr ⟨hk, hka⟩)
    omega
  unfold openRequests at hn
  omega

theorem cont_of_answers {j : Job} (h : j.answers = true) : ∃ st ty code spec, j.cont = .answer st ty code spec := by
  unfold Job.answers at h
  split at h
  next st ty code spec e => exact ⟨st, ty, code, spec, e⟩
  · cases h

/-- A completed write that is not the scheduler's leaves its waits in order. -/
theorem schedP_written {d : Device} (i : ImageId) {j : Job} {rest : List Job} (hj : d.store.jobs = j :: rest)
    (hs : j.ofCurrent = false) (h : SchedP d) : SchedP (written i j rest d) := by
  obtain ⟨hw, ho, hn, hp⟩ := h
  rw [hj] at hw hn hp
  refine ⟨fun k hk hks => hw k (List.mem_cons_of_mem _ hk) hks, fun hx => ?_, ?_, (List.pairwise_cons.mp hp).2⟩
  · obtain ⟨h1, k, hk, hc⟩ := ho hx
    rw [hj] at hk
    rcases List.mem_cons.mp hk with rfl | hk
    · rw [hs] at hc; cases hc
    · exact ⟨h1, k, hk, hc⟩
  · have le : (rest.filter Job.isBoundary).length ≤ ((j :: rest).filter Job.isBoundary).length :=
      ((List.sublist_cons_self j rest).filter _).length_le
    have : (rest.filter Job.isBoundary).length + (if d.sched.owed.isSome then 1 else 0) ≤ 1 := by omega
    exact this

/-- A completed boundary's mark was the only boundary. -/
theorem noBoundary_written {d : Device} (i : ImageId) {j : Job} {rest : List Job} (hj : d.store.jobs = j :: rest)
    (hb : j.isBoundary = true) (h : SchedP d) : NoBoundary (written i j rest d) := by
  obtain ⟨hw, ho, hn, hp⟩ := h
  rw [hj] at hw hn
  rw [List.filter_cons_of_pos hb, List.length_cons] at hn
  refine ⟨fun k hk hks => hw k (List.mem_cons_of_mem _ hk) hks, fun k hk => Bool.eq_false_iff.mpr fun hkb => ?_, ?_⟩
  · have pos : 0 < (rest.filter Job.isBoundary).length := List.length_pos_of_mem (List.mem_filter.mpr ⟨hk, hkb⟩)
    omega
  · refine Option.not_isSome_iff_eq_none.mp fun hs => ?_
    have hs : d.sched.owed.isSome = true := hs
    rw [if_pos hs] at hn
    omega

theorem schedP_boundaryWritten {d : Device} (f x : Bool) (h : NoBoundary d) : SchedP (boundaryWritten f x d) := by
  obtain ⟨hw, hb, ho⟩ := h
  refine held_schedP.boundaryWritten f x (fun hp => ?_) fun hp => ?_
  · obtain ⟨j, hj, hc⟩ := (currentsPending_iff d).mp hp
    refine ⟨hw, fun _ => ⟨hw j hj ((ofSched_iff j).mpr (.inr hc)), j, hj, hc⟩, ?_, ?_⟩
    · have none : d.store.jobs.filter Job.isBoundary = [] := List.filter_eq_nil_iff.mpr fun j hj => by simp [hb j hj]
      simp [setSched, none]
    · exact List.pairwise_iff_forall_sublist.mpr fun {j k} hs _ => hb k (hs.subset (by simp))
  · refine schedP_free fun j hj => Bool.or_eq_false_iff.mpr ⟨hb j hj, Bool.eq_false_iff.mpr fun hc => ?_⟩
    rw [(currentsPending_iff d).mpr ⟨j, hj, hc⟩] at hp
    cases hp

theorem schedP_goOn {d : Device} (n : Cont) (old : Device) (hb : ∀ f x, n ≠ .boundary f x) (h : SchedP d) :
    SchedP (goOn n old d) :=
  held_schedP.goOn n old (fun _ => h) (fun f x e => absurd e (hb f x)) fun _ _ => h

theorem schedP_resumed {d : Device} (i : ImageId) {j : Job} {rest : List Job} (hj : d.store.jobs = j :: rest)
    (hjobs : JobsP 0 d) (h : SchedP d) : SchedP (resumed i j rest d) := by
  refine held_schedP.releaseAnswer ?_
  cases hc : j.ofCurrent
  · have notCurrent : ¬ ∃ w v, j.change = .num (.current w) v := fun e => by
      rw [(ofCurrent_iff j).mpr e] at hc; cases hc
    by_cases hb : j.isBoundary = true
    · obtain ⟨f, x, e⟩ := (isBoundary_iff j).mp hb
      rw [e]
      exact schedP_boundaryWritten f x (held_noBoundary.changed_still still_noBoundary _ _
        (fun e => absurd e notCurrent) fun _ => noBoundary_written i hj hb h)
    · refine schedP_goOn _ _ (fun f x e => hb ((isBoundary_iff j).mpr ⟨f, x, e⟩)) ?_
      exact held_schedP.changed_still still_schedP _ _ (fun e => absurd e notCurrent)
        fun _ => schedP_written i hj hc h
  · have hown : j.change.isOwn = false := by
      obtain ⟨w, v, e⟩ := (ofCurrent_iff j).mp hc
      rw [e]; rfl
    obtain ⟨ha, hrest⟩ := head_answers hj hjobs hown
    obtain ⟨st, ty, code, spec, e⟩ := cont_of_answers ha
    refine schedP_goOn _ _ (fun f x hf => by rw [hf] at e; cases e) ?_
    refine held_schedP.changed_still still_schedP _ _ (fun _ => schedP_free fun k hk => ?_)
      fun hn => absurd ((ofCurrent_iff j).mp hc) hn
    refine Bool.or_eq_false_iff.mpr ⟨?_, ofCurrent_of_own (hrest k hk)⟩
    have hp := h.2.2.2
    rw [hj] at hp
    exact (List.pairwise_cons.mp hp).1 k hk hc

theorem schedP_completeWrite {d : Device} (hjobs : JobsP 0 d) (h : SchedP d) : SchedP (completeWrite d) := by
  refine completeWrite_kept h fun i j rest _ hj => ?_
  have h1 := schedP_resumed i hj hjobs h
  rw [SchedP, beginWrite_jobs, beginWrite_eq]
  exact kept_ite (P := SchedP) (takeLate_kept (fun d a b => schedP_slotBoundary a b) h1) h1

theorem schedP_replies {d e : Device} {st : Station} (r : Replies st d e) (h : SchedP d) : SchedP e := by
  refine held_schedP.replies (fun _ a => still_schedP _ _ (acts_still a) h) (fun c ty code spec plain => ?_)
    (fun w v ty code spec => ?_) r
  · obtain ⟨-, hc, -⟩ := plain
    refine schedP_askWrite (Bool.or_eq_false_iff.mpr ⟨rfl, Bool.eq_false_iff.mpr fun h => ?_⟩) h
    obtain ⟨w, v, e⟩ := (ofCurrent_iff _).mp h
    exact hc w v e
  · obtain ⟨hw, ho, hn, hp⟩ := h
    rw [SchedP, askWrite_jobs, askWrite_eq]
    refine ⟨fun _ _ _ => rfl, fun _ => ⟨rfl, _, List.mem_append_right _ (List.mem_singleton.mpr rfl), rfl⟩, ?_, ?_⟩
    · have none : [(⟨.num (.current w) v, .answer st ty code spec⟩ : Job)].filter Job.isBoundary = [] := rfl
      rw [List.filter_append, none, List.append_nil]
      exact hn
    · exact List.pairwise_append.mpr ⟨hp, List.pairwise_singleton _ _, fun j _ k hk _ => by
        rw [List.mem_singleton.mp hk]; rfl⟩

theorem schedP_pollsOn {d e : Device} (p : PollsOn d e) (h : SchedP d) : SchedP e := by
  obtain ⟨⟨l, rfl, -⟩, -⟩ := p; exact h

theorem schedP_move {d e : Device} (hr : d.inReset = false) (m : Move d e) (hjobs : JobsP 0 d) (h : SchedP d) :
    SchedOk e := by
  have k := held_schedP
  cases m with
  | same => exact fun _ => h
  | reset => exact fun hr => nomatch hr
  | quiet e _ q => exact fun _ => still_schedP _ _ (quiet_still q) h
  | poll => exact fun _ => schedP_pollsOn (pollsOn_sendPoll d) h
  | pauseEnd => exact fun _ => schedP_pollsOn (pollsOn_endPause d) h
  | idle => exact fun _ => schedP_pollsOn (pollsOn_takeIdle d) h
  | miss => exact fun _ => schedP_pollsOn (pollsOn_takeMiss d) h
  | serve st c e _ _ r => exact fun _ => schedP_replies r h
  | reading a b _ => exact fun _ => k.heaterTake _ (still_schedP _ _ ((Still.refl d).leads _) h)
  | timer t _ => exact fun _ => k.heaterTake _ h
  | slot a b _ => exact fun _ => schedP_slotBoundary a b h
  | complete _ => exact fun _ => schedP_completeWrite hjobs h

theorem schedOk_move {d e : Device} (m : Move d e) (hjobs : JobsOk d) (h : SchedOk d) : SchedOk e := by
  cases hr : d.inReset
  · exact schedP_move hr m ((jobsOk_iff hr).mp hjobs) (h hr)
  · rcases move_inReset hr m with rfl | rfl
    · exact h
    · exact fun hr => nomatch hr

theorem schedOk_powerUp (okA okB : Bool) (d : Device) : SchedOk (powerUp okA okB d) := by
  refine fun _ => powerUp_kept held_schedP.toSlots okA okB d (fun e c hc h => schedP_askWrite ?_ h) fun c x hj _ => ?_
  · exact Bool.or_eq_false_iff.mpr ⟨rfl, ofCurrent_of_own hc⟩
  · refine (Kept.of_still still_schedP).settled.rebuildLadder ?_
    have hj : (startDevice c x d.leads).store.jobs = [] := hj
    have ho : (startDevice c x d.leads).sched.owed = none := rfl
    rw [SchedP, hj, ho]
    exact ⟨fun _ hm => absurd hm List.not_mem_nil, fun h => (Bool.false_ne_true h).elim, Nat.zero_le 1, List.Pairwise.nil⟩

/-! ## The lock on the floor -/

/-- While both marks are set, no write asked for lowers the floor or takes a lane out of the protected set. -/
def WritesKeepLock (d : Device) : Prop :=
  Locked d → ∀ j ∈ d.store.jobs, KeepsLocked d.settings (applyChange j.change d.settings)

theorem lockOk_iff (d : Device) : LockOk d ↔ JobsOk d ∧ WritesKeepLock d := Iff.rfl

theorem keepsLocked_of_eq {s t : Settings} (hf : t.floor = s.floor) (hp : t.protectedSet = s.protectedSet) : KeepsLocked s t :=
  ⟨hf.ge, fun l h => by rw [hp]; exact h⟩

/-- A block's own write leaves floor and protected set. -/
theorem applyChange_own {c : Change} (h : c.isOwn = true) (s : Settings) :
    (applyChange c s).floor = s.floor ∧ (applyChange c s).protectedSet = s.protectedSet := by
  cases c with
  | active | mark | lockout | markAndLockout => exact ⟨rfl, rfl⟩
  | _ => cases h

/-- What a write makes of floor and protected set depends on these two alone. -/
theorem applyChange_floor_congr (c : Change) {s t : Settings} (hf : t.floor = s.floor)
    (hp : t.protectedSet = s.protectedSet) :
    (applyChange c t).floor = (applyChange c s).floor ∧ (applyChange c t).protectedSet = (applyChange c s).protectedSet := by
  cases c with
  | num p v =>
    cases p with
    | capacity => exact ⟨congrArg (min · _) hf, hp⟩
    | scale k => cases k <;> exact ⟨hf, hp⟩
    | _ => exact ⟨hf, hp⟩
  | floor | protectedSet => first | exact ⟨rfl, hp⟩ | exact ⟨hf, rfl⟩
  | _ => exact ⟨hf, hp⟩

theorem keepsLocked_congr (c : Change) {s t : Settings} (hf : t.floor = s.floor) (hp : t.protectedSet = s.protectedSet)
    (h : KeepsLocked s (applyChange c s)) : KeepsLocked t (applyChange c t) := by
  obtain ⟨hfc, hpc⟩ := applyChange_floor_congr c hf hp
  obtain ⟨h1, h2⟩ := h
  refine ⟨by rw [hf, hfc]; exact h1, fun l hl => ?_⟩
  rw [hpc]
  exact h2 l (by rw [hp] at hl; exact hl)

/-- Where the lock stands no further, and the floor, the protected set and the writes are the same. -/
theorem writesKeepLock_congr {d e : Device} (hl : Locked e → Locked d) (hs : e.settings = d.settings)
    (hj : e.store.jobs = d.store.jobs) (h : WritesKeepLock d) : WritesKeepLock e := by
  unfold WritesKeepLock
  rw [hs, hj]
  exact fun x => h (hl x)

theorem locked_of_marks {d e : Device} (hc : e.bank.cabMark = d.bank.cabMark) (hf : e.bank.fleetMark = d.bank.fleetMark)
    (h : Locked e) : Locked d := ⟨hc.symm.trans h.1, hf.symm.trans h.2⟩

theorem writesKeepLock_askWrite {d : Device} {c : Change} (n : Cont)
    (hc : Locked d → KeepsLocked d.settings (applyChange c d.settings)) (h : WritesKeepLock d) :
    WritesKeepLock (askWrite c n d) := by
  rw [WritesKeepLock, askWrite_jobs, askWrite_eq]
  intro hl j hj
  rcases List.mem_append.mp hj with hj | hj
  · exact h hl j hj
  · rw [List.mem_singleton.mp hj]; exact hc hl

theorem keepsLocked_own {c : Change} (hc : c.isOwn = true) (s : Settings) : KeepsLocked s (applyChange c s) :=
  keepsLocked_of_eq (applyChange_own hc s).1 (applyChange_own hc s).2

theorem resting_writesKeepLock : Resting WritesKeepLock where
  toWhole := (Kept.of_steady fun s h => writesKeepLock_congr (fun hl => by rw [Locked, ← s.bank]; exact hl) s.settings
    (by rw [s.store]) h).whole
  slots _ _ _ _ _ _ h := h
  asked d c n hc _ h :=
    writesKeepLock_askWrite (d := setHeat (fun h => { h with waiting := true }) d) n (fun _ => keepsLocked_own hc _) h
  answer _ _ _ _ _ h := h
  hold _ _ _ _ h := h
  holdClear _ _ h := h
  accepted _ h := h
  unwait _ h := h
  swap d a b h := by
    unfold swapTables
    refine writesKeepLock_askWrite _ (fun _ => keepsLocked_own rfl _) fun hl j hj => ?_
    exact keepsLocked_congr (s := d.settings) j.change rfl rfl (h hl j hj)
  owe _ _ h := h

/-- The marks are set by no quiet event. -/
theorem quiet_locked {d e : Device} (q : Quiet d e) : Locked e → Locked d := by
  have k : Kept fun e => Locked e → Locked d := .of_steady fun s h x => h (by rw [Locked, ← s.bank]; exact x)
  have engine : ∀ run e, (Locked e → Locked d) → Locked (engineBecomes run e) → Locked d := fun run e h =>
    kept_ite (P := fun e => Locked e → Locked d) h (k.recompute h)
  have follow : ∀ e, (Locked e → Locked d) → Locked (followCall e) → Locked d := fun e h => by
    obtain ⟨f, hf⟩ := followCall_eq e
    rw [hf]
    exact h
  have r : Locked d → Locked d := id
  cases q with
  | start x _ _ _ => exact k.beginRecord x r
  | retire x _ _ w => exact k.retireRecord x w _ r
  | sample v i => exact r
  | integrate =>
    refine locked_of_marks ?_ ?_
    · unfold setBank integrate; dsimp only; split
      · rfl
      · split <;> rfl
    · unfold setBank integrate; dsimp only; split
      · rfl
      · split <;> rfl
  | anchor => exact kept_ite (P := fun e => Locked e → Locked d) r r
  | voltage =>
    unfold voltageChange
    split
    next v _ =>
      refine k.sendVoltage _ (k.formPermissions (k.recompute (locked_of_marks ?_ ?_)))
      · unfold setBank cutoffAnchor; dsimp only; split
        · split <;> rfl
        · rfl
      · unfold setBank cutoffAnchor; dsimp only; split
        · split <;> rfl
        · rfl
    · exact r
  | marks => exact kept_ite (P := fun e => Locked e → Locked d) (fun hl => nomatch hl.1) r
  | fridge raw => exact kept_ite (P := fun e => Locked e → Locked d) r (kept_ite (P := fun e => Locked e → Locked d) r (follow _ r))
  | faultClear => exact kept_ite (P := fun e => Locked e → Locked d) (follow _ r) r
  | blind => exact kept_ite (P := fun e => Locked e → Locked d) (follow _ r) r
  | guard => obtain ⟨f, hf⟩ := guardEnd_eq d; rw [hf]; exact r
  | fade => exact r
  | sense t => exact r
  | overCurrent c => exact kept_ite (P := fun e => Locked e → Locked d) (k.setCauseAndRecompute _ _ r) r
  | engineFrame id data => exact kept_ite (P := fun e => Locked e → Locked d) (engine _ _ r) r
  | engineLost => exact kept_ite (P := fun e => Locked e → Locked d) (engine _ _ r) r
  | activityFrame id data => exact kept_ite (P := fun e => Locked e → Locked d) (k.whole.report _ _ (k.whole.report _ _ r)) r
  | activityLost => exact kept_ite (P := fun e => Locked e → Locked d) (k.whole.report _ _ (k.whole.report _ _ r)) r
  | status => exact r
  | sent => exact r
  | failed => exact r
  | rejoin => exact r
  | accrue => exact k.whole.accrueBoth r
  | settle dr => exact k.whole.settle dr r
  | incomplete dr => exact r
  | dashRepeat dr => exact r
  | dashEnd dr => exact r
  | bunkEnd dr => exact r
  | waking dr _ => exact k.whole.enterWaking dr r
  | due dr _ => exact k.whole.enterDue dr r
  | ramp dr =>
    unfold rampTick
    split
    · exact r
    · split
      · exact k.whole.handRamp _ _ _ r
      · exact r
    · exact r
  | call dr => exact k.whole.callOnset dr r
  | unanswered dr => exact k.whole.retirePlan dr _ r
  | begun => exact r
  | clock =>
    exact kept_after (P := fun e => Locked e → Locked d) (f := countSecond) (c := decide (d.clock.cs + 1 ≥ 100) = true)
      (fun _ x => x) r

theorem writesKeepLock_quiet {d e : Device} (q : Quiet d e) (h : WritesKeepLock d) : WritesKeepLock e :=
  writesKeepLock_congr (quiet_locked q) (quiet_still q).settings (quiet_still q).jobs h

/-- With no request open, every write asked for is a block's own. -/
theorem own_of_taken {d : Device} (h : JobsP 1 d) : ∀ j ∈ d.store.jobs, j.change.isOwn = true := by
  obtain ⟨hall, hn, -⟩ := h
  refine fun j hj => (hall j hj).resolve_right fun ha => ?_
  have := List.length_pos_of_mem (List.mem_filter.mpr ⟨hj, ha⟩)
  unfold openRequests at hn
  omega

/-- No request but LOCK_MARK sets a mark, and it finds no write of a setting asked for. -/
theorem writesKeepLock_acts {st : Station} {d e : Device} (a : Acts st d e) (hjobs : JobsP 1 d)  : WritesKeepLock e := by
  have s := acts_still a
  intro _ j hj
  rw [s.jobs] at hj
  exact keepsLocked_own (own_of_taken hjobs j hj) _

theorem writesKeepLock_replies {st : Station} {d e : Device} (r : Replies st d e) (hjobs : JobsP 1 d) :
    WritesKeepLock e := by
  have h := writesKeepLock_acts (st := st) .same hjobs
  refine resting_writesKeepLock.toHeld.replies (fun _ a => writesKeepLock_acts a hjobs)
    (fun c ty code spec plain => writesKeepLock_askWrite _ plain.2.2 h) (fun w v ty code spec => ?_) r
  exact writesKeepLock_askWrite (d := keepIdle d) _ (fun _ => keepsLocked_of_eq rfl rfl) h

theorem writesKeepLock_written {d : Device} (i : ImageId) {j : Job} {rest : List Job} (hj : d.store.jobs = j :: rest)
    (hjobs : JobsP 0 d) (h : WritesKeepLock d) : WritesKeepLock (written i j rest d) := by
  intro hl k hk
  have hk : k ∈ rest := hk
  cases hown : j.change.isOwn
  · exact keepsLocked_own ((head_answers hj hjobs hown).2 k hk) _
  · obtain ⟨hf, hp⟩ := applyChange_own hown d.settings
    exact keepsLocked_congr k.change hf hp (h hl k (by rw [hj]; exact List.mem_cons_of_mem _ hk))

theorem resting_resumed {P : Device → Prop} (k : Resting P) {d : Device} {i : ImageId} {j : Job} {rest : List Job}
    (bank : ∀ d b, b.cabMark = d.bank.cabMark → b.fleetMark = d.bank.fleetMark → P d → P { d with bank := b })
    (station : ∀ d st, P d → P (stationChanged st d)) (wait : ∀ d : Device, P d →
      P (setHeat (fun h => { h with waiting := false, held := [] }) d))
    (h : P (written i j rest d)) : P (resumed i j rest d) := by
  have capacity : ∀ n (e : Device), P e → P (capacityChanged n e) := fun n e he => by
    refine k.recompute _ (bank _ _ ?_ ?_ he)
    · split <;> rfl
    · split <;> rfl
  have h1 : P (changed j.change d.settings (written i j rest d)) :=
    k.toHeld.changed _ _ (fun _ => k.unwait _ h) (fun v _ => kept_ite h (capacity _ _ h)) (bank _ _ rfl rfl)
      (fun h st => station _ st h) fun _ _ => h
  exact k.toHeld.releaseAnswer (k.goOn _ _ (fun _ => wait _ h1) fun _ => h1)

theorem writesKeepLock_completeWrite {d : Device} (hjobs : JobsP 0 d) (h : WritesKeepLock d) :
    WritesKeepLock (completeWrite d) := by
  have k := resting_writesKeepLock
  refine completeWrite_kept h fun i j rest _ hj => ?_
  have h1 : WritesKeepLock (resumed i j rest d) :=
    resting_resumed k (fun d b hc hf h => writesKeepLock_congr (d := d) (locked_of_marks hc hf) rfl rfl h)
      (fun _ _ h => h) (fun _ h => h) (writesKeepLock_written i hj hjobs h)
  rw [WritesKeepLock, beginWrite_jobs, beginWrite_eq]
  exact kept_ite (P := WritesKeepLock) (takeLate_kept (fun d a b hd => k.slotBoundary a b hd hd) h1) h1

theorem writesKeepLock_pollsOn {d e : Device} (p : PollsOn d e) (h : WritesKeepLock d) : WritesKeepLock e := by
  obtain ⟨⟨l, rfl, -⟩, -⟩ := p; exact h

theorem writesKeepLock_enterReset (d : Device) : WritesKeepLock (enterReset d) := fun _ _ hj => absurd hj List.not_mem_nil

theorem writesKeepLock_move {d e : Device} (m : Move d e) (hjobs : JobsOk d) (h : WritesKeepLock d) :
    WritesKeepLock e := by
  have k := resting_writesKeepLock
  cases m with
  | same => exact h
  | reset => exact writesKeepLock_enterReset d
  | quiet e _ q => exact writesKeepLock_quiet q h
  | poll => exact writesKeepLock_pollsOn (pollsOn_sendPoll d) h
  | pauseEnd => exact writesKeepLock_pollsOn (pollsOn_endPause d) h
  | idle => exact writesKeepLock_pollsOn (pollsOn_takeIdle d) h
  | miss => exact writesKeepLock_pollsOn (pollsOn_takeMiss d) h
  | serve st c e hr hp r => exact writesKeepLock_replies r (jobsP_opened hp ((jobsOk_iff hr).mp hjobs))
  | reading a b _ => exact k.toHeld.heaterTake _ h
  | timer t _ => exact k.toHeld.heaterTake _ h
  | slot a b _ => exact k.slotBoundary a b h h
  | complete hr => exact writesKeepLock_completeWrite ((jobsOk_iff hr).mp hjobs) h

theorem writesKeepLock_powerUp (okA okB : Bool) (d : Device) : WritesKeepLock (powerUp okA okB d) :=
  powerUp_kept resting_writesKeepLock.toSlots okA okB d
    (fun e c hc h => writesKeepLock_askWrite _ (fun _ => keepsLocked_own hc _) h) fun c x hj _ _ j hm => by
      rw [show (rebuildLadder (startDevice c x d.leads)).store.jobs = [] from hj] at hm
      exact absurd hm List.not_mem_nil

/-! ### Floor and protected set over a step -/

/-- Against the settings `s` the floor has not fallen and no lane has left the protected set. -/
def FloorKept (s : Settings) (d : Device) : Prop := KeepsLocked s d.settings

theorem resting_floorKept (s : Settings) : Resting (FloorKept s) where
  toWhole := (Kept.of_steady fun x h => by rw [FloorKept, x.settings]; exact h).whole
  slots _ _ _ _ _ _ h := h
  asked d c n _ _ h := by rw [heaterWrite, askWrite_eq]; exact h
  answer _ _ _ _ _ h := h
  hold _ _ _ _ h := h
  holdClear _ _ h := h
  accepted _ h := h
  unwait _ h := h
  swap d a b h := by rw [swapTables, askWrite_eq]; exact h
  owe _ _ h := h

theorem floorKept_refl (d : Device) : FloorKept d.settings d := ⟨Nat.le_refl _, fun _ h => h⟩

theorem floorKept_of_settings {d e : Device} (h : e.settings = d.settings) : FloorKept d.settings e := by
  rw [FloorKept, h]
  exact floorKept_refl d

theorem floorKept_completeWrite {d : Device} (hl : Locked d) (h : WritesKeepLock d) :
    FloorKept d.settings (completeWrite d) := by
  have k := resting_floorKept d.settings
  refine completeWrite_kept (floorKept_refl d) fun i j rest _ hj => ?_
  have h1 : FloorKept d.settings (resumed i j rest d) :=
    resting_resumed k (fun _ _ _ _ h => h) (fun _ _ h => h) (fun _ h => h) (h hl j (by rw [hj]; exact List.mem_cons_self))
  rw [FloorKept, beginWrite_eq]
  exact kept_ite (P := FloorKept d.settings) (takeLate_kept (fun d a b hd => k.slotBoundary a b hd hd) h1) h1

theorem floorKept_move {d e : Device} (m : Move d e) (hl : Locked d) (h : WritesKeepLock d) : FloorKept d.settings e := by
  have k := resting_floorKept d.settings
  have r := floorKept_refl d
  cases m with
  | same => exact r
  | reset => exact r
  | quiet e _ q => exact floorKept_of_settings (quiet_still q).settings
  | poll => obtain ⟨⟨l, hl, -⟩, -⟩ := pollsOn_sendPoll d; rw [hl]; exact r
  | pauseEnd => obtain ⟨⟨l, hl, -⟩, -⟩ := pollsOn_endPause d; rw [hl]; exact r
  | idle => obtain ⟨⟨l, hl, -⟩, -⟩ := pollsOn_takeIdle d; rw [hl]; exact r
  | miss => obtain ⟨⟨l, hl, -⟩, -⟩ := pollsOn_takeMiss d; rw [hl]; exact r
  | serve st c e hr hp x =>
    refine k.toHeld.replies (fun _ a => ?_) (fun c ty code spec _ => ?_) (fun w v ty code spec => ?_) x
    · exact floorKept_of_settings (d := d) (acts_still a).settings
    · rw [askWrite_eq]; exact r
    · rw [askWrite_eq]; exact r
  | reading a b _ => exact k.toHeld.heaterTake _ r
  | timer t _ => exact k.toHeld.heaterTake _ r
  | slot a b _ => exact k.slotBoundary a b r r
  | complete hr => exact floorKept_completeWrite hl h

/-- The lock on the floor over a step (R59). -/
theorem step_keeps_lock (s t : State) (h : LockOk s.dev) (hs : step s = .next t) : LockOk t.dev ∧
    (Locked s.dev → (∀ a b, s.pending.head? ≠ some (.powerOn a b)) → KeepsLocked s.dev.settings t.dev.settings) := by
  obtain ⟨hjobs, hkeep⟩ := h
  rcases step_moves s t hs with ⟨a, b, hp, ht⟩ | m
  · rw [ht]
    exact ⟨⟨jobsOk_powerUp a b _, writesKeepLock_powerUp a b _⟩, fun _ hn => absurd hp (hn a b)⟩
  · exact ⟨⟨jobsOk_move m hjobs, writesKeepLock_move m hjobs hkeep⟩, fun hl _ => floorKept_move m hl hkeep⟩

end Sys2Proof.Machine
end

section
/-! PROOF. What the notice sets, the plans, the records' kinds and their sequences rest on (`Bound`): one rule per change of
the table. -/

namespace Sys2Proof.Machine
open Sys2Proof

/-! ## Notice sets (R42, R43) -/

/-- The live entries of a set name no record twice, and each names one that fits. -/
def SetNames (T : Handle → Prop) (es : List Entry) : Prop :=
  (es.filter fun e => !e.isRetired).Nodup ∧ ∀ h, .live h ∈ es → T h

theorem setNames_nil (T : Handle → Prop) : SetNames T [] := ⟨List.nodup_nil, fun _ h => absurd h List.not_mem_nil⟩

theorem SetNames.imp {T U : Handle → Prop} {es : List Entry} (h : SetNames T es) (k : ∀ x, T x → U x) : SetNames U es :=
  ⟨h.1, fun x hx => k x (h.2 x hx)⟩

theorem SetNames.sublist {T : Handle → Prop} {es fs : List Entry} (h : SetNames T es) (s : fs.Sublist es) : SetNames T fs :=
  ⟨h.1.sublist (s.filter _), fun x hx => h.2 x (s.subset hx)⟩

theorem dropOldestRetired_sublist : ∀ es : List Entry, (dropOldestRetired es).Sublist es
  | [] => .slnil
  | e :: es => by
    unfold dropOldestRetired
    split
    · exact List.sublist_cons_self e es
    · exact (dropOldestRetired_sublist es).cons_cons e

/-- An entry joins what is left of the set. -/
theorem joinEntry_entries (e : Entry) (p : StationLink) :
    ∃ es, es.Sublist p.entries ∧ (joinEntry e p).entries = es ++ [e] := by
  unfold joinEntry
  split
  · refine ⟨makeRoom p.entries, ?_, rfl⟩
    unfold makeRoom
    split
    · exact dropOldestRetired_sublist _
    · exact List.drop_sublist 1 _
  · exact ⟨p.entries, .refl _, rfl⟩

theorem SetNames.join_retired {T : Handle → Prop} {p : StationLink} (h : SetNames T p.entries) (k : Handle) (fn : Fn)
    (w : RetireReason) : SetNames T (joinEntry (.retired k fn w) p).entries := by
  obtain ⟨es, hs, he⟩ := joinEntry_entries (.retired k fn w) p
  obtain ⟨hn, ht⟩ := h.sublist hs
  rw [he]
  refine ⟨by rw [List.filter_append]; simpa [Entry.isRetired] using hn, fun x hx => ht x ?_⟩
  simpa using hx

theorem SetNames.join_live {T : Handle → Prop} {p : StationLink} (h : SetNames T p.entries) {k : Handle}
    (hk : .live k ∉ p.entries) (ht : T k) : SetNames T (joinEntry (.live k) p).entries := by
  obtain ⟨es, hs, he⟩ := joinEntry_entries (.live k) p
  have hk : Entry.live k ∉ es := fun m => hk (hs.subset m)
  obtain ⟨hn, hes⟩ := h.sublist hs
  rw [he]
  refine ⟨?_, fun x hx => ?_⟩
  · rw [List.filter_append]
    exact hn.append (by simp [Entry.isRetired]) fun x hx hy => hk (by
      rw [List.filter_cons_of_pos rfl, List.filter_nil, List.mem_singleton] at hy
      exact hy ▸ (List.mem_filter.mp hx).1)
  · rcases List.mem_append.mp hx with hx | hx
    · exact hes x hx
    · cases List.mem_singleton.mp hx; exact ht

theorem SetNames.mark {T : Handle → Prop} {p : StationLink} (h : SetNames T p.entries) {k : Handle} (ht : T k) :
    SetNames T (markEntry k p).entries := by
  unfold markEntry
  split
  · exact h
  · split
    · exact h
    next hn => exact h.join_live (by simpa using hn) ht

theorem filter_convertEntry (h : Handle) (fn : Fn) (w : RetireReason) : ∀ es : List Entry,
    ((convertEntry h (.retired h fn w) es).filter fun e => !e.isRetired).Sublist (es.filter fun e => !e.isRetired)
  | [] => .slnil
  | x :: xs => by
    unfold convertEntry
    split
    next hx => subst hx; exact List.sublist_cons_self _ _
    · rw [List.filter_cons, List.filter_cons]
      split
      · exact (filter_convertEntry h fn w xs).cons_cons x
      · exact filter_convertEntry h fn w xs

theorem mem_convertEntry {h k : Handle} {fn : Fn} {w : RetireReason} {es : List Entry}
    (hn : (es.filter fun e => !e.isRetired).Nodup) (m : .live k ∈ convertEntry h (.retired h fn w) es) :
    k ≠ h ∧ .live k ∈ es := by
  induction es with
  | nil => cases m
  | cons x xs ih =>
    unfold convertEntry at m
    split at m
    next hx =>
      subst hx
      have m : Entry.live k ∈ xs := by simpa using m
      rw [List.filter_cons_of_pos rfl, List.nodup_cons] at hn
      exact ⟨fun e => hn.1 (List.mem_filter.mpr ⟨e ▸ m, rfl⟩), List.mem_cons_of_mem _ m⟩
    next hx =>
      rcases List.mem_cons.mp m with e | m
      · exact ⟨fun ek => hx (by rw [← e, ek]), e ▸ List.mem_cons_self⟩
      · have hn : (xs.filter fun e => !e.isRetired).Nodup := hn.sublist ((List.sublist_cons_self x xs).filter _)
        exact ⟨(ih hn m).1, List.mem_cons_of_mem _ (ih hn m).2⟩

/-- A retirement leaves no live entry of the record; a station that is not ONLINE has none. -/
theorem SetNames.retire {T : Handle → Prop} {p : StationLink} (h : SetNames T p.entries) (k : Handle) (fn : Fn)
    (w : RetireReason) (off : p.link ≠ .online → p.entries = []) :
    SetNames (fun x => x ≠ k ∧ T x) (retireEntry k fn w p).entries := by
  unfold retireEntry
  split
  next hl => rw [off hl]; exact setNames_nil _
  · split
    · obtain ⟨hn, ht⟩ := h
      refine ⟨hn.sublist (filter_convertEntry k fn w _), fun x hx => ?_⟩
      obtain ⟨hk, hm⟩ := mem_convertEntry hn hx
      exact ⟨hk, ht x hm⟩
    next hm =>
      have hm : Entry.live k ∉ p.entries := by simpa using hm
      exact SetNames.join_retired ⟨h.1, fun x hx => ⟨fun e => hm (e ▸ hx), h.2 x hx⟩⟩ k fn w

theorem SetNames.drop {T : Handle → Prop} {p : StationLink} (h : SetNames T p.entries) (k : Handle) :
    SetNames (fun x => x ≠ k ∧ T x) (dropEntry k p).entries := by
  refine ⟨(h.sublist List.filter_sublist).1, fun x hx => ?_⟩
  obtain ⟨hm, hk⟩ := List.mem_filter.mp hx
  exact ⟨fun e => by simp [e] at hk, h.2 x hm⟩

/-! ## What a change of a record may leave (R13, R26) -/

/-- The plan that a record's parameters serve. -/
def served : Params → Option Handle
  | .heat _ p => p
  | _ => none

/-- A record keeps its kind, its function, its owner and, where it is INTERNAL, the plan that it serves. -/
structure Mild (r x : Record) : Prop where
  kind : x.kind = r.kind
  fn : x.fn = r.fn
  owner : x.owner = r.owner
  params : paramsKind x.params = paramsKind r.params
  serves : r.owner = .internal → served x.params = served r.params

theorem Mild.refl (r : Record) : Mild r r := ⟨rfl, rfl, rfl, rfl, fun _ => rfl⟩

theorem Mild.trans {r x y : Record} (h : Mild r x) (k : Mild x y) : Mild r y where
  kind := k.kind.trans h.kind
  fn := k.fn.trans h.fn
  owner := k.owner.trans h.owner
  params := k.params.trans h.params
  serves hi := (k.serves (h.owner.trans hi)).trans (h.serves hi)

/-- A change of state, reason, sequence or times. -/
theorem mild_of_same {r x : Record} (hk : x.kind = r.kind) (hf : x.fn = r.fn) (ho : x.owner = r.owner)
    (hp : x.params = r.params) : Mild r x := ⟨hk, hf, ho, by rw [hp], fun _ => by rw [hp]⟩

theorem mapRecord_eq (s : CauseSet) (r : Record) : ∃ st w, mapRecord s r = { r with state := st, reason := w } := by
  unfold mapRecord
  split
  · exact ⟨_, _, rfl⟩
  · exact ⟨_, _, rfl⟩
  · exact ⟨_, _, rfl⟩
  · exact ⟨_, _, rfl⟩

theorem mild_mapRecord (s : CauseSet) (r : Record) : Mild r (mapRecord s r) := by
  obtain ⟨st, w, e⟩ := mapRecord_eq s r
  rw [e]
  exact mild_of_same rfl rfl rfl rfl

theorem grantAs_eq (w : Reason) (s : CauseSet) (r : Record) :
    ∃ st y, grantAs w s r = { r with state := st, reason := y, deadline := none } := by
  obtain ⟨st, y, e⟩ := mapRecord_eq s { r with state := .granted, reason := w, deadline := none }
  exact ⟨st, y, e⟩

theorem mild_grantAs (w : Reason) (s : CauseSet) (r : Record) : Mild r (grantAs w s r) := by
  obtain ⟨st, y, e⟩ := grantAs_eq w s r
  rw [e]
  exact mild_of_same rfl rfl rfl rfl

theorem onPlan_eq (f : PlanRec → PlanRec) (r : Record) :
    onPlan f r = r ∨ ∃ p, r.params = .plan p ∧ onPlan f r = { r with params := .plan (f p) } := by
  unfold onPlan
  split
  next p hp => exact .inr ⟨p, hp, rfl⟩
  · exact .inl rfl

theorem mild_onPlan (f : PlanRec → PlanRec) (r : Record) : Mild r (onPlan f r) := by
  rcases onPlan_eq f r with e | ⟨p, hp, e⟩
  · rw [e]; exact .refl r
  · rw [e]; exact ⟨rfl, rfl, rfl, by rw [hp]; rfl, fun _ => by rw [hp]; rfl⟩

theorem planAtRisk_eq (b : Bool) (r : Record) :
    planAtRisk b r = onPlan (fun p => { p with atRisk := b && p.preheat.isSome }) r := rfl

theorem mild_planAtRisk (b : Bool) (r : Record) : Mild r (planAtRisk b r) := mild_onPlan _ r

/-! ## The station that a record marks (R13) -/

theorem planOwner_congr {d e : Device} {ph : Handle} (hl : (lookup e ph).map Record.owner = (lookup d ph).map Record.owner)
    (hv : e.table.leaving = d.table.leaving) : planOwner e ph = planOwner d ph := by
  unfold planOwner
  cases hd : lookup d ph with
  | none =>
    rw [hd] at hl
    rw [Option.map_eq_none_iff.mp hl, hv]
  | some x =>
    rw [hd] at hl
    obtain ⟨y, hy, ho⟩ := Option.map_eq_some_iff.mp hl
    rw [hy]
    exact congrArg ownerStation ho

theorem noticeStation_station {d : Device} {r : Record} {st : Station} (h : r.owner = .station st) :
    noticeStation d r = some st := by
  unfold noticeStation
  rw [h]

theorem noticeStation_internal {d : Device} {r : Record} (h : r.owner = .internal) :
    noticeStation d r = (served r.params).bind (planOwner d) := by
  unfold noticeStation
  rw [h]
  unfold served
  dsimp only
  split
  next p hp => rw [hp]; rfl
  next hn =>
    split
    next q hq =>
      cases q with
      | none => rfl
      | some ph => exact absurd hq (hn _ ph)
    · rfl

/-- A mild change of a record, with the plan's owner as it was, leaves the station that the record marks. -/
theorem noticeStation_mild {d e : Device} {r x : Record} (m : Mild r x)
    (hp : ∀ ph, served r.params = some ph → planOwner e ph = planOwner d ph) : noticeStation e x = noticeStation d r := by
  cases ho : r.owner with
  | station st => rw [noticeStation_station ho, noticeStation_station (m.owner.trans ho)]
  | internal =>
    rw [noticeStation_internal ho, noticeStation_internal (m.owner.trans ho), m.serves ho]
    cases hs : served r.params with
    | none => rfl
    | some ph => exact hp ph hs

end Sys2Proof.Machine
end

section
/-! PROOF. The bonds of the demand table (`Bound`), one rule per change of it. -/

namespace Sys2Proof.Machine
open Sys2Proof

/-- A handle names a live record that marks the station. -/
def Marks (d : Device) (st : Station) (h : Handle) : Prop := ∃ r, lookup d h = some r ∧ noticeStation d r = some st

/-- Every set names live records that mark its station, none twice (R42). -/
def Told (d : Device) : Prop := ∀ st, SetNames (Marks d st) (d.link.stations.get st).entries

/-- The bonds of the table, where `u` gives the plan of each driver: what `TableOk`, `StationsOk`, `PlansOk`, `SetsOk`,
`KindsOk` and `SeqsOk` say of it, said of handles; a plan that is leaving may be gone. -/
structure Bound (u : Driver → Option Handle) (d : Device) : Prop where
  table : TableOk d
  stations : StationsOk d
  told : Told d
  kinds : KindsOk d
  plan : ∀ dr h, u dr = some h →
    (∃ r, lookup d h = some r ∧ r.fn = .rest dr) ∨ ∃ st, d.table.leaving = some (h, st)
  rest : ∀ dr h r, lookup d h = some r → r.fn = .rest dr → r.owner ≠ .internal ∧ u dr = some h
  reserved : ∀ h r, lookup d h = some r → 46 ≤ h.slot → r.owner = .internal
  inner : ∀ h r, lookup d h = some r → r.owner = .internal →
    r.fn = .heater ∧ ∃ dr p, h.slot = internalSlot dr ∧ served r.params = some p ∧ u dr = some p
  apart : ∀ h k r x, lookup d h = some r → lookup d k = some x → r.seq = x.seq → h = k
  counted : ∀ h r, lookup d h = some r → r.seq ≤ d.table.counter

/-! ## Records that have changed mildly -/

/-- Both tables have records under the same handles, and each has changed mildly. -/
def LooksLike (d e : Device) : Prop :=
  (∀ k r, lookup d k = some r → ∃ x, lookup e k = some x ∧ Mild r x) ∧
  ∀ k x, lookup e k = some x → ∃ r, lookup d k = some r ∧ Mild r x

theorem looksLike_of_map {d e : Device} (g : Handle → Record → Record)
    (hl : ∀ k, lookup e k = (lookup d k).map (g k)) (hg : ∀ k r, lookup d k = some r → Mild r (g k r)) : LooksLike d e := by
  refine ⟨fun k r h => ⟨g k r, by rw [hl, h]; rfl, hg k r h⟩, fun k x h => ?_⟩
  rw [hl] at h
  obtain ⟨r, hr, rfl⟩ := Option.map_eq_some_iff.mp h
  exact ⟨r, hr, hg k r hr⟩

theorem looksLike_of_slots {d e : Device} (h : e.table.slots = d.table.slots) : LooksLike d e :=
  looksLike_of_map (fun _ r => r) (fun k => by rw [lookup_congr h]; simp) fun _ r _ => .refl r

namespace LooksLike

variable {d e : Device} (l : LooksLike d e)
include l

theorem planOwner (hv : e.table.leaving = d.table.leaving) (ph : Handle) : planOwner e ph = planOwner d ph := by
  refine planOwner_congr ?_ hv
  cases hd : lookup d ph with
  | none =>
    cases he : lookup e ph with
    | none => rfl
    | some x => obtain ⟨r, hr, -⟩ := l.2 ph x he; rw [hd] at hr; cases hr
  | some r =>
    obtain ⟨x, hx, m⟩ := l.1 ph r hd
    rw [hx]
    exact congrArg some m.owner

theorem marks (hv : e.table.leaving = d.table.leaving) {st : Station} {h : Handle} (m : Marks d st h) : Marks e st h := by
  obtain ⟨r, hr, hn⟩ := m
  obtain ⟨x, hx, mild⟩ := l.1 h r hr
  exact ⟨x, hx, (noticeStation_mild mild fun ph _ => l.planOwner hv ph).trans hn⟩

end LooksLike

section

variable {u : Driver → Option Handle} {d e : Device}

/-- Mild changes of the records, with sets that name what they named. -/
theorem Bound.of_looksLike (b : Bound u d) (l : LooksLike d e) (ht : TableOk e) (hs : StationsOk e)
    (hv : e.table.leaving = d.table.leaving) (sets : ∀ st, SetNames (Marks d st) (e.link.stations.get st).entries)
    (apart : ∀ h k r x, lookup e h = some r → lookup e k = some x → r.seq = x.seq → h = k)
    (counted : ∀ h r, lookup e h = some r → r.seq ≤ e.table.counter) : Bound u e where
  table := ht
  stations := hs
  told st := (sets st).imp fun _ => l.marks hv
  kinds h x hx := by
    obtain ⟨r, hr, m⟩ := l.2 h x hx
    obtain ⟨hk, hp⟩ := b.kinds h r hr
    exact ⟨by rw [m.kind, m.fn]; exact hk, by rw [m.params, m.fn]; exact hp⟩
  plan dr h hu := by
    refine (b.plan dr h hu).imp (fun ⟨r, hr, hf⟩ => ?_) fun ⟨st, h⟩ => ⟨st, hv.trans h⟩
    obtain ⟨x, hx, m⟩ := l.1 h r hr
    exact ⟨x, hx, m.fn.trans hf⟩
  rest dr h x hx hf := by
    obtain ⟨r, hr, m⟩ := l.2 h x hx
    rw [m.owner]
    exact b.rest dr h r hr (m.fn.symm.trans hf)
  reserved h x hx h46 := by
    obtain ⟨r, hr, m⟩ := l.2 h x hx
    exact m.owner.trans (b.reserved h r hr h46)
  inner h x hx hi := by
    obtain ⟨r, hr, m⟩ := l.2 h x hx
    have hi := m.owner.symm.trans hi
    obtain ⟨hf, dr, p, hs, hp, hu⟩ := b.inner h r hr hi
    exact ⟨m.fn.trans hf, dr, p, hs, (m.serves hi).trans hp, hu⟩
  apart := apart
  counted := counted

/-- Neither slots nor queue, counter or sets change. -/
theorem Bound.congr (b : Bound u d) (hs : e.table.slots = d.table.slots) (hq : e.table.queue = d.table.queue)
    (hc : e.table.counter = d.table.counter) (hv : e.table.leaving = d.table.leaving)
    (hl : e.link.stations = d.link.stations) : Bound u e := by
  refine b.of_looksLike (looksLike_of_slots hs) ?_ ?_ hv ?_ ?_ ?_
  · exact tableOk_congr (occupancy_congr hs) (hq ▸ b.table.2.2) b.table
  · rw [StationsOk, hl]; exact b.stations
  · rw [hl]; exact b.told
  · simpa only [lookup_congr hs] using b.apart
  · simpa only [lookup_congr hs, hc] using b.counted

/-! ## Flags and marks -/

theorem setNames_stations (b : Bound u d) {f : StationLink → StationLink} (hf : ∀ p, (f p).entries = p.entries) (st : Station) :
    SetNames (Marks d st) ((d.link.stations.map f).get st).entries := by
  rw [PerStation_get_map, hf]
  exact b.told st

theorem Bound.raiseFlag (b : Bound u d) (f : Flags → Flags) : Bound u (raiseFlag f d) := by
  refine b.of_looksLike (looksLike_of_slots rfl) b.table (stationsOk_map (fun _ => stationOk_flags _) b.stations) rfl ?_
    b.apart b.counted
  exact setNames_stations b fun p => by unfold flagStation; split <;> rfl

theorem Bound.setFailure (b : Bound u d) (k : FailureKind) : Bound u (setFailure k d) := by
  refine b.of_looksLike (looksLike_of_slots rfl) b.table (stationsOk_map (fun _ => stationOk_noteFailure _) b.stations) rfl ?_
    b.apart b.counted
  exact setNames_stations b (noteFailure_entries k)

/-- A change of one station's set. -/
theorem setNames_updateStation {T : Station → Handle → Prop} {st : Station} {f : StationLink → StationLink}
    (h : ∀ x, SetNames (T x) (d.link.stations.get x).entries)
    (hf : SetNames (T st) (f (d.link.stations.get st)).entries) (x : Station) :
    SetNames (T x) ((updateStation st f d).link.stations.get x).entries := by
  by_cases hx : x = st
  · subst hx
    rw [updateStation_link_stations, PerStation_get_set]
    exact hf
  · rw [updateStation_link_stations, PerStation_get_set_ne _ _ hx]
    exact h x

theorem setNames_mark (told : Told d) (h : Handle) (st : Station) :
    SetNames (Marks d st) ((mark h d).link.stations.get st).entries := by
  unfold Machine.mark
  split
  · exact told st
  · split
    next r hr =>
      split
      next o ho => exact setNames_updateStation (T := Marks d) told ((told o).mark ⟨r, hr, ho⟩) st
      · exact told st
    · exact told st

theorem Bound.mark (b : Bound u d) (h : Handle) : Bound u (mark h d) := by
  have ht := mark_table h d
  refine b.of_looksLike (looksLike_of_slots (by rw [ht])) ?_ (stationsOk_mark h b.stations) (by rw [ht])
    (setNames_mark b.told h) ?_ ?_
  · rw [TableOk, ht]; exact b.table
  · simpa only [lookup_mark] using b.apart
  · simpa only [lookup_mark, ht] using b.counted

/-! ## A revision (R13) -/

/-- A record is put in its own place, changed mildly, with its sequence or one of its own. -/
theorem Bound.put (b : Bound u d) {h : Handle} {r x : Record} (hr : lookup d h = some r) (m : Mild r x)
    (own : ∀ k y, lookup d k = some y → k ≠ h → y.seq ≠ x.seq) (le : x.seq ≤ d.table.counter) : Bound u (putRecord h x d) := by
  have hl := lookup_putRecord (r := x) hr
  refine b.of_looksLike (looksLike_of_map (fun k y => if k = h then x else y) (fun k => ?_) fun k y hy => ?_)
    (tableOk_putRecord x (slot_of_lookup hr) b.table) b.stations rfl b.told ?_ ?_
  · rw [hl]
    split
    next hk => rw [hk, hr]; rfl
    · simp
  · split
    next hk => rw [hk, hr] at hy; cases hy; exact m
    · exact .refl y
  · intro k l y z hy hz hs
    rw [hl] at hy hz
    split at hy
    next hk =>
      split at hz
      next hl => rw [hk, hl]
      next hl => cases hy; exact absurd hs.symm (own l z hz hl)
    next hk =>
      split at hz
      next hl => cases hz; exact absurd hs (own k y hy hk)
      next hl => exact b.apart k l y z hy hz hs
  · intro k y hy
    rw [hl] at hy
    split at hy
    · cases hy; exact le
    · exact b.counted k y hy

/-- A revision that is mild, with the record's sequence or one of its own. -/
theorem Bound.reviseSeq (b : Bound u d) (h : Handle) (f : Record → Record)
    (hf : ∀ r, lookup d h = some r → Mild r (f r) ∧ (f r).seq ≤ d.table.counter ∧
      ∀ k y, lookup d k = some y → k ≠ h → y.seq ≠ (f r).seq) : Bound u (revise h f d) := by
  cases hr : lookup d h with
  | none => rw [revise_of_none f hr]; exact b
  | some r =>
    obtain ⟨m, le, own⟩ := hf r hr
    rw [revise_of_some f hr]
    exact kept_ite b ((b.put hr m own le).mark h)

theorem Bound.revise (b : Bound u d) (h : Handle) (f : Record → Record)
    (hf : ∀ r, lookup d h = some r → Mild r (f r) ∧ (f r).seq = r.seq) : Bound u (revise h f d) :=
  b.reviseSeq h f fun r hr => by
    obtain ⟨m, hs⟩ := hf r hr
    rw [hs]
    exact ⟨m, b.counted h r hr, fun k y hy hk e => hk (b.apart k h y r hy hr e)⟩

/-! ## The next sequence (R20) -/

/-- Live sequences keep their order as the next one is taken, and stand below the counter. -/
theorem takeSequence_lookup (b : Bound u d) : ∃ g : Nat → Nat,
    (∀ k, lookup (takeSequence d) k = (lookup d k).map fun r => { r with seq := g r.seq }) ∧
    (∀ h k r x, lookup d h = some r → lookup d k = some x → r.seq < x.seq → g r.seq < g x.seq) ∧
    ∀ h r, lookup d h = some r → g r.seq < (takeSequence d).table.counter := by
  rcases Nat.lt_or_ge d.table.counter Config.sequenceLimit with hc | hc
  · rw [takeSequence_of_lt hc]
    refine ⟨id, fun k => ?_, fun h k r x _ _ hlt => hlt, fun h r hr => Nat.lt_succ_of_le (b.counted h r hr)⟩
    rw [lookup_congr (d := d) (by rfl)]
    simp
  · rw [takeSequence_of_le hc]
    refine ⟨seqRank d, fun k => ?_, fun h k r x hr hx hlt => ?_, fun h r hr => ?_⟩
    · rw [lookup_congr (d := renumber d) (by rfl), lookup_renumber]
      rfl
    · refine Nat.succ_lt_succ ?_
      have sub : ((records d).filter fun hr => hr.2.seq < r.seq).Sublist ((records d).filter fun hr => hr.2.seq < x.seq) :=
        List.monotone_filter_right _ fun a ha => by
          simp only [decide_eq_true_eq] at ha ⊢
          exact Nat.lt_trans ha hlt
      refine Nat.lt_of_le_of_ne sub.length_le fun he => ?_
      have m : (h, r) ∈ (records d).filter fun hr => hr.2.seq < x.seq :=
        List.mem_filter.mpr ⟨mem_records_of_lookup hr, by simpa using hlt⟩
      rw [← sub.eq_of_length he] at m
      simp at m
    · refine Nat.succ_lt_succ ?_
      refine Nat.lt_of_le_of_ne (List.length_filter_le _ _) fun he => ?_
      have all := List.length_filter_eq_length_iff.mp he (h, r) (mem_records_of_lookup hr)
      simp at all

theorem Bound.takeSequence (b : Bound u d) : Bound u (takeSequence d) := by
  obtain ⟨g, hl, hm, hc⟩ := takeSequence_lookup b
  have link : (Machine.takeSequence d).link = d.link := same_link (same_takeSequence d)
  have back : ∀ h r, lookup (Machine.takeSequence d) h = some r → ∃ x, lookup d h = some x ∧ r.seq = g x.seq := by
    intro h r hr
    rw [hl] at hr
    obtain ⟨x, hx, rfl⟩ := Option.map_eq_some_iff.mp hr
    exact ⟨x, hx, rfl⟩
  refine b.of_looksLike (looksLike_of_map _ hl fun k r _ => mild_of_same rfl rfl rfl rfl) ?_ ?_ (by simp) ?_ ?_ ?_
  · exact tableOk_congr (occupancy_takeSequence d) (by rw [takeSequence_queue]; exact b.table.2.2) b.table
  · rw [StationsOk, link]; exact b.stations
  · rw [link]; exact b.told
  · intro h k r x hr hx he
    obtain ⟨r, hr, e1⟩ := back h r hr
    obtain ⟨x, hx, e2⟩ := back k x hx
    rw [e1, e2] at he
    rcases Nat.lt_trichotomy r.seq x.seq with hlt | heq | hgt
    · have := hm h k r x hr hx hlt; omega
    · exact b.apart h k r x hr hx heq
    · have := hm k h x r hx hr hgt; omega
  · intro h r hr
    obtain ⟨x, hx, e⟩ := back h r hr
    have := hc h x hx
    omega

/-- The sequence just taken is no live record's. -/
theorem Bound.fresh (b : Bound u d) {h : Handle} {r : Record} (hr : lookup (Machine.takeSequence d) h = some r) :
    r.seq < (Machine.takeSequence d).table.counter := by
  obtain ⟨g, hl, -, hc⟩ := takeSequence_lookup b
  rw [hl] at hr
  obtain ⟨x, hx, rfl⟩ := Option.map_eq_some_iff.mp hr
  exact hc h x hx

/-! ## Queue and causes -/

theorem Bound.leaveQueue (b : Bound u d) (h : Handle) : Bound u (leaveQueue h d) :=
  b.of_looksLike (looksLike_of_slots rfl) (tableOk_leaveQueue h b.table) b.stations rfl b.told b.apart b.counted

theorem Bound.joinQueue (b : Bound u d) (h : Handle) : Bound u (joinQueue h d) := by
  have link : (Machine.joinQueue h d).link = d.link := same_link (same_joinQueue h d)
  have hl : ∀ k, lookup (Machine.joinQueue h d) k = lookup d k := lookup_congr (joinQueue_slots h d)
  refine b.of_looksLike (looksLike_of_slots (joinQueue_slots h d)) (tableOk_joinQueue h b.table) ?_ (joinQueue_leaving h d) ?_
    ?_ ?_
  · rw [StationsOk, link]; exact b.stations
  · rw [link]; exact b.told
  · simpa only [hl] using b.apart
  · simpa only [hl, joinQueue_counter] using b.counted

/-! ## A new record (R7, R26) -/

theorem lookup_insert (ht : TableOk d) {h : Handle} (hs : d.table.slots[h.slot]? = some ⟨h.gen, none⟩) (r : Record) (k : Handle) :
    lookup (putRecord h r d) k = if k = h then some r else lookup d k := by
  obtain ⟨hlen, hgen, -⟩ := ht
  obtain ⟨hlt, -⟩ := List.getElem?_eq_some_iff.mp hs
  have hg := (hgen _ (List.mem_of_getElem? hs)).1
  split
  next hk => rw [hk]; exact lookup_putRecord_own (by omega) (fun h0 => by simp only at hg; omega) hs
  next hk => exact lookup_putRecord_ne hs hk

theorem lookup_free {h : Handle} (hs : d.table.slots[h.slot]? = some ⟨h.gen, none⟩) : lookup d h = none := by
  cases e : lookup d h with
  | none => rfl
  | some x => have := slot_of_lookup e; rw [hs] at this; cases this

/-- A record is put in a free slot, with a sequence of its own; a plan's function has its plan from then on. -/
theorem Bound.insert (b : Bound u d) {v : Driver → Option Handle} {h : Handle} {r : Record}
    (hs : d.table.slots[h.slot]? = some ⟨h.gen, none⟩) (hv : d.table.leaving = none)
    (grow : ∀ dr k, u dr = some k → v dr = some k) (new : ∀ dr k, v dr = some k → u dr = some k ∨ k = h ∧ r.fn = .rest dr)
    (kind : r.kind = fnKind r.fn ∧ paramsKind r.params = fnKind r.fn)
    (rest : ∀ dr, r.fn = .rest dr → r.owner ≠ .internal ∧ v dr = some h) (reserved : 46 ≤ h.slot → r.owner = .internal)
    (inner : r.owner = .internal →
      r.fn = .heater ∧ ∃ dr p, h.slot = internalSlot dr ∧ served r.params = some p ∧ v dr = some p)
    (own : ∀ k y, lookup d k = some y → y.seq ≠ r.seq) (le : r.seq ≤ d.table.counter) : Bound v (putRecord h r d) := by
  have hl := lookup_insert b.table hs r
  have gone := lookup_free hs
  have ne : ∀ k y, lookup d k = some y → k ≠ h := fun k y hy e => by rw [e, gone] at hy; cases hy
  have live : ∀ k y, lookup d k = some y → lookup (putRecord h r d) k = some y := fun k y hy => by
    rw [hl, if_neg (ne k y hy), hy]
  have cases' : ∀ k y, lookup (putRecord h r d) k = some y → k = h ∧ y = r ∨ k ≠ h ∧ lookup d k = some y := fun k y hy => by
    rw [hl] at hy
    split at hy
    next hk => cases hy; exact .inl ⟨hk, rfl⟩
    next hk => exact .inr ⟨hk, hy⟩
  have notice : ∀ k y, lookup d k = some y → noticeStation (putRecord h r d) y = noticeStation d y := by
    intro k y hy
    cases ho : y.owner with
    | station st => rw [noticeStation_station ho, noticeStation_station ho]
    | internal =>
      obtain ⟨-, dr, p, -, hp, hu⟩ := b.inner k y hy ho
      rw [noticeStation_internal ho, noticeStation_internal ho, hp]
      rcases b.plan dr p hu with ⟨x, hx, -⟩ | ⟨st, e⟩
      · exact planOwner_congr (by rw [live p x hx, hx]) rfl
      · rw [hv] at e; cases e
  exact {
    table := tableOk_putRecord r hs b.table
    stations := b.stations
    told := fun st => (b.told st).imp fun k ⟨y, hy, hn⟩ => ⟨y, live k y hy, (notice k y hy).trans hn⟩
    kinds := fun k y hy => by
      rcases cases' k y hy with ⟨-, rfl⟩ | ⟨-, hy⟩
      · exact kind
      · exact b.kinds k y hy
    plan := fun dr k hk => by
      rcases new dr k hk with hu | ⟨rfl, hf⟩
      · refine (b.plan dr k hu).imp_left fun ⟨x, hx, hf⟩ => ⟨x, live k x hx, hf⟩
      · exact .inl ⟨r, by rw [hl, if_pos rfl], hf⟩
    rest := fun dr k y hy hf => by
      rcases cases' k y hy with ⟨rfl, rfl⟩ | ⟨-, hy⟩
      · exact rest dr hf
      · exact ⟨(b.rest dr k y hy hf).1, grow _ _ (b.rest dr k y hy hf).2⟩
    reserved := fun k y hy h46 => by
      rcases cases' k y hy with ⟨rfl, rfl⟩ | ⟨-, hy⟩
      · exact reserved h46
      · exact b.reserved k y hy h46
    inner := fun k y hy hi => by
      rcases cases' k y hy with ⟨rfl, rfl⟩ | ⟨-, hy⟩
      · exact inner hi
      · obtain ⟨hf, dr, p, hs, hp, hu⟩ := b.inner k y hy hi
        exact ⟨hf, dr, p, hs, hp, grow _ _ hu⟩
    apart := fun k l y z hy hz he => by
      rcases cases' k y hy with ⟨rfl, rfl⟩ | ⟨-, hy⟩
      · rcases cases' l z hz with ⟨rfl, rfl⟩ | ⟨-, hz⟩
        · rfl
        · exact absurd he.symm (own l z hz)
      · rcases cases' l z hz with ⟨rfl, rfl⟩ | ⟨-, hz⟩
        · exact absurd he (own k y ‹_›)
        · exact b.apart k l y z hy hz he
    counted := fun k y hy => by
      rcases cases' k y hy with ⟨-, rfl⟩ | ⟨-, hy⟩
      · exact le
      · exact b.counted k y hy }

/-! ## A record leaves (R14) -/

theorem lookup_freeSlot {h : Handle} {r : Record} (hr : lookup d h = some r) (k : Handle) :
    lookup (freeSlot h.slot d) k = if k = h then none else lookup d k := by
  have hs := slot_of_lookup hr
  obtain ⟨hlt, -⟩ := List.getElem?_eq_some_iff.mp hs
  by_cases hk : k.slot = h.slot
  · have here : lookup (freeSlot h.slot d) k = none := by
      unfold lookup freeSlot
      rw [hk, List.getElem?_set_self hlt]
      simp
    rw [here]
    split
    · rfl
    next hn =>
      cases e : lookup d k with
      | none => rfl
      | some x => exact absurd (handle_eq_of_slot e hr hk) hn
  · have hne : k ≠ h := fun e => hk (by rw [e])
    rw [if_neg hne]
    unfold lookup freeSlot
    rw [List.getElem?_set_ne (Ne.symm hk)]

/-- The retirement of a record that no plan unit has, or that its unit sees leaving, is told to the station that it marks. -/
theorem Bound.retired (b : Bound u d) {h : Handle} {r : Record} (hr : lookup d h = some r) (w : RetireReason) {how : Report}
    (hh : how ≠ .silent)
    (hplan : ∀ dr, u dr = some h → ∃ st, d.table.leaving = some (h, st) ∧ r.owner = .station st) :
    Bound u (reportRetired (noticeStation d r) h r.fn w how (Machine.leaveQueue h (freeSlot h.slot d))) := by
  have table : ∀ (st : Option Station) (x : Device), (reportRetired st h r.fn w how x).table = x.table := fun st x =>
    same_table (same_reportRetired st h r.fn w how x)
  have hl : ∀ k, lookup (reportRetired (noticeStation d r) h r.fn w how (Machine.leaveQueue h (freeSlot h.slot d))) k =
      if k = h then none else lookup d k := fun k => by
    rw [lookup_congr (congrArg Table.slots (table _ _)), lookup_leaveQueue]
    exact lookup_freeSlot hr k
  generalize he : reportRetired (noticeStation d r) h r.fn w how (Machine.leaveQueue h (freeSlot h.slot d)) = e at hl ⊢
  have ht : e.table = (Machine.leaveQueue h (freeSlot h.slot d)).table := by rw [← he, table]
  have hleave : e.table.leaving = d.table.leaving := by rw [ht]; rfl
  have live : ∀ k y, lookup e k = some y → k ≠ h ∧ lookup d k = some y := fun k y hy => by
    rw [hl] at hy
    split at hy
    · cases hy
    next hk => exact ⟨hk, hy⟩
  have notice : ∀ k y, lookup d k = some y → noticeStation e y = noticeStation d y := by
    intro k y hy
    cases ho : y.owner with
    | station st => rw [noticeStation_station ho, noticeStation_station ho]
    | internal =>
      obtain ⟨-, dr, p, -, hp, hu⟩ := b.inner k y hy ho
      rw [noticeStation_internal ho, noticeStation_internal ho, hp]
      change planOwner e p = planOwner d p
      by_cases hph : p = h
      · subst hph
        obtain ⟨st, hst, hown⟩ := hplan dr hu
        unfold planOwner
        rw [hl, if_pos rfl, hr, hleave, hst]
        simp [hown, ownerStation]
      · exact planOwner_congr (by rw [hl, if_neg hph]) hleave
  have sets : ∀ st, SetNames (fun k => k ≠ h ∧ Marks d st k) (e.link.stations.get st).entries := by
    intro st
    have other : ∀ o, noticeStation d r ≠ some o →
        SetNames (fun k => k ≠ h ∧ Marks d o k) (d.link.stations.get o).entries := fun o ho =>
      ⟨(b.told o).1, fun k hk => ⟨fun e => by
        obtain ⟨y, hy, hn⟩ := (b.told o).2 k hk
        rw [e, hr] at hy
        cases hy
        exact ho hn, (b.told o).2 k hk⟩⟩
    rw [← he]
    cases hn : noticeStation d r with
    | none => exact other st (by rw [hn]; nofun)
    | some o =>
      have told : ∀ f : StationLink → StationLink,
          SetNames (fun k => k ≠ h ∧ Marks d o k) (f (d.link.stations.get o)).entries →
          SetNames (fun k => k ≠ h ∧ Marks d st k)
            ((updateStation o f (Machine.leaveQueue h (freeSlot h.slot d))).link.stations.get st).entries := fun f hf => by
        by_cases hx : st = o
        · subst hx
          rw [updateStation_link_stations, PerStation_get_set]
          exact hf
        · rw [updateStation_link_stations, PerStation_get_set_ne _ _ hx]
          exact other st fun e => hx (by rw [hn] at e; cases e; rfl)
      cases how with
      | entered => exact told _ ((b.told o).retire h r.fn w fun off => ((b.stations o).2.1 off).1)
      | own => exact told _ ((b.told o).drop h)
      | silent => exact absurd rfl hh
  exact {
    table := by
      rw [TableOk, ht]
      exact tableOk_leaveQueue h (tableOk_freeSlot _ b.table)
    stations := by
      rw [← he]
      exact stationsOk_reportRetired _ _ _ _ _ b.stations
    told := fun st => (sets st).imp fun k ⟨hk, y, hy, hn⟩ =>
      ⟨y, by rw [hl, if_neg hk]; exact hy, (notice k y hy).trans hn⟩
    kinds := fun k y hy => b.kinds k y (live k y hy).2
    plan := fun dr k hu => by
      by_cases hk : k = h
      · obtain ⟨st, hst, -⟩ := hplan dr (hk ▸ hu)
        exact .inr ⟨st, by rw [hleave, hst, hk]⟩
      · refine (b.plan dr k hu).imp (fun ⟨x, hx, hf⟩ => ⟨x, by rw [hl, if_neg hk]; exact hx, hf⟩) fun ⟨st, hst⟩ =>
          ⟨st, hleave.trans hst⟩
    rest := fun dr k y hy => b.rest dr k y (live k y hy).2
    reserved := fun k y hy => b.reserved k y (live k y hy).2
    inner := fun k y hy => b.inner k y (live k y hy).2
    apart := fun k l y z hy hz => b.apart k l y z (live k y hy).2 (live l z hz).2
    counted := fun k y hy => by
      rw [ht]
      exact b.counted k y (live k y hy).2 }

end

end Sys2Proof.Machine
end

section
/-! PROOF. The values handed to the loads (R22): what hands one over, and what leaves it as it is. `Bonded` joins them to
the bonds of the table. -/

namespace Sys2Proof.Machine
open Sys2Proof

/-! ## The value of one function -/

/-- The value handed for a function is that of its GRANTED records (R22). -/
def ValueOk (d : Device) : Fn → Prop
  | .heater => ∀ t, d.heater.demand = some t ↔
      (∃ r p, GrantedOn d .heater r ∧ r.params = .heat t p) ∧
        ∀ r t' p, GrantedOn d .heater r → r.params = .heat t' p → t' ≤ t
  | .fridge => ∀ t, d.fridge.target = some t ↔
      (∃ r, GrantedOn d .fridge r ∧ r.params = .cool t) ∧
        ∀ r t', GrantedOn d .fridge r → r.params = .cool t' → t ≤ t'
  | .outlet => d.sched.outletOn = true ↔ ∃ r, GrantedOn d .outlet r
  | .lamp c => ((¬ ∃ r, GrantedOn d (.lamp c) r) → (d.lamps.get c).effective = 0) ∧
      ∀ r x, GrantedOn d (.lamp c) r → r.params = .lamp x →
        (∀ r', GrantedOn d (.lamp c) r' → r' ≠ r → r'.seq < r.seq) → (d.lamps.get c).effective = x
  | .rest _ => True

theorem valuesOk_iff (d : Device) : ValuesOk d ↔ ∀ fn, ValueOk d fn := by
  constructor
  · rintro ⟨hh, hf, ho, hl⟩ fn
    cases fn with
    | heater => exact hh
    | fridge => exact hf
    | outlet => exact ho
    | lamp c => exact hl c
    | rest dr => trivial
  · exact fun h => ⟨h .heater, h .fridge, h .outlet, fun c => h (.lamp c)⟩

/-- The value of a function stands as it was handed. -/
def HandedOn (d e : Device) : Fn → Prop
  | .heater => e.heater.demand = d.heater.demand
  | .fridge => e.fridge.target = d.fridge.target
  | .outlet => e.sched.outletOn = d.sched.outletOn
  | .lamp c => (e.lamps.get c).effective = (d.lamps.get c).effective
  | .rest _ => True

theorem handedOn_refl (d : Device) (fn : Fn) : HandedOn d d fn := by
  cases fn with
  | rest dr => trivial
  | _ => rfl

/-- With each GRANTED record changed in its sequence alone, and in no order, and the value as it was, the value is right. -/
theorem ValueOk.resequenced {d e : Device} {fn : Fn} (h : ValueOk d fn) (hv : HandedOn d e fn) (g : Nat → Nat)
    (hg : ∀ x, GrantedOn e fn x ↔ ∃ r, GrantedOn d fn r ∧ x = { r with seq := g r.seq })
    (mono : ∀ r x, GrantedOn d fn r → GrantedOn d fn x → r.seq < x.seq → g r.seq < g x.seq)
    (apart : ∀ r x, GrantedOn d fn r → GrantedOn d fn x → r.seq = x.seq → r = x) : ValueOk e fn := by
  have back : ∀ {q : Record → Prop}, (∀ r n, q { r with seq := n } ↔ q r) →
      ((∃ x, GrantedOn e fn x ∧ q x) ↔ ∃ r, GrantedOn d fn r ∧ q r) := by
    intro q hq
    constructor
    · rintro ⟨x, hx, hqx⟩
      obtain ⟨r, hr, rfl⟩ := (hg x).mp hx
      exact ⟨r, hr, (hq r _).mp hqx⟩
    · rintro ⟨r, hr, hqr⟩
      exact ⟨_, (hg _).mpr ⟨r, hr, rfl⟩, (hq r _).mpr hqr⟩
  have all : ∀ {q : Record → Prop}, (∀ r n, q { r with seq := n } ↔ q r) →
      ((∀ x, GrantedOn e fn x → q x) ↔ ∀ r, GrantedOn d fn r → q r) := by
    intro q hq
    constructor
    · intro ha r hr
      exact (hq r _).mp (ha _ ((hg _).mpr ⟨r, hr, rfl⟩))
    · intro ha x hx
      obtain ⟨r, hr, rfl⟩ := (hg x).mp hx
      exact (hq r _).mpr (ha r hr)
  have live : (∃ x, GrantedOn e fn x) ↔ ∃ r, GrantedOn d fn r := by simpa using back (q := fun _ => True) fun _ _ => .rfl
  cases fn with
  | heater =>
    intro t
    have e1 := back (q := fun r => ∃ p, r.params = .heat t p) fun _ _ => .rfl
    have e2 := all (q := fun r => ∀ t' p, r.params = .heat t' p → t' ≤ t) fun _ _ => .rfl
    have hd := h t
    simp only [exists_and_left] at e1 hd ⊢
    rw [show e.heater.demand = d.heater.demand from hv, e1, hd]
    refine and_congr_right fun _ => ?_
    constructor
    · exact fun k r t' p hr hp => e2.mpr (fun r hr t' p hp => k r t' p hr hp) r hr t' p hp
    · exact fun k r t' p hr hp => e2.mp (fun r hr t' p hp => k r t' p hr hp) r hr t' p hp
  | fridge =>
    intro t
    have e1 := back (q := fun r => r.params = .cool t) fun _ _ => .rfl
    have e2 := all (q := fun r => ∀ t', r.params = .cool t' → t ≤ t') fun _ _ => .rfl
    rw [show e.fridge.target = d.fridge.target from hv, e1, h t]
    refine and_congr_right fun _ => ?_
    constructor
    · exact fun k r t' hr hp => e2.mpr (fun r hr t' hp => k r t' hr hp) r hr t' hp
    · exact fun k r t' hr hp => e2.mp (fun r hr t' hp => k r t' hr hp) r hr t' hp
  | outlet =>
    rw [ValueOk, show e.sched.outletOn = d.sched.outletOn from hv, live]
    exact h
  | lamp c =>
    rw [ValueOk, live, show (e.lamps.get c).effective = (d.lamps.get c).effective from hv]
    refine ⟨h.1, fun x l hx hp ho => ?_⟩
    obtain ⟨r, hr, rfl⟩ := (hg x).mp hx
    refine h.2 r l hr hp fun y hy hne => ?_
    rcases Nat.lt_trichotomy y.seq r.seq with hlt | heq | hgt
    · exact hlt
    · exact absurd (apart y r hy hr heq) hne
    · have above := mono r y hr hy hgt
      have below : g y.seq < g r.seq := ho { y with seq := g y.seq } ((hg _).mpr ⟨y, hy, rfl⟩) fun e => by
        have same : g y.seq = g r.seq := congrArg Record.seq e
        omega
      omega
  | rest dr => trivial

/-- With the GRANTED records and the value as they were, the value is right. -/
theorem ValueOk.congr {d e : Device} {fn : Fn} (h : ValueOk d fn) (hv : HandedOn d e fn)
    (hg : ∀ r, GrantedOn e fn r ↔ GrantedOn d fn r) : ValueOk e fn := by
  cases fn with
  | heater => intro t; simp only [hg, show e.heater.demand = d.heater.demand from hv]; exact h t
  | fridge => intro t; simp only [hg, show e.fridge.target = d.fridge.target from hv]; exact h t
  | outlet => simp only [ValueOk, hg, show e.sched.outletOn = d.sched.outletOn from hv]; exact h
  | lamp c => simp only [ValueOk, hg, show (e.lamps.get c).effective = (d.lamps.get c).effective from hv]; exact h
  | rest dr => trivial

/-! ## The value handed -/

theorem mem_grantedOf {d : Device} {fn : Fn} {r : Record} : r ∈ grantedOf d fn ↔ GrantedOn d fn r := by
  unfold grantedOf GrantedOn
  simp

theorem greatest_eq_some {key : Record → Option Int} : ∀ {l : List Record} {m : Int},
    greatest key l = some m ↔ (∃ r ∈ l, key r = some m) ∧ ∀ r ∈ l, ∀ x, key r = some x → x ≤ m
  | [], m => by simp [greatest]
  | r :: rs, m => by
    have ih := fun {m} => greatest_eq_some (key := key) (l := rs) (m := m)
    have none : greatest key rs = none → ∀ r ∈ rs, key r = none := by
      intro hn
      by_contra hc
      push_neg at hc
      obtain ⟨x, hx, hk⟩ := hc
      clear ih
      induction rs with
      | nil => cases hx
      | cons y ys ihy =>
        unfold greatest at hn
        rcases List.mem_cons.mp hx with rfl | hx
        · cases hkx : key x with
          | none => exact hk hkx
          | some v => cases hg : greatest key ys <;> simp [hkx, hg] at hn
        · cases hky : key y with
          | none =>
            rw [hky] at hn
            exact ihy (by simpa using hn) hx
          | some v => cases hg : greatest key ys <;> simp [hky, hg] at hn
    unfold greatest
    cases hr : key r with
    | none =>
      simp only [List.mem_cons, exists_eq_or_imp, forall_eq_or_imp, hr, reduceCtorEq, false_or, false_implies,
        implies_true, true_and]
      exact ih
    | some x =>
      cases hg : greatest key rs with
      | none =>
        have hn := none hg
        simp only [List.mem_cons, exists_eq_or_imp, forall_eq_or_imp, hr, Option.some.injEq]
        constructor
        · rintro rfl
          exact ⟨.inl rfl, fun _ h => h.ge, fun y hy z hz => by rw [hn y hy] at hz; cases hz⟩
        · rintro ⟨rfl | ⟨y, hy, hz⟩, -⟩
          · rfl
          · rw [hn y hy] at hz; cases hz
      | some y =>
        obtain ⟨⟨a, ha, hka⟩, hmax⟩ := ih.mp hg
        simp only [List.mem_cons, exists_eq_or_imp, forall_eq_or_imp, hr, Option.some.injEq]
        constructor
        · rintro rfl
          refine ⟨?_, fun z hz => by omega, fun b hb z hz => le_max_of_le_right (hmax b hb z hz)⟩
          rcases max_choice x y with h | h
          · exact .inl h.symm
          · exact .inr ⟨a, ha, by rw [h]; exact hka⟩
        · rintro ⟨hex, hx, hall⟩
          have hy := hall a ha y hka
          have hx := hx x rfl
          rcases hex with rfl | ⟨b, hb, hkb⟩
          · exact max_eq_left hy
          · exact le_antisymm (max_le hx hy) (le_max_of_le_right (hmax b hb m hkb))

theorem setpointOf_eq_some {r : Record} {t : Int} : setpointOf r = some t ↔ ∃ p, r.params = .heat t p := by
  unfold setpointOf
  split
  next s p hp => simp [hp]
  next hn => simp only [reduceCtorEq, false_iff]; rintro ⟨p, hp⟩; exact hn t p hp

theorem targetOf_eq_some {r : Record} {t : Int} : targetOf r = some t ↔ r.params = .cool t := by
  unfold targetOf
  split
  next s hp => simp [hp]
  next hn => simp only [reduceCtorEq, false_iff]; exact hn t

theorem heatValue_eq_some {d : Device} {t : Int} : heatValue d = some t ↔
    (∃ r p, GrantedOn d .heater r ∧ r.params = .heat t p) ∧
      ∀ r t' p, GrantedOn d .heater r → r.params = .heat t' p → t' ≤ t := by
  unfold heatValue
  rw [greatest_eq_some]
  simp only [mem_grantedOf, setpointOf_eq_some, exists_and_left]
  refine and_congr_right fun _ => ⟨fun h r t' p hr hp => h r hr t' ⟨p, hp⟩, fun h r hr t' ⟨p, hp⟩ => h r t' p hr hp⟩

theorem coolValue_eq_some {d : Device} {t : Int} : coolValue d = some t ↔
    (∃ r, GrantedOn d .fridge r ∧ r.params = .cool t) ∧
      ∀ r t', GrantedOn d .fridge r → r.params = .cool t' → t ≤ t' := by
  have neg : ∀ (o : Option Int) (x : Int), o.map Neg.neg = some x ↔ o = some (-x) := by
    intro o x
    cases o with
    | none => simp
    | some y => simp only [Option.map_some, Option.some.injEq]; omega
  unfold coolValue
  rw [neg, greatest_eq_some]
  simp only [mem_grantedOf, neg, targetOf_eq_some, neg_neg]
  refine and_congr_right fun _ => ⟨fun h r t' hr hp => ?_, fun h r hr x hp => ?_⟩
  · have := h r hr (-t') (by rw [neg_neg]; exact hp)
    omega
  · have := h r (-x) hr hp
    omega

theorem latest_eq_none : ∀ {l : List Record}, latest l = none → l = []
  | [], _ => rfl
  | r :: rs, h => by
    unfold latest at h
    split at h
    · split at h <;> cases h
    · cases h

theorem latest_spec (l : List Record) : ∀ r, latest l = some r → r ∈ l ∧ ∀ x ∈ l, x.seq ≤ r.seq := by
  induction l with
  | nil => exact fun r h => nomatch h
  | cons y ys ih =>
    intro r h
    rw [latest] at h
    cases hz : latest ys with
    | none =>
      simp only [hz, Option.some.injEq] at h
      rw [latest_eq_none hz, ← h]
      exact ⟨List.mem_singleton.mpr rfl, fun x hx => by rw [List.mem_singleton.mp hx]⟩
    | some z =>
      obtain ⟨hm, hall⟩ := ih z hz
      simp only [hz] at h
      split at h
      next hle =>
        have h : y = r := Option.some.inj h
        rw [← h]
        exact ⟨List.mem_cons_self, List.forall_mem_cons.mpr ⟨Nat.le_refl _, fun x hx => (hall x hx).trans hle⟩⟩
      next hgt =>
        have h : z = r := Option.some.inj h
        rw [← h]
        exact ⟨List.mem_cons_of_mem _ hm, List.forall_mem_cons.mpr ⟨by omega, hall⟩⟩

theorem lampValue_zero {d : Device} {c : Channel} (h : ¬ ∃ r, GrantedOn d (.lamp c) r) : lampValue d c = 0 := by
  unfold lampValue
  split
  next r hr => exact absurd ⟨r, mem_grantedOf.mp (latest_spec _ _ hr).1⟩ h
  · rfl

theorem lampValue_latest {d : Device} {c : Channel} {r : Record} {x : Nat} (hr : GrantedOn d (.lamp c) r)
    (hp : r.params = .lamp x) (top : ∀ y, GrantedOn d (.lamp c) y → y ≠ r → y.seq < r.seq) : lampValue d c = x := by
  unfold lampValue
  split
  next y hy =>
    obtain ⟨hm, hall⟩ := latest_spec _ _ hy
    have : y = r := by_contra fun hne => by
      have h1 := top y (mem_grantedOf.mp hm) hne
      have h2 := hall r (mem_grantedOf.mpr hr)
      omega
    rw [this, levelOf, hp]
  next hn =>
    have := mem_grantedOf.mpr hr
    rw [latest_eq_none hn] at this
    cases this

theorem outletValue_eq_true {d : Device} : outletValue d = true ↔ ∃ r, GrantedOn d .outlet r := by
  unfold outletValue
  rw [Bool.not_eq_true', List.isEmpty_eq_false_iff_exists_mem]
  simp only [mem_grantedOf]

/-- The value that a function's GRANTED records give is right once the load has it. -/
theorem valueOk_of_handed {d e : Device} {fn : Fn} (ht : e.table = d.table)
    (hv : match fn with
      | .heater => e.heater.demand = heatValue d
      | .fridge => e.fridge.target = coolValue d
      | .outlet => e.sched.outletOn = outletValue d
      | .lamp c => (e.lamps.get c).effective = lampValue d c
      | .rest _ => True) : ValueOk e fn := by
  have hg : ∀ k r, GrantedOn e k r ↔ GrantedOn d k r := fun k r => by
    unfold GrantedOn
    rw [records_congr (congrArg Table.slots ht)]
  cases fn with
  | heater => intro t; simp only [hg]; rw [show e.heater.demand = heatValue d from hv]; exact heatValue_eq_some
  | fridge => intro t; simp only [hg]; rw [show e.fridge.target = coolValue d from hv]; exact coolValue_eq_some
  | outlet =>
    simp only [ValueOk, hg]
    rw [show e.sched.outletOn = outletValue d from hv]
    exact outletValue_eq_true
  | lamp c =>
    simp only [ValueOk, hg]
    rw [show (e.lamps.get c).effective = lampValue d c from hv]
    exact ⟨lampValue_zero, fun r x hr hp top => lampValue_latest hr hp top⟩
  | rest dr => trivial

/-! ## What a hand-over leaves -/

/-- Moves of the loads leave the values handed. -/
theorem smooth_handedOn (d : Device) (fn : Fn) : Smooth fun e => HandedOn d e fn where
  cap e h := by
    cases fn with
    | lamp c =>
      refine Eq.trans ?_ h
      unfold applyCap
      rw [PerChannel_get_imap]
      rfl
    | _ => exact h
  fridge e x hx h := by
    cases fn with
    | fridge => exact hx.trans h
    | _ => exact h
  heater e x hx _ _ h := by
    cases fn with
    | heater => exact hx.trans h
    | _ => exact h
  sched e p c l h := by cases fn <;> exact h
  heaterFlag e h := by cases fn <;> exact h
  budgetFlag e h := by cases fn <;> exact h

theorem handedOn_pushValue_ne (d : Device) {fn k : Fn} (hk : k ≠ fn) : HandedOn d (pushValue fn d) k := by
  have s := smooth_handedOn d k
  have r := handedOn_refl d k
  cases fn with
  | heater => exact s.pushHeat (by cases k <;> first | exact absurd rfl hk | exact r)
  | fridge => exact s.pushCool (by cases k <;> first | exact absurd rfl hk | exact r)
  | outlet => exact s.setOutlet (by cases k <;> first | exact absurd rfl hk | exact r)
  | lamp c =>
    cases k with
    | lamp x =>
      have hx : x ≠ c := fun e => hk (by rw [e])
      exact congrArg Lamp.effective (PerChannel_get_set_ne _ _ hx)
    | _ => exact r
  | rest dr => exact r

theorem valueOk_pushValue (fn : Fn) (d : Device) : ValueOk (pushValue fn d) fn := by
  refine valueOk_of_handed (pushValue_table fn d) ?_
  cases fn with
  | heater =>
    have s := smooth_handedOn { d with heater := { d.heater with demand := heatValue d } } .heater
    exact s.pushHeat rfl
  | fridge =>
    have s := smooth_handedOn { d with fridge := { d.fridge with target := coolValue d } } .fridge
    exact s.pushCool rfl
  | outlet => rfl
  | lamp c =>
    show ((handLevel c (lampValue d c) d).lamps.get c).effective = _
    unfold handLevel changeLamp
    rw [PerChannel_get_set]
    rfl
  | rest dr => trivial

theorem grantedOn_pushValue (fn k : Fn) (d : Device) (r : Record) : GrantedOn (pushValue fn d) k r ↔ GrantedOn d k r := by
  unfold GrantedOn
  rw [records_congr (congrArg Table.slots (pushValue_table fn d))]

theorem ValueOk.pushValue {d : Device} {k : Fn} (h : ValueOk d k) (fn : Fn) : ValueOk (pushValue fn d) k := by
  by_cases hk : k = fn
  · rw [hk]; exact valueOk_pushValue fn d
  · exact h.congr (handedOn_pushValue_ne d hk) (grantedOn_pushValue fn k d)

end Sys2Proof.Machine
end

section
/-! PROOF. The bonds of the table with the values handed (`Bonded`) through every move of a record. -/

namespace Sys2Proof.Machine
open Sys2Proof

/-- The table is bound, and the values handed are right but for the function `x`, whose value is still to be handed. -/
structure Bonded (x : Option Fn) (u : Driver → Option Handle) (d : Device) : Prop where
  bound : Bound u d
  values : ∀ fn, x ≠ some fn → ValueOk d fn

theorem grantedOn_iff_lookup {d : Device} (ht : TableOk d) {fn : Fn} {r : Record} :
    GrantedOn d fn r ↔ ∃ h, lookup d h = some r ∧ r.fn = fn ∧ r.state = .granted := by
  unfold GrantedOn
  simp only [mem_records_iff_lookup ht]

section

variable {x : Option Fn} {u : Driver → Option Handle} {d : Device}

theorem Bonded.due (b : Bonded none u d) (fn : Fn) : Bonded (some fn) u d := ⟨b.bound, fun k _ => b.values k nofun⟩

/-- Neither table nor sets nor values change. -/
theorem Bonded.congr {e : Device} (b : Bonded x u d) (hs : e.table.slots = d.table.slots) (hq : e.table.queue = d.table.queue)
    (hc : e.table.counter = d.table.counter) (hv : e.table.leaving = d.table.leaving)
    (hl : e.link.stations = d.link.stations) (hh : ∀ fn, HandedOn d e fn) : Bonded x u e :=
  ⟨b.bound.congr hs hq hc hv hl, fun fn hf => (b.values fn hf).congr (hh fn) fun r => by
    unfold GrantedOn; rw [records_congr hs]⟩

/-- Moves of the loads keep the bonds. -/
theorem smooth_bonded (x : Option Fn) (u : Driver → Option Handle) : Smooth (Bonded x u) where
  cap d b := b.congr rfl rfl rfl rfl rfl fun fn => (smooth_handedOn d fn).cap d (handedOn_refl d fn)
  fridge d y hy b := b.congr rfl rfl rfl rfl rfl fun fn => (smooth_handedOn d fn).fridge d y hy (handedOn_refl d fn)
  heater d y hy hw hh b :=
    b.congr rfl rfl rfl rfl rfl fun fn => (smooth_handedOn d fn).heater d y hy hw hh (handedOn_refl d fn)
  sched d p c l b := b.congr rfl rfl rfl rfl rfl fun fn => (smooth_handedOn d fn).sched d p c l (handedOn_refl d fn)
  heaterFlag d b := ⟨b.bound.raiseFlag _, fun fn hf =>
    (b.values fn hf).congr ((smooth_handedOn d fn).heaterFlag d (handedOn_refl d fn)) fun _ => .rfl⟩
  budgetFlag d b := ⟨b.bound.raiseFlag _, fun fn hf =>
    (b.values fn hf).congr ((smooth_handedOn d fn).budgetFlag d (handedOn_refl d fn)) fun _ => .rfl⟩

theorem smooth_bound (u : Driver → Option Handle) : Smooth (Bound u) where
  cap _ b := b.congr rfl rfl rfl rfl rfl
  fridge _ _ _ b := b.congr rfl rfl rfl rfl rfl
  heater _ _ _ _ _ b := b.congr rfl rfl rfl rfl rfl
  sched _ _ _ _ b := b.congr rfl rfl rfl rfl rfl
  heaterFlag _ b := b.raiseFlag _
  budgetFlag _ b := b.raiseFlag _

theorem Bound.pushValue (b : Bound u d) (fn : Fn) : Bound u (pushValue fn d) := by
  have s := smooth_bound u
  cases fn with
  | heater => exact s.pushHeat (b.congr rfl rfl rfl rfl rfl)
  | fridge => exact s.pushCool (b.congr rfl rfl rfl rfl rfl)
  | outlet => exact s.setOutlet (b.congr rfl rfl rfl rfl rfl)
  | lamp c => exact b.congr rfl rfl rfl rfl rfl
  | rest dr => exact b

/-- The value of the function that is due is handed. -/
theorem Bonded.pushValue {fn : Fn} (b : Bonded (some fn) u d) : Bonded none u (pushValue fn d) := by
  refine ⟨b.bound.pushValue fn, fun k _ => ?_⟩
  by_cases hk : k = fn
  · rw [hk]; exact valueOk_pushValue fn d
  · exact (b.values k fun e => hk (by cases e; rfl)).pushValue fn

/-! ## Revisions -/

theorem handedOn_of_same {e : Device} (s : sameExcept [.table, .link] d e) (fn : Fn) : HandedOn d e fn := by
  cases fn with
  | heater => exact congrArg Heater.demand (same_heater s)
  | fridge => exact congrArg Fridge.target (same_fridge s)
  | outlet => exact congrArg Sched.outletOn (same_sched s)
  | lamp c => exact congrArg (fun l : PerChannel Lamp => (l.get c).effective) (same_lamps s)
  | rest dr => trivial

/-- A value stands where the records that are GRANTED for it do. -/
theorem ValueOk.of_lookup {e : Device} {fn : Fn} (h : ValueOk d fn) (hd : TableOk d) (he : TableOk e)
    (s : sameExcept [.table, .link] d e)
    (hl : ∀ k r, r.fn = fn → r.state = .granted → (lookup e k = some r ↔ lookup d k = some r)) : ValueOk e fn := by
  refine h.congr (handedOn_of_same s fn) fun r => ?_
  rw [grantedOn_iff_lookup hd, grantedOn_iff_lookup he]
  refine exists_congr fun k => ?_
  constructor
  · rintro ⟨hr, hf, hg⟩
    exact ⟨(hl k r hf hg).mp hr, hf, hg⟩
  · rintro ⟨hr, hf, hg⟩
    exact ⟨(hl k r hf hg).mpr hr, hf, hg⟩

/-- A revision leaves the value of another function, and of its own where the record is GRANTED neither before nor after. -/
theorem ValueOk.revise {h : Handle} {r : Record} {fn : Fn} {f : Record → Record} (v : ValueOk d fn) (ht : TableOk d)
    (hr : lookup d h = some r) (hf : (f r).fn = r.fn)
    (hv : fn ≠ r.fn ∨ r.state ≠ .granted ∧ (f r).state ≠ .granted) : ValueOk (revise h f d) fn := by
  refine v.of_lookup ht (tableOk_revise h f ht) (same_mono (same_revise h f d)) fun k y hy hg => ?_
  rw [lookup_revise]
  split
  next hk =>
    rw [hk, hr]
    simp only [Option.map_some, Option.some.injEq]
    constructor
    · intro e
      rcases hv with hne | ⟨-, hn⟩
      · exact absurd (by rw [← hy, ← e, hf]) hne
      · exact absurd (e ▸ hg) hn
    · intro e
      rcases hv with hne | ⟨hn, -⟩
      · exact absurd (by rw [← hy, e]) hne
      · exact absurd (e ▸ hg) hn
  · rfl

/-- A revision in general: mild, with a sequence that is the record's or its own, of the function whose value is due or of a
record that is GRANTED neither before nor after. -/
theorem Bonded.reviseSeq (b : Bonded x u d) (h : Handle) (f : Record → Record)
    (hf : ∀ r, lookup d h = some r → Mild r (f r) ∧ (f r).seq ≤ d.table.counter ∧
      ∀ k y, lookup d k = some y → k ≠ h → y.seq ≠ (f r).seq)
    (hv : ∀ r, lookup d h = some r → x = some r.fn ∨ (r.state ≠ .granted ∧ (f r).state ≠ .granted) ∨ ∃ dr, r.fn = .rest dr) :
    Bonded x u (revise h f d) := by
  refine ⟨b.bound.reviseSeq h f hf, fun fn hx => ?_⟩
  have v := b.values fn hx
  cases hr : lookup d h with
  | none => rw [revise_of_none f hr]; exact v
  | some r =>
    have same := (hf r hr).1.fn
    rcases hv r hr with e | hn | ⟨dr, e⟩
    · exact v.revise b.bound.table hr same (.inl fun he => hx (he ▸ e))
    · exact v.revise b.bound.table hr same (.inr hn)
    · by_cases he : fn = r.fn
      · rw [he, e]; trivial
      · exact v.revise b.bound.table hr same (.inl he)

theorem Bonded.revise (b : Bonded x u d) (h : Handle) (f : Record → Record)
    (hf : ∀ r, lookup d h = some r → Mild r (f r) ∧ (f r).seq = r.seq)
    (hv : ∀ r, lookup d h = some r → x = some r.fn ∨ (r.state ≠ .granted ∧ (f r).state ≠ .granted) ∨ ∃ dr, r.fn = .rest dr) :
    Bonded x u (revise h f d) := by
  refine b.reviseSeq h f (fun r hr => ?_) hv
  obtain ⟨m, hs⟩ := hf r hr
  rw [hs]
  exact ⟨m, b.bound.counted h r hr, fun k y hy hk e => hk (b.bound.apart k h y r hy hr e)⟩

/-- A record with a plan is a driver's. -/
theorem rest_of_plan (b : Bound u d) {h : Handle} {r : Record} {p : PlanRec} (hr : lookup d h = some r)
    (hp : r.params = .plan p) : ∃ dr, r.fn = .rest dr := by
  have hk := (b.kinds h r hr).2
  rw [hp] at hk
  cases hf : r.fn with
  | rest dr => exact ⟨dr, rfl⟩
  | _ => rw [hf] at hk; cases hk

/-- A change of a plan's own fields. -/
theorem Bonded.onPlan (b : Bonded x u d) (h : Handle) (f : PlanRec → PlanRec) :
    Bonded x u (Machine.revise h (Machine.onPlan f) d) := by
  cases hr : lookup d h with
  | none => rw [revise_of_none _ hr]; exact b
  | some r =>
    rcases onPlan_eq f r with e | ⟨p, hp, e⟩
    · rw [revise_of_some _ hr, if_pos e]; exact b
    · have only : ∀ y, lookup d h = some y → y = r := fun y hy => Option.some.inj (hy.symm.trans hr)
      refine b.revise h _ (fun y hy => ?_) fun y hy => .inr (.inr ?_)
      · rw [only y hy]
        exact ⟨mild_onPlan f r, by rw [e]⟩
      · rw [only y hy]
        exact rest_of_plan b.bound hr hp

/-! ## Grants and deferrals (R9, R10) -/

theorem Bonded.leaveQueue (b : Bonded x u d) (h : Handle) : Bonded x u (leaveQueue h d) :=
  ⟨b.bound.leaveQueue h, fun fn hx => (b.values fn hx).congr (handedOn_of_same (same_mono (same_leaveQueue h d)) fn) fun _ => .rfl⟩

theorem Bonded.joinQueue (b : Bonded x u d) (h : Handle) : Bonded x u (joinQueue h d) :=
  ⟨b.bound.joinQueue h, fun fn hx => (b.values fn hx).congr (handedOn_of_same (same_mono (same_joinQueue h d)) fn) fun r => by
    unfold GrantedOn; rw [records_congr (joinQueue_slots h d)]⟩

theorem Bonded.grant (b : Bonded none u d) (h : Handle) (w : Reason) : Bonded none u (grant h w d) := by
  unfold Machine.grant
  split
  next r hr =>
    refine Bonded.pushValue (fn := r.fn) (((b.due r.fn).leaveQueue h).revise h _ (fun y _ => ⟨mild_grantAs _ _ y, ?_⟩) fun y hy => .inl ?_)
    · obtain ⟨st, v, e⟩ := grantAs_eq w (causesOf d.table.causes r.fn) y
      rw [e]
    · rw [lookup_leaveQueue, hr] at hy
      cases hy
      rfl
  · exact b

theorem Bonded.defer (b : Bonded none u d) (h : Handle) (w : Reason)
    (hn : ∀ r, lookup d h = some r → r.state ≠ .granted) : Bonded none u (defer h w d) := by
  unfold Machine.defer
  split
  next r hr =>
    refine Bonded.joinQueue (b.revise h _ (fun y _ => ?_) fun y hy => .inr (.inl ⟨hn y hy, ?_⟩)) h
    · exact ⟨mild_of_same rfl rfl rfl rfl, rfl⟩
    · exact fun e => RecState.noConfusion e
  · exact b

/-! ## Causes (R12) -/

theorem Bonded.causes (b : Bonded x u d) (m : CauseMap) : Bonded x u { d with table := { d.table with causes := m } } :=
  b.congr rfl rfl rfl rfl rfl (handedOn_refl d)

/-- The map applied to the records of a function leaves every other function's value. -/
theorem valueOk_foldl_remap {fn k : Fn} (hk : k ≠ fn) : ∀ (l : List Handle) (d : Device), Bound u d →
    (∀ h ∈ l, ∀ r, lookup d h = some r → r.fn = fn) → ValueOk d k → ValueOk (l.foldl (remap fn) d) k
  | [], _, _, _, v => v
  | h :: l, d, b, hl, v => by
    have mild : ∀ r, lookup d h = some r → Mild r (mapRecord (causesOf d.table.causes fn) r) ∧
        (mapRecord (causesOf d.table.causes fn) r).seq = r.seq := fun r _ => by
      obtain ⟨st, w, e⟩ := mapRecord_eq (causesOf d.table.causes fn) r
      exact ⟨mild_mapRecord _ r, by rw [e]⟩
    refine valueOk_foldl_remap hk l _ (b.revise h _ mild) (fun k' m r hr => ?_) ?_
    · rw [remap_eq, lookup_revise] at hr
      split at hr
      · obtain ⟨y, hy, rfl⟩ := Option.map_eq_some_iff.mp hr
        rw [(mild y hy).1.fn]
        exact hl h List.mem_cons_self y hy
      · exact hl k' (List.mem_cons_of_mem _ m) r hr
    · cases hr : lookup d h with
      | none => rw [remap_eq, revise_of_none _ hr]; exact v
      | some r =>
        exact v.revise b.table hr (mild r hr).1.fn (.inl fun e => hk (e.trans (hl h List.mem_cons_self r hr)))

theorem bound_foldl_remap {fn : Fn} : ∀ (l : List Handle) (d : Device), Bound u d → Bound u (l.foldl (remap fn) d)
  | [], _, b => b
  | h :: l, d, b => bound_foldl_remap l _ (b.revise h _ fun r _ => by
      obtain ⟨st, w, e⟩ := mapRecord_eq (causesOf d.table.causes fn) r
      exact ⟨mild_mapRecord _ r, by rw [e]⟩)

theorem Bonded.setCause (b : Bonded none u d) (fn : Fn) (f : CauseSet → CauseSet) : Bonded none u (setCause fn f d) := by
  unfold Machine.setCause
  refine kept_ite b ?_
  unfold applyMap
  dsimp only
  have b1 := b.causes (setCauses d.table.causes (f (causesOf d.table.causes fn)) fn)
  refine Bonded.pushValue ⟨bound_foldl_remap _ _ b1.bound, fun k hk => ?_⟩
  refine valueOk_foldl_remap (fun e => hk (by rw [e])) _ _ b1.bound (fun h m r hr => ?_) (b1.values k nofun)
  obtain ⟨⟨k', y⟩, hm, rfl⟩ := List.mem_map.mp m
  obtain ⟨hm, hf⟩ := List.mem_filter.mp hm
  have := lookup_of_mem_records b1.bound.table hm
  rw [hr] at this
  cases this
  simpa using hf

/-- What a recomputation does keeps the bonds. -/
theorem settled_bonded (u : Driver → Option Handle) : Settled (Bonded none u) where
  cause _ l f b := b.setCause (laneFn l) f
  atRisk _ h _ b := b.onPlan h _
  budget _ _ b := b.congr rfl rfl rfl rfl rfl (handedOn_refl _)
  cap _ b := (smooth_bonded none u).cap _ b
  form _ b := (smooth_bonded none u).formPermissions b
  stop _ b := (smooth_bonded none u).sendStop b
  budgetFlag _ b := (smooth_bonded none u).budgetFlag _ b

/-! ## The next sequence (R20) -/

theorem Bonded.takeSequence (b : Bonded x u d) : Bonded x u (takeSequence d) := by
  obtain ⟨g, hl, hm, -⟩ := takeSequence_lookup b.bound
  have ht := b.bound.takeSequence
  refine ⟨ht, fun fn hx => (b.values fn hx).resequenced (handedOn_of_same (same_mono (same_takeSequence d)) fn) g ?_ ?_ ?_⟩
  · intro y
    rw [grantedOn_iff_lookup ht.table]
    constructor
    · rintro ⟨k, hy, hf, hg⟩
      rw [hl] at hy
      obtain ⟨r, hr, rfl⟩ := Option.map_eq_some_iff.mp hy
      exact ⟨r, (grantedOn_iff_lookup b.bound.table).mpr ⟨k, hr, hf, hg⟩, rfl⟩
    · rintro ⟨r, hr, rfl⟩
      obtain ⟨k, hr, hf, hg⟩ := (grantedOn_iff_lookup b.bound.table).mp hr
      exact ⟨k, by rw [hl, hr]; rfl, hf, hg⟩
  · intro r y hr hy hlt
    obtain ⟨h, hr, -⟩ := (grantedOn_iff_lookup b.bound.table).mp hr
    obtain ⟨k, hy, -⟩ := (grantedOn_iff_lookup b.bound.table).mp hy
    exact hm h k r y hr hy hlt
  · intro r y hr hy he
    obtain ⟨h, hr, -⟩ := (grantedOn_iff_lookup b.bound.table).mp hr
    obtain ⟨k, hy, -⟩ := (grantedOn_iff_lookup b.bound.table).mp hy
    have := b.bound.apart h k r y hr hy he
    rw [this, hy] at hr
    exact (Option.some.inj hr).symm

/-! ## New records and leaving ones -/

/-- A record that is not GRANTED joins. -/
theorem ValueOk.insert {fn : Fn} (v : ValueOk d fn) (ht : TableOk d) {h : Handle} {r : Record}
    (hs : d.table.slots[h.slot]? = some ⟨h.gen, none⟩) (hn : r.state ≠ .granted) : ValueOk (putRecord h r d) fn := by
  refine v.of_lookup ht (tableOk_putRecord r hs ht) (same_mono (same_putRecord h r d)) fun k y hy hg => ?_
  rw [lookup_insert ht hs]
  split
  next hk =>
    rw [hk, lookup_free hs]
    simp only [Option.some.injEq, reduceCtorEq, iff_false]
    rintro rfl
    exact hn hg
  · rfl

/-- A record leaves the table, and its value is formed anew (R14). -/
theorem Bonded.dropRecord (b : Bonded none u d) {h : Handle} {r : Record} (hr : lookup d h = some r) (w : RetireReason)
    {how : Report} (hh : how ≠ .silent)
    (hplan : ∀ dr, u dr = some h → ∃ st, d.table.leaving = some (h, st) ∧ r.owner = .station st) :
    Bonded none u (dropRecord h (noticeStation d r) w how d) := by
  unfold Machine.dropRecord
  rw [hr]
  have bound := b.bound.retired hr w hh hplan
  refine Bonded.pushValue ⟨bound, fun k hk => ?_⟩
  have same := same_reportRetired (noticeStation d r) h r.fn w how (Machine.leaveQueue h (freeSlot h.slot d))
  refine (b.values k nofun).of_lookup b.bound.table bound.table ?_ fun l y hy _ => ?_
  · exact same_then (same_then (same_mono (same_freeSlot h.slot d)) (same_leaveQueue h _)) same
  · rw [lookup_congr (congrArg Table.slots (same_table same)), lookup_leaveQueue, lookup_freeSlot hr]
    split
    next hl =>
      rw [hl, hr]
      simp only [reduceCtorEq, Option.some.injEq, false_iff]
      rintro rfl
      exact hk (by rw [hy])
    · rfl

end

end Sys2Proof.Machine
end

section
/-! PROOF. The causes of CUTOFF and BUDGET through a recomputation (R66, R72), and every bond through the work of the budget
unit (`Sound`). -/

namespace Sys2Proof.Machine
open Sys2Proof

/-! ## Causes through a recomputation -/

theorem causesOk_congr {d e : Device} (hb : e.budget.mode = d.budget.mode) (hm : e.budget.modes = d.budget.modes)
    (hc : e.table.causes = d.table.causes) (h : CausesOk d) : CausesOk e := by
  unfold CausesOk
  rw [hb, hm, hc]
  exact h

/-- A change of causes that leaves CUTOFF and BUDGET keeps what rests on them. -/
theorem causesOk_setCause {d : Device} {f : CauseSet → CauseSet} (hf : KeepsBudgetCauses f) (fn : Fn) (h : CausesOk d) :
    CausesOk (setCause fn f d) := by
  have hb : (setCause fn f d).budget = d.budget := same_budget (same_setCause fn f d)
  intro l
  dsimp only
  rw [hb]
  by_cases hl : laneFn l = fn
  · rw [← hl, setCause_causes_self, (hf _).1, (hf _).2]
    exact h l
  · rw [setCause_causes_ne _ _ hl]
    exact h l

theorem laneFn_injective {l k : Lane} (h : laneFn l = laneFn k) : l = k := by
  cases l <;> cases k <;> first | rfl | cases h

/-- Each lane's causes change by its own function. -/
theorem causesOf_onLanes (g : Lane → CauseSet → CauseSet) (d : Device) (l : Lane) :
    causesOf (onLanes (fun l => setCause (laneFn l) (g l)) d).table.causes (laneFn l) =
      g l (causesOf d.table.causes (laneFn l)) := by
  have ne : ∀ a b : Lane, a ≠ b → ∀ d, causesOf (setCause (laneFn b) (g b) d).table.causes (laneFn a) =
      causesOf d.table.causes (laneFn a) := fun a b hab d => setCause_causes_ne _ _ fun e => hab (laneFn_injective e)
  unfold onLanes
  cases l
  · rw [ne .heat .aux nofun, ne .heat .cool nofun, setCause_causes_self]
  · rw [ne .cool .aux nofun, setCause_causes_self, ne .cool .heat nofun]
  · rw [setCause_causes_self, ne .aux .cool nofun, ne .aux .heat nofun]

theorem budget_onLanes (g : Lane → CauseSet → CauseSet) (d : Device) :
    (onLanes (fun l => setCause (laneFn l) (g l)) d).budget = d.budget :=
  same_budget (same_onLanes (fun l => setCause (laneFn l) (g l)) (fun l d => same_setCause (laneFn l) (g l) d) d)

/-- In CUTOFF its cause stands on every lane function. -/
def CutoffStands (d : Device) : Prop := d.budget.mode = .cutoff → ∀ l, (causesOf d.table.causes (laneFn l)).cutoff = true

theorem cutoffStands_takeRegime {d : Device} (g : Option BudgetMode) (h : CutoffStands d) : CutoffStands (takeRegime g d) := by
  unfold takeRegime
  split
  · refine kept_ite h fun _ l => ?_
    unfold enterCutoff
    dsimp only [setBudget]
    rw [causesOf_onLanes (fun _ => causeBudget false), causesOf_onLanes (fun _ => causeCutoff true)]
    rfl
  next hg =>
    intro hm
    dsimp only [setBudget] at hm
    cases g with
    | none => cases hm
    | some m => exact absurd (congrArg some hm) hg

theorem cutoffStands_advance {d : Device} (g : Option BudgetMode) (h : CutoffStands d) : CutoffStands (advance g d) := by
  unfold advance
  split
  · exact h
  · intro hm
    dsimp only [setBudget] at hm
    unfold projectionMode at hm
    split at hm
    · cases hm
    · split at hm <;> cases hm
  · exact h

theorem setAtRisk_causes (d : Device) : (setAtRisk d).table.causes = d.table.causes ∧ (setAtRisk d).budget = d.budget := by
  refine foldl_kept (P := fun e => e.table.causes = d.table.causes ∧ e.budget = d.budget) (fun e hr ⟨hc, hb⟩ => ?_) _ d ⟨rfl, rfl⟩
  exact ⟨(revise_causes _ _ _).trans hc, (same_budget (same_revise _ _ _)).trans hb⟩

theorem handModes_table (m : PerLane LaneMode) (d : Device) : (handModes m d).table = d.table := by
  have form : (formPermissions (setBudget (fun b => { b with modes := m }) d)).table = d.table :=
    (same_table (same_formPermissions (setBudget (fun b => { b with modes := m }) d))).trans rfl
  unfold handModes
  exact kept_ite (P := fun e => e.table = d.table) rfl
    (kept_ite (P := fun e => e.table = d.table) ((same_table (same_sendStop _)).trans form) form)

/-- The modes handed on are in force, and the regime stays. -/
theorem handModes_budget (m : PerLane LaneMode) (d : Device) :
    (handModes m d).budget.modes = m ∧ (handModes m d).budget.mode = d.budget.mode := by
  have form : (formPermissions (setBudget (fun b => { b with modes := m }) d)).budget = { d.budget with modes := m } :=
    same_budget (same_formPermissions _)
  unfold handModes
  split
  next h => exact ⟨h, rfl⟩
  · refine kept_ite (P := fun e => e.budget.modes = m ∧ e.budget.mode = d.budget.mode) ?_ ?_
    · rw [same_budget (same_sendStop _), form]
      exact ⟨rfl, rfl⟩
    · rw [form]
      exact ⟨rfl, rfl⟩

theorem handCap_budget (c : Nat) (d : Device) : (handCap c d).table = d.table ∧ (handCap c d).budget.modes = d.budget.modes ∧
    (handCap c d).budget.mode = d.budget.mode := by
  unfold handCap
  exact kept_ite (P := fun e => e.table = d.table ∧ e.budget.modes = d.budget.modes ∧ e.budget.mode = d.budget.mode)
    ⟨rfl, rfl, rfl⟩ ⟨rfl, rfl, rfl⟩

theorem causesOk_handOn {d : Device} (h : CutoffStands d) : CausesOk (handOn d) := by
  unfold handOn
  split
  next hm =>
    obtain ⟨ht, hs, -⟩ := handCap_budget cutoffCap (handModes allOff d)
    intro l
    dsimp only
    rw [ht, handModes_table]
    exact ⟨fun _ => h hm l, fun _ => .inl (h hm l)⟩
  next hm =>
    dsimp only
    generalize modesAt d.budget.ladder d.budget.position = m
    generalize capAt d.budget.ladder d.budget.position = c
    obtain ⟨ht, hs, hb⟩ := handCap_budget c (handModes m d)
    obtain ⟨hs', hb'⟩ := handModes_budget m d
    have causes := causesOf_onLanes (fun l => causeBudget (m.get l == .off)) (handCap c (handModes m d))
    have budget := budget_onLanes (fun l => causeBudget (m.get l == .off)) (handCap c (handModes m d))
    intro l
    unfold syncBudgetCause
    dsimp only
    rw [budget, hs, hs', hb, hb', causes]
    exact ⟨fun e => absurd e hm, fun e => .inr (by simp [causeBudget, e])⟩

theorem causesOk_recomputeCore {d : Device} (h : CausesOk d) : CausesOk (recomputeCore d) := by
  have h1 : CutoffStands (advance (regimeOf d) (takeRegime (regimeOf d) d)) :=
    cutoffStands_advance _ (cutoffStands_takeRegime _ fun hm l => (h l).1 hm)
  refine causesOk_congr (d := handOn (setAtRisk (advance (regimeOf d) (takeRegime (regimeOf d) d)))) rfl rfl rfl (causesOk_handOn ?_)
  obtain ⟨hc, hb⟩ := setAtRisk_causes (advance (regimeOf d) (takeRegime (regimeOf d) d))
  unfold CutoffStands
  rw [hc, hb]
  exact h1

theorem causesOk_withBudgetNotice {d : Device} {f : Device → Device} (h : CausesOk (f d)) : CausesOk (withBudgetNotice f d) :=
  kept_ite (P := CausesOk) h h

/-! ## A plan that leaves stays so through the work of the budget unit -/

theorem calm_leaving (l : Option (Handle × Station)) : Calm fun d => d.table.leaving = l where
  cap _ h := h
  budget _ _ h := h
  fridge _ _ _ h := h
  heater _ _ _ _ _ h := h
  sched _ _ _ _ h := h
  heat _ h := h
  cool _ h := h
  outlet _ h := h
  causes _ _ _ h := h
  remap _ _ _ h := (revise_leaving _ _ _).trans h
  atRisk _ _ _ h := (revise_leaving _ _ _).trans h
  heaterFlag _ h := h
  budgetFlag _ h := h

theorem grant_table (h : Handle) (w : Reason) (d : Device) :
    (grant h w d).table.leaving = d.table.leaving ∧ (grant h w d).table.causes = d.table.causes := by
  unfold grant
  split
  · rw [pushValue_table, revise_leaving, revise_causes]; exact ⟨rfl, rfl⟩
  · exact ⟨rfl, rfl⟩

theorem defer_table (h : Handle) (w : Reason) (d : Device) :
    (defer h w d).table.leaving = d.table.leaving ∧ (defer h w d).table.causes = d.table.causes := by
  unfold defer
  split
  · dsimp only; rw [joinQueue_leaving, joinQueue_causes, revise_leaving, revise_causes]; exact ⟨rfl, rfl⟩
  · exact ⟨rfl, rfl⟩

theorem setCause_leaving (fn : Fn) (f : CauseSet → CauseSet) (d : Device) :
    (setCause fn f d).table.leaving = d.table.leaving := by
  unfold setCause
  refine kept_ite (P := fun e => e.table.leaving = d.table.leaving) rfl ?_
  unfold applyMap
  dsimp only
  rw [pushValue_table]
  exact foldl_kept (P := fun e => e.table.leaving = d.table.leaving) (fun e h he => (revise_leaving _ _ _).trans he) _ _ rfl

/-! ## Every bond through the work of the budget unit -/

/-- The bonds of table and values with the causes; `l` is the plan that is leaving. -/
structure Sound (u : Driver → Option Handle) (l : Option (Handle × Station)) (d : Device) : Prop where
  bonded : Bonded none u d
  causes : CausesOk d
  leaving : d.table.leaving = l

section

variable {u : Driver → Option Handle} {l : Option (Handle × Station)} {d : Device}

/-- Where budget, causes and the plan that leaves stay. -/
theorem Sound.of_same {bs : List Block} {e : Device} (h : Sound u l d) (b : Bonded none u e) (s : sameExcept bs d e)
    (hb : .budget ∉ bs) (ht : e.table.leaving = d.table.leaving ∧ e.table.causes = d.table.causes) : Sound u l e :=
  ⟨b, causesOk_congr (by rw [same_budget s hb]) (by rw [same_budget s hb]) ht.2 h.causes, ht.1.trans h.leaving⟩

theorem smooth_sound (u : Driver → Option Handle) (l : Option (Handle × Station)) : Smooth (Sound u l) where
  cap _ h := ⟨(smooth_bonded none u).cap _ h.bonded, h.causes, h.leaving⟩
  fridge _ x hx h := ⟨(smooth_bonded none u).fridge _ x hx h.bonded, h.causes, h.leaving⟩
  heater _ x hd hw hh h := ⟨(smooth_bonded none u).heater _ x hd hw hh h.bonded, h.causes, h.leaving⟩
  sched _ p c o h := ⟨(smooth_bonded none u).sched _ p c o h.bonded, h.causes, h.leaving⟩
  heaterFlag _ h := ⟨(smooth_bonded none u).heaterFlag _ h.bonded, h.causes, h.leaving⟩
  budgetFlag _ h := ⟨(smooth_bonded none u).budgetFlag _ h.bonded, h.causes, h.leaving⟩

theorem Sound.recomputeCore (h : Sound u l d) : Sound u l (recomputeCore d) :=
  ⟨(settled_bonded u).recomputeCore h.bonded, causesOk_recomputeCore h.causes, (calm_leaving l).settled.recomputeCore h.leaving⟩

theorem Sound.withBudgetNotice {f : Device → Device} (h : Sound u l (f d)) : Sound u l (withBudgetNotice f d) := by
  unfold Machine.withBudgetNotice
  exact kept_ite h ((smooth_sound u l).budgetFlag _ h)

theorem Sound.recompute (h : Sound u l d) : Sound u l (recompute d) := Sound.withBudgetNotice h.recomputeCore

theorem Sound.setCause (h : Sound u l d) (fn : Fn) {f : CauseSet → CauseSet} (hf : KeepsBudgetCauses f) :
    Sound u l (setCause fn f d) :=
  ⟨h.bonded.setCause fn f, causesOk_setCause hf fn h.causes, (setCause_leaving fn f d).trans h.leaving⟩

theorem Sound.setCauseAndRecompute (h : Sound u l d) (fn : Fn) {f : CauseSet → CauseSet} (hf : KeepsBudgetCauses f) :
    Sound u l (setCauseAndRecompute fn f d) := by
  unfold Machine.setCauseAndRecompute
  exact kept_ite (h.setCause fn hf) (h.setCause fn hf).recompute

theorem Sound.grant (h : Sound u l d) (x : Handle) (w : Reason) : Sound u l (grant x w d) :=
  h.of_same (h.bonded.grant x w) (same_grant x w d) (by decide) (grant_table x w d)

theorem Sound.defer (h : Sound u l d) (x : Handle) (w : Reason) (hn : ∀ r, lookup d x = some r → r.state ≠ .granted) :
    Sound u l (defer x w d) :=
  h.of_same (h.bonded.defer x w hn) (same_defer x w d) (by decide) (defer_table x w d)

theorem Sound.admission (h : Sound u l d) (x : Handle) (a : Lane) (c : Class)
    (hn : ∀ r, lookup d x = some r → r.state ≠ .granted) : Sound u l (admission x a c d) := by
  unfold Machine.admission
  split
  · exact (h.grant x _).recompute
  · exact h.defer x _ hn

theorem Sound.startRecord (h : Sound u l d) (x : Handle) (hn : ∀ r, lookup d x = some r → r.state ≠ .granted) :
    Sound u l (startRecord x d) := by
  unfold Machine.startRecord
  split
  · split
    · exact h.admission _ _ _ hn
    · exact h.grant _ _
  · exact h

/-- A change of the budget that leaves mode and modes. -/
theorem Sound.budget (h : Sound u l d) (x : Budget) (hm : x.mode = d.budget.mode) (hs : x.modes = d.budget.modes) :
    Sound u l { d with budget := x } :=
  ⟨h.bonded.congr rfl rfl rfl rfl rfl (handedOn_refl d), causesOk_congr (d := d) hm hs rfl h.causes, h.leaving⟩

theorem Sound.restore (h : Sound u l d) : Sound u l (restore d) := by
  unfold Machine.restore
  exact kept_ite (Sound.recomputeCore (h.budget _ rfl rfl)) h

theorem Sound.admissionPass : ∀ (q : List Handle) {d : Device}, Sound u l d → Sound u l (admissionPass q d)
  | [], _, h => h
  | x :: q, d, h => by
    unfold Machine.admissionPass
    split
    · split
      · split
        · exact admissionPass q h
        · split
          · exact admissionPass q (h.grant _ _).recomputeCore
          · exact h
      · exact admissionPass q h
    · exact admissionPass q h

theorem Sound.frameWork (h : Sound u l d) : Sound u l (frameWork d) :=
  Sound.withBudgetNotice (Sound.admissionPass _ h.recomputeCore.restore)

theorem Sound.ladder (h : Sound u l d) :
    Sound u l (Machine.withBudgetNotice (fun d => Machine.recomputeCore (rebuildLadder d)) d) :=
  Sound.withBudgetNotice (Sound.recomputeCore (h.budget _ rfl rfl))

theorem Sound.onPlan (h : Sound u l d) (x : Handle) (f : PlanRec → PlanRec) : Sound u l (revise x (onPlan f) d) :=
  h.of_same (h.bonded.onPlan x f) (same_revise x _ d) (by decide) ⟨revise_leaving _ _ _, revise_causes _ _ _⟩

end

end Sys2Proof.Machine
end

section
/-! PROOF. Every bond through the plans and their INTERNAL records (`Bond`): preheat, retirement, and all that is done by
whole moves. -/

namespace Sys2Proof.Machine
open Sys2Proof

/-! ## Bonds with the plans of the plan units -/

/-- The plan of each driver. -/
def planMap (d : Device) (dr : Driver) : Option Handle := (d.plans.get dr).plan

/-- The bonds of table, values and causes, where each driver's plan is its plan unit's and none is leaving. -/
def Bond (d : Device) : Prop := Sound (planMap d) none d

theorem Bond.of_sound {d e : Device} (h : Sound (planMap d) none e) (hp : e.plans = d.plans) : Bond e := by
  have : planMap e = planMap d := by unfold planMap; rw [hp]
  rw [Bond, this]
  exact h

section

variable {u : Driver → Option Handle} {l : Option (Handle × Station)} {d e : Device}

/-- Neither budget nor table nor sets nor values change. -/
theorem Sound.congr (h : Sound u l d) (ht : e.table = d.table) (hb : e.budget = d.budget)
    (hs : e.link.stations = d.link.stations) (hv : ∀ fn, HandedOn d e fn) : Sound u l e :=
  ⟨h.bonded.congr (by rw [ht]) (by rw [ht]) (by rw [ht]) (by rw [ht]) hs hv,
    causesOk_congr (by rw [hb]) (by rw [hb]) (by rw [ht]) h.causes, by rw [ht]; exact h.leaving⟩

theorem Sound.raiseFlag (h : Sound u l d) (f : Flags → Flags) : Sound u l (raiseFlag f d) :=
  ⟨⟨h.bonded.bound.raiseFlag f, fun fn hx => (h.bonded.values fn hx).congr (handedOn_of_same (same_mono (same_raiseFlag f d)) fn)
    fun _ => .rfl⟩, h.causes, h.leaving⟩

theorem Sound.setFailure (h : Sound u l d) (k : FailureKind) : Sound u l (setFailure k d) :=
  ⟨⟨h.bonded.bound.setFailure k, fun fn hx => (h.bonded.values fn hx).congr (handedOn_of_same (same_mono (same_setFailure k d)) fn)
    fun _ => .rfl⟩, h.causes, h.leaving⟩

/-! ### Ramps and accounts -/

theorem Sound.lamps (h : Sound u l d) (x : PerChannel Lamp) (hx : ∀ c, (x.get c).effective = (d.lamps.get c).effective) :
    Sound u l { d with lamps := x } :=
  h.congr rfl rfl rfl fun fn => by
    cases fn with
    | lamp c => exact hx c
    | rest dr => trivial
    | _ => rfl

theorem units_bond : Units Bond where
  ramps _ x hx h := Sound.lamps h x hx
  unit d dr f hf h := by
    have hp : planMap (setUnit dr f d) = planMap d := by
      funext k
      by_cases hk : k = dr
      · rw [hk]
        simp only [planMap, setUnit, PerDriver_get_set]
        exact hf _
      · simp only [planMap, setUnit, PerDriver_get_set_ne _ _ hk]
    rw [Bond, hp]
    exact Sound.congr h rfl rfl rfl (handedOn_refl d)
  account d dr f _ h := Sound.congr (e := setAccount dr f d) h rfl rfl rfl (handedOn_refl d)
  warningFlag _ _ h := Sound.raiseFlag h _

/-! ### The next sequence and a new record -/

theorem Sound.takeSequence (h : Sound u l d) : Sound u l (takeSequence d) :=
  h.of_same h.bonded.takeSequence (same_takeSequence d) (by decide) ⟨takeSequence_leaving d, takeSequence_causes d⟩

/-- A record that is not GRANTED joins a table that no plan leaves. -/
theorem Sound.insert (s : Sound u none d) {v : Driver → Option Handle} {h : Handle} {r : Record}
    (hs : d.table.slots[h.slot]? = some ⟨h.gen, none⟩) (grow : ∀ dr k, u dr = some k → v dr = some k)
    (new : ∀ dr k, v dr = some k → u dr = some k ∨ k = h ∧ r.fn = .rest dr)
    (kind : r.kind = fnKind r.fn ∧ paramsKind r.params = fnKind r.fn)
    (rest : ∀ dr, r.fn = .rest dr → r.owner ≠ .internal ∧ v dr = some h) (reserved : 46 ≤ h.slot → r.owner = .internal)
    (inner : r.owner = .internal →
      r.fn = .heater ∧ ∃ dr p, h.slot = internalSlot dr ∧ served r.params = some p ∧ v dr = some p)
    (own : ∀ k y, lookup d k = some y → y.seq ≠ r.seq) (le : r.seq ≤ d.table.counter) (hn : r.state ≠ .granted) :
    Sound v none (putRecord h r d) where
  bonded := ⟨s.bonded.bound.insert hs s.leaving grow new kind rest reserved inner own le, fun fn hx =>
    (s.bonded.values fn hx).insert s.bonded.bound.table hs hn⟩
  causes := s.causes
  leaving := s.leaving

/-- The plan takes the INTERNAL record's handle. -/
theorem Sound.storeInternal (s : Sound u l d) (ph : Handle) (o : Option Handle) : Sound u l (storeInternal ph o d) := by
  unfold Machine.storeInternal
  split
  next r hr =>
    have seq : (Machine.onPlan (setInternal o) r).seq = r.seq := by
      rcases onPlan_eq (setInternal o) r with e | ⟨p, -, e⟩ <;> rw [e]
    have bound := s.bonded.bound.put hr (mild_onPlan (setInternal o) r)
      (fun k y hy hk e => hk (s.bonded.bound.apart k ph y r hy hr (e.trans seq)))
      (by rw [seq]; exact s.bonded.bound.counted ph r hr)
    refine ⟨⟨bound, fun fn hx => ?_⟩, s.causes, s.leaving⟩
    have v := s.bonded.values fn hx
    rcases onPlan_eq (setInternal o) r with e | ⟨p, hp, e⟩
    · refine v.of_lookup s.bonded.bound.table bound.table (same_mono (same_putRecord _ _ _)) fun k y _ _ => ?_
      rw [lookup_putRecord hr, e]
      split
      next hk => rw [hk, hr]
      · rfl
    · obtain ⟨dr, hdr⟩ := rest_of_plan s.bonded.bound hr hp
      by_cases hf : fn = .rest dr
      · rw [hf]; trivial
      · refine v.of_lookup s.bonded.bound.table bound.table (same_mono (same_putRecord _ _ _)) fun k y hy _ => ?_
        rw [lookup_putRecord hr]
        split
        next hk =>
          rw [hk, hr, e]
          simp only [Option.some.injEq]
          constructor
          · rintro rfl; exact absurd (hy.symm.trans hdr) hf
          · rintro rfl; exact absurd (hy.symm.trans hdr) hf
        · rfl
  · exact s

/-! ### The preheat (R26, R181) -/

theorem internalSlot_ge (dr : Driver) : 46 ≤ internalSlot dr := by
  cases dr
  · exact Nat.le_refl 46
  · exact Nat.le_succ 46

theorem internalSlot_injective {a b : Driver} (h : internalSlot a = internalSlot b) : a = b := by
  cases a <;> cases b <;> first | rfl | cases h

theorem Bond.preheat {dr : Driver} {ph : Handle} (t : Int) (hu : (d.plans.get dr).plan = some ph) (b : Bond d) :
    Bond (preheat dr ph t d) := by
  refine Bond.of_sound ?_ (same_plans (same_preheat dr ph t d))
  have s := Sound.takeSequence b
  unfold Machine.preheat
  dsimp only
  split
  next slot hs =>
    split
    next hfree =>
      have hs : (Machine.takeSequence d).table.slots[internalSlot dr]? = some ⟨slot.gen, none⟩ :=
        free_of_occupancy (occupancy_takeSequence d) (by rw [hs, ← hfree])
      have made := s.insert (v := planMap d) (h := ⟨internalSlot dr, slot.gen⟩)
        (r := internalRecord ph t (Machine.takeSequence d).table.counter (Machine.takeSequence d).settings.deferralLimit)
        hs (fun _ _ h => h) (fun _ _ h => .inl h) ⟨rfl, rfl⟩ nofun (fun _ => rfl) (fun _ => ⟨rfl, dr, ph, rfl, rfl, hu⟩)
        (fun k y hy => Nat.ne_of_lt (b.bonded.bound.fresh hy)) (Nat.le_refl _) nofun
      refine (made.storeInternal ph _).admission _ _ _ fun r hr => ?_
      have known := lookup_insert (h := ⟨internalSlot dr, slot.gen⟩) s.bonded.bound.table hs
        (internalRecord ph t (Machine.takeSequence d).table.counter (Machine.takeSequence d).settings.deferralLimit)
      unfold Machine.storeInternal at hr
      split at hr
      next y hy =>
        rw [lookup_putRecord hy] at hr
        split at hr
        next hk =>
          cases hr
          rw [known, if_pos hk.symm] at hy
          cases hy
          exact RecState.noConfusion
        · rw [known, if_pos rfl] at hr
          cases hr
          exact RecState.noConfusion
      · rw [known, if_pos rfl] at hr
        cases hr
        exact RecState.noConfusion
    next x hx =>
      obtain ⟨o, ho, -⟩ := gen_of_occupancy (occupancy_takeSequence d) hs
      refine Sound.recompute (s.of_same (Bonded.pushValue ((s.bonded.due .heater).reviseSeq _ _ (fun r hr => ?_) fun r hr => .inl ?_))
        (same_then (same_mono (same_revise _ _ _)) (same_pushValue .heater _) : sameExcept recordBlocks _ _) (by decide) ?_)
      · have hi := s.bonded.bound.reserved _ r hr (internalSlot_ge dr)
        obtain ⟨hf, dr', p, hslot, hp, hp'⟩ := s.bonded.bound.inner _ r hr hi
        rw [← internalSlot_injective hslot] at hp'
        have hp' : p = ph := Option.some.inj (hp'.symm.trans hu)
        refine ⟨⟨rfl, rfl, rfl, ?_, fun _ => ?_⟩, Nat.le_refl _, fun k y hy _ => Nat.ne_of_lt (b.bonded.bound.fresh hy)⟩
        · rw [(s.bonded.bound.kinds _ r hr).2, hf]; rfl
        · rw [hp, hp']; rfl
      · have hi := s.bonded.bound.reserved _ r hr (internalSlot_ge dr)
        rw [(s.bonded.bound.inner _ r hr hi).1]
      · rw [pushValue_table, revise_leaving, revise_causes]
        exact ⟨rfl, rfl⟩
  · exact b

/-! ### The retirement of a record (R14, R186) -/

theorem dropRecord_table (h : Handle) (st : Option Station) (w : RetireReason) (how : Report) (d : Device) :
    (dropRecord h st w how d).table.leaving = d.table.leaving ∧ (dropRecord h st w how d).table.causes = d.table.causes := by
  unfold dropRecord
  split
  · rw [pushValue_table, same_table (same_reportRetired _ _ _ _ _ _)]
    exact ⟨rfl, rfl⟩
  · exact ⟨rfl, rfl⟩

theorem lookup_dropRecord {h : Handle} {r : Record} (hr : lookup d h = some r) (st : Option Station) (w : RetireReason)
    (how : Report) (k : Handle) : lookup (dropRecord h st w how d) k = if k = h then none else lookup d k := by
  unfold dropRecord
  rw [hr]
  dsimp only
  rw [lookup_pushValue, lookup_congr (congrArg Table.slots (same_table (same_reportRetired _ _ _ _ _ _))), lookup_leaveQueue]
  exact lookup_freeSlot hr k

theorem Sound.dropRecord (s : Sound u l d) {h : Handle} {r : Record} (hr : lookup d h = some r) (w : RetireReason)
    {how : Report} (hh : how ≠ .silent)
    (hplan : ∀ dr, u dr = some h → ∃ st, d.table.leaving = some (h, st) ∧ r.owner = .station st) :
    Sound u l (dropRecord h (noticeStation d r) w how d) :=
  s.of_same (s.bonded.dropRecord hr w hh hplan) (same_dropRecord _ _ _ _ _) (by decide) (dropRecord_table _ _ _ _ _)

/-- A handle is live in two states with one occupancy or in neither. -/
theorem lookup_isSome_of_occupancy (h : occupancy e = occupancy d) (k : Handle) : (lookup e k).isSome = (lookup d k).isSome := by
  have hk := congrArg (·[k.slot]?) h
  simp only [occupancy_getElem?] at hk
  unfold lookup
  split
  · cases hd : d.table.slots[k.slot]? with
    | none => rw [hd] at hk; rw [Option.map_eq_none_iff.mp hk]
    | some y =>
      rw [hd] at hk
      obtain ⟨z, hz, hzy⟩ := Option.map_eq_some_iff.mp hk
      rw [hz]
      obtain ⟨hg, hs⟩ := Prod.mk.inj hzy
      dsimp only
      rw [hg]
      split
      · exact hs
      · rfl
  · rfl

theorem lookup_none_recompute {k : Handle} (h : lookup d k = none) : lookup (Machine.recompute d) k = none := by
  have := lookup_isSome_of_occupancy (occupancy_recompute d) k
  rw [h] at this
  exact Option.not_isSome_iff_eq_none.mp (by simp [this])

/-- No plan leaves, so each driver's plan is live. -/
theorem plan_live (s : Sound u none d) {dr : Driver} {h : Handle} (hu : u dr = some h) :
    ∃ r, lookup d h = some r ∧ r.fn = .rest dr := by
  rcases s.bonded.bound.plan dr h hu with hr | ⟨st, hst⟩
  · exact hr
  · rw [s.leaving] at hst; cases hst

/-- A retirement of a record that is no plan. -/
theorem Sound.retireRecord (s : Sound u none d) {h : Handle} {r : Record} (hr : lookup d h = some r) (hd : restDriver r.fn = none)
    (w : RetireReason) {how : Report} (hh : how ≠ .silent) : Sound u none (retireRecord h w how d) := by
  unfold Machine.retireRecord
  rw [hr]
  dsimp only
  rw [hd]
  refine (s.dropRecord hr w hh fun dr hu => ?_).recompute
  obtain ⟨x, hx, hf⟩ := plan_live s hu
  rw [hr] at hx
  cases hx
  rw [hf] at hd
  cases hd

/-- A plan is named as leaving while it is live yet. -/
theorem Sound.leave (s : Sound u none d) (h : Handle) (st : Station) :
    Sound u (some (h, st)) { d with table := { d.table with leaving := some (h, st) } } := by
  have b := s.bonded.bound
  have notice : ∀ k y, lookup d k = some y →
      noticeStation { d with table := { d.table with leaving := some (h, st) } } y = noticeStation d y := by
    intro k y hy
    cases hw : y.owner with
    | station o => rw [noticeStation_station hw, noticeStation_station hw]
    | internal =>
      obtain ⟨-, dr, p, -, hp, hu⟩ := b.inner k y hy hw
      obtain ⟨x, hx, -⟩ := plan_live s hu
      rw [noticeStation_internal hw, noticeStation_internal hw, hp]
      have hx' : lookup { d with table := { d.table with leaving := some (h, st) } } p = some x := hx
      simp only [Option.bind_some, planOwner, hx, hx']
  exact ⟨⟨{ b with
    told := fun o => (b.told o).imp fun k ⟨y, hy, hn⟩ => ⟨y, hy, (notice k y hy).trans hn⟩
    plan := fun dr k hu => .inl (plan_live s hu) }, fun fn hx => (s.bonded.values fn hx).congr (handedOn_refl d fn) fun _ => .rfl⟩,
    s.causes, rfl⟩

/-- The plan has left with its INTERNAL record, and its driver has none. -/
theorem Sound.left (s : Sound u l d) {h : Handle} {st : Station} {dr : Driver} (hl : l = some (h, st)) (hu : u dr = some h)
    (only : ∀ k, u k = some h → k = dr) (gone : lookup d h = none)
    (free : ∀ k r, lookup d k = some r → k.slot ≠ internalSlot dr) :
    Sound (fun k => if k = dr then none else u k) none { d with table := { d.table with leaving := none } } := by
  have b := s.bonded.bound
  have live : ∀ k p, k ≠ dr → u k = some p → p ≠ h ∧ ∃ r, lookup d p = some r ∧ r.fn = .rest k := by
    intro k p hk hp
    have hne : p ≠ h := fun e => hk (only k (e ▸ hp))
    rcases b.plan k p hp with hr | ⟨o, ho⟩
    · exact ⟨hne, hr⟩
    · rw [s.leaving, hl] at ho
      cases ho
      exact absurd rfl hne
  have other : ∀ k r, lookup d k = some r → r.owner = .internal →
      ∃ x p, x ≠ dr ∧ k.slot = internalSlot x ∧ served r.params = some p ∧ u x = some p := by
    intro k r hr hi
    obtain ⟨-, x, p, hs, hp, hx⟩ := b.inner k r hr hi
    exact ⟨x, p, fun e => free k r hr (e ▸ hs), hs, hp, hx⟩
  have notice : ∀ k y, lookup d k = some y →
      noticeStation { d with table := { d.table with leaving := none } } y = noticeStation d y := by
    intro k y hy
    cases hw : y.owner with
    | station o => rw [noticeStation_station hw, noticeStation_station hw]
    | internal =>
      obtain ⟨x, p, hx, -, hp, hux⟩ := other k y hy hw
      obtain ⟨-, z, hz, -⟩ := live x p hx hux
      rw [noticeStation_internal hw, noticeStation_internal hw, hp]
      have hz' : lookup { d with table := { d.table with leaving := none } } p = some z := hz
      simp only [Option.bind_some, planOwner, hz, hz']
  exact ⟨⟨{ b with
    told := fun o => (b.told o).imp fun k ⟨y, hy, hn⟩ => ⟨y, hy, (notice k y hy).trans hn⟩
    plan := fun k p hp => by
      split at hp
      · cases hp
      next hk => exact .inl (live k p hk hp).2
    rest := fun k p r hr hf => by
      obtain ⟨ho, hk⟩ := b.rest k p r hr hf
      refine ⟨ho, ?_⟩
      rw [if_neg fun e => ?_]
      · exact hk
      · rw [e, hu] at hk
        have hr : lookup d p = some r := hr
        rw [← Option.some.inj hk, gone] at hr
        cases hr
    inner := fun k r hr hi => by
      obtain ⟨x, p, hx, hs, hp, hux⟩ := other k r hr hi
      exact ⟨(b.inner k r hr hi).1, x, p, hs, hp, by rw [if_neg hx]; exact hux⟩ },
    fun fn hx => (s.bonded.values fn hx).congr (handedOn_refl d fn) fun _ => .rfl⟩, s.causes, rfl⟩

/-- A retired plan's INTERNAL record leaves with it, and its slot is free. -/
theorem Sound.dropInternal (s : Sound u l d) {h : Handle} {st : Station} {dr : Driver} (hl : l = some (h, st)) (hu : u dr = some h)
    (gone : lookup d h = none) {x : Slot} (hx : d.table.slots[internalSlot dr]? = some x) (some' : x.rcd.isSome = true)
    {how : Report} (hh : how ≠ .silent) :
    Sound u l (Machine.dropRecord ⟨internalSlot dr, x.gen⟩ (some st) .planEnded how d) ∧
      ∀ k r, lookup (Machine.dropRecord ⟨internalSlot dr, x.gen⟩ (some st) .planEnded how d) k = some r →
        k.slot ≠ internalSlot dr := by
  obtain ⟨r, hr⟩ := Option.isSome_iff_exists.mp some'
  have live : lookup d ⟨internalSlot dr, x.gen⟩ = some r :=
    lookup_of_mem_records s.bonded.bound.table (mem_records_iff.mpr (by rw [hx, ← hr]))
  have hi := s.bonded.bound.reserved _ r live (internalSlot_ge dr)
  obtain ⟨hf, dr', p, hs, hp, hpu⟩ := s.bonded.bound.inner _ r live hi
  rw [← internalSlot_injective hs, hu] at hpu
  cases hpu
  have notice : noticeStation d r = some st := by
    rw [noticeStation_internal hi, hp]
    simp [planOwner, gone, s.leaving, hl]
  refine ⟨notice ▸ s.dropRecord live .planEnded hh fun k hk => ?_, fun k y hy hk => ?_⟩
  · rcases s.bonded.bound.plan k _ hk with ⟨z, hz, hzf⟩ | ⟨o, ho⟩
    · rw [live] at hz
      cases hz
      rw [hf] at hzf
      cases hzf
    · rw [s.leaving, hl] at ho
      obtain ⟨e, -⟩ := Prod.mk.inj (Option.some.inj ho)
      rw [e, live] at gone
      cases gone
  · rw [lookup_dropRecord live] at hy
    split at hy
    · cases hy
    next hne => exact hne (handle_eq_of_slot hy live hk)

end

/-- The plan unit's work at the end of a plan, but for its own items (R186). -/
def unwound (dr : Driver) (st : Option Station) (how : Report) (d : Device) : Device :=
  let d := endRamp dr (if (d.plans.get dr).call = .calling then stopBunk dr d else d)
  match d.table.slots[internalSlot dr]? with
  | some s =>
    if s.rcd.isSome then
      let d := dropRecord ⟨internalSlot dr, s.gen⟩ st .planEnded (if how = .silent then .silent else .entered) d
      if how = .silent then d else recompute d
    else d
  | none => d

theorem endPlan_eq (dr : Driver) (st : Option Station) (how : Report) (d : Device) :
    endPlan dr st how d = setUnit dr (fun _ => PlanUnit.empty) (unwound dr st how d) := rfl

/-- What ramps, calls and accounts do leaves the bonds to any plan map. -/
theorem units_sound (u : Driver → Option Handle) (l : Option (Handle × Station)) : Units (Sound u l) where
  ramps _ x hx h := h.lamps x hx
  unit d dr f _ h := h.congr (e := setUnit dr f d) rfl rfl rfl (handedOn_refl d)
  account d dr f _ h := h.congr (e := setAccount dr f d) rfl rfl rfl (handedOn_refl d)
  warningFlag _ _ h := h.raiseFlag _

section

variable {u : Driver → Option Handle} {l : Option (Handle × Station)} {d : Device}

theorem units_table (t : Table) : Units fun d => d.table = t where
  ramps _ _ _ h := h
  unit _ _ _ _ h := h
  account _ _ _ _ h := h
  warningFlag _ _ h := h

theorem planMap_setUnit (dr : Driver) (f : PlanUnit → PlanUnit) (d : Device) (k : Driver) :
    planMap (setUnit dr f d) k = if k = dr then (f (d.plans.get dr)).plan else planMap d k := by
  split
  next hk => rw [hk]; simp only [planMap, setUnit, PerDriver_get_set]
  next hk => simp only [planMap, setUnit, PerDriver_get_set_ne _ _ hk]

theorem units_planMap (m : Driver → Option Handle) : Units fun d => planMap d = m where
  ramps _ _ _ h := h
  unit d dr f hf h := by
    funext k
    rw [planMap_setUnit]
    split
    next hk => rw [hf, ← h, hk]; rfl
    · exact congrFun h k
  account _ _ _ _ h := h
  warningFlag _ _ h := h

theorem planMap_congr {e : Device} (h : e.plans = d.plans) : planMap e = planMap d := by
  unfold planMap
  rw [h]

theorem planMap_unwound (dr : Driver) (st : Option Station) (how : Report) (d : Device) :
    planMap (unwound dr st how d) = planMap d := by
  have u1 : planMap (endRamp dr (if (d.plans.get dr).call = .calling then stopBunk dr d else d)) = planMap d :=
    (units_planMap _).endRamp dr (kept_after (fun _ => (units_planMap (planMap d)).stopBunk dr) rfl)
  unfold unwound
  dsimp only
  split
  · refine kept_ite (P := fun e => planMap e = planMap d) (kept_ite (P := fun e => planMap e = planMap d) ?_ ?_) u1
    · exact (planMap_congr (same_plans (same_dropRecord _ _ _ _ _))).trans u1
    · exact (planMap_congr (same_plans (same_recompute _))).trans
        ((planMap_congr (same_plans (same_dropRecord _ _ _ _ _))).trans u1)
  · exact u1

/-- The plan unit's work at the end of a plan that is gone from the table. -/
theorem Sound.unwound (s : Sound u l d) {h : Handle} {st : Station} {dr : Driver} (hl : l = some (h, st)) (hu : u dr = some h)
    (gone : lookup d h = none) {how : Report} (hh : how ≠ .silent) :
    Sound u l (unwound dr (some st) how d) ∧ lookup (Machine.unwound dr (some st) how d) h = none ∧
      ∀ k r, lookup (Machine.unwound dr (some st) how d) k = some r → k.slot ≠ internalSlot dr := by
  have s1 : Sound u l (endRamp dr (if (d.plans.get dr).call = .calling then stopBunk dr d else d)) :=
    (units_sound u l).endRamp dr (kept_after (fun _ => (units_sound u l).stopBunk dr) s)
  have t1 : (endRamp dr (if (d.plans.get dr).call = .calling then stopBunk dr d else d)).table = d.table :=
    (units_table _).endRamp dr (kept_after (fun _ => (units_table d.table).stopBunk dr) rfl)
  unfold Machine.unwound
  dsimp only
  generalize endRamp dr (if (d.plans.get dr).call = .calling then stopBunk dr d else d) = e at s1 t1 ⊢
  have gone : lookup e h = none := (lookup_congr (congrArg Table.slots t1) h).trans gone
  split
  next x hx =>
    split
    next hs =>
      obtain ⟨s2, free⟩ := s1.dropInternal hl hu gone hx hs (how := .entered) nofun
      obtain ⟨r, hr⟩ := Option.isSome_iff_exists.mp hs
      have live : lookup e ⟨internalSlot dr, x.gen⟩ = some r :=
        lookup_of_mem_records s1.bonded.bound.table (mem_records_iff.mpr (by rw [hx, ← hr]))
      refine ⟨s2.recompute, lookup_none_recompute ?_, fun k y hy hk => ?_⟩
      · rw [lookup_dropRecord live]
        split
        · rfl
        · exact gone
      · cases hn : lookup (Machine.dropRecord ⟨internalSlot dr, x.gen⟩ (some st) .planEnded .entered e) k with
        | none => rw [lookup_none_recompute hn] at hy; cases hy
        | some z => exact free k z hn hk
    next hs =>
      refine ⟨s1, gone, fun k y hy hk => hs ?_⟩
      have := slot_of_lookup hy
      rw [hk, hx] at this
      cases this
      rfl
  next hx =>
    refine ⟨s1, gone, fun k y hy hk => ?_⟩
    have := slot_of_lookup hy
    rw [hk, hx] at this
    cases this

/-- A plan's retirement, with all that follows from it. -/
theorem Bond.retireRecord {h : Handle} {r : Record} (hr : lookup d h = some r) (w : RetireReason) {how : Report}
    (hh : how ≠ .silent) (b : Bond d) : Bond (retireRecord h w how d) := by
  cases hd : restDriver r.fn with
  | none =>
    refine Bond.of_sound (Sound.retireRecord b hr hd w hh) ?_
    unfold Machine.retireRecord
    rw [hr]
    dsimp only
    rw [hd]
    exact (same_plans (same_recompute _)).trans (same_plans (same_dropRecord _ _ _ _ _))
  | some dr =>
    have hf : r.fn = .rest dr := by
      unfold restDriver at hd
      split at hd
      next k hk => cases hd; exact hk
      · cases hd
    obtain ⟨ho, hu⟩ := b.bonded.bound.rest dr h r hr hf
    obtain ⟨st, hst⟩ : ∃ st, r.owner = .station st := by
      cases hw : r.owner with
      | station st => exact ⟨st, rfl⟩
      | internal => exact absurd hw ho
    have only : ∀ k, planMap d k = some h → k = dr := fun k hk => by
      obtain ⟨x, hx, hxf⟩ := plan_live b hk
      rw [hr] at hx
      cases hx
      rw [hf] at hxf
      cases hxf
      rfl
    unfold Machine.retireRecord
    rw [hr]
    dsimp only
    rw [hd]
    dsimp only
    rw [noticeStation_station hst]
    have s1 := Sound.leave b h st
    have hr1 : lookup { d with table := { d.table with leaving := some (h, st) } } h = some r := hr
    have s2 := s1.dropRecord hr1 w hh fun k hk => ⟨st, rfl, hst⟩
    rw [noticeStation_station hst] at s2
    have gone := lookup_none_recompute (d := Machine.dropRecord h (some st) w how
      { d with table := { d.table with leaving := some (h, st) } }) (k := h) (by rw [lookup_dropRecord hr1, if_pos rfl])
    obtain ⟨s3, gone3, free3⟩ := s2.recompute.unwound rfl hu gone hh
    have s4 := s3.left rfl hu only gone3 free3
    unfold departing
    dsimp only [Option.map_some]
    rw [endPlan_eq]
    generalize hg : { d with table := { d.table with leaving := some (h, st) } } = d1 at s4 ⊢
    have map : planMap (Machine.unwound dr (some st) how (Machine.recompute (Machine.dropRecord h (some st) w how d1))) =
        planMap d := by
      rw [planMap_unwound, planMap_congr (same_plans (same_recompute _)), planMap_congr (same_plans (same_dropRecord _ _ _ _ _)), ← hg]
      rfl
    generalize Machine.unwound dr (some st) how (Machine.recompute (Machine.dropRecord h (some st) w how d1)) = e at s4 map ⊢
    have final : planMap (setUnit dr (fun _ => PlanUnit.empty) e) = fun k => if k = dr then none else planMap d k := by
      funext k
      rw [planMap_setUnit, map]
      rfl
    refine Bond.of_sound (d := setUnit dr (fun _ => PlanUnit.empty) e) ?_ rfl
    rw [final]
    exact s4.congr rfl rfl rfl (handedOn_refl _)

end

end Sys2Proof.Machine
end

section
/-! PROOF. What holds through every move of a step when it holds through whole moves, through what none of its parts rest
on, and through the acts of a request (`Steps`). -/

namespace Sys2Proof.Machine
open Sys2Proof

/-- Neither table nor modes, stations' sets, drivers' plans nor values handed change. -/
structure Loose (d e : Device) : Prop where
  table : e.table = d.table
  mode : e.budget.mode = d.budget.mode
  modes : e.budget.modes = d.budget.modes
  stations : e.link.stations = d.link.stations
  plans : ∀ dr, (e.plans.get dr).plan = (d.plans.get dr).plan
  handed : ∀ fn, HandedOn d e fn

/-- `P` holds through whole moves, through changes that table, modes, sets, plans and values do not see, through a station's
change that leaves no new entry in its set, and through the start of a record, a channel's fault and the acts of a request. -/
structure Steps (P : Device → Prop) : Prop extends Whole P where
  loose : ∀ d e, Loose d e → P d → P e
  station : ∀ d st f, (StationOk (d.link.stations.get st) → StationOk (f (d.link.stations.get st))) →
    (f (d.link.stations.get st)).entries.Sublist (d.link.stations.get st).entries → P d → P (updateStation st f d)
  start : ∀ d h r, lookup d h = some r → r.state ≠ .granted → P d → P (beginRecord h d)
  fault : ∀ d c, P d → P (setCauseAndRecompute (.lamp c) (causeChannelFault true)
    (changeLamp c (fun l => { l with out := 0, fault := true, trip := 0 }) d))
  acts : ∀ st d e, Acts st d e → P d → P e

/-! ## What leaves the values handed -/

theorem countFault_target (v : Bool) (f : Fridge) : (countFault v f).target = f.target := by
  unfold countFault
  split
  · rfl
  · split <;> rfl

theorem formCall_target (f : Fridge) : (formCall f).target = f.target := by
  rfl

theorem senseLamp_effective (t : Bool) (l : Lamp) : (senseLamp t l).effective = l.effective := by
  unfold senseLamp
  split <;> rfl

theorem loose_countSecond (d : Device) : Loose d (countSecond d) := by
  refine ⟨rfl, rfl, rfl, rfl, fun dr => ?_, handedOn_refl d⟩
  cases dr
  all_goals
    show PlanUnit.plan (match livePlan d _ with
      | some (_, _, p) => _
      | none => _) = _
    split
    · split <;> rfl
    · rfl

theorem loose_advanceClock (d : Device) : Loose d (advanceClock d) := by
  unfold advanceClock
  dsimp only
  split
  · obtain ⟨ht, hm, hs, hl, hp, hv⟩ := loose_countSecond d
    exact ⟨ht, hm, hs, hl, hp, hv⟩
  · exact ⟨rfl, rfl, rfl, rfl, fun _ => rfl, handedOn_refl d⟩

/-! ## What shrinks a set -/

theorem goodReply_entries (p : StationLink) : (goodReply p).entries = p.entries := by
  unfold goodReply
  split <;> rfl

theorem missPoll_entries (c : Bool) (p : StationLink) : (missPoll c p).entries.Sublist p.entries := by
  unfold missPoll
  dsimp only
  split
  · split
    · exact List.nil_sublist _
    · exact .refl _
  · exact .refl _

theorem chooseNotice_entries (d : Device) (st : Station) (p : StationLink) :
    (chooseNotice d st p).2.entries.Sublist p.entries := by
  unfold chooseNotice
  dsimp only
  split
  · exact .refl _
  split
  · exact .refl _
  split
  · exact .refl _
  split
  · exact .refl _
  split
  · exact .refl _
  split
  · exact .refl _
  split
  · exact .refl _
  split
  · exact .refl _
  next he => rw [he]; exact List.sublist_cons_self _ _
  next he => rw [he]; exact List.sublist_cons_self _ _

theorem reviseEnabled_entries (b : Bool) (p : StationLink) : (reviseEnabled b p).entries.Sublist p.entries := by
  unfold reviseEnabled
  split
  · exact .refl _
  · exact List.nil_sublist _
  · exact .refl _
  · exact .refl _

namespace Steps

variable {P : Device → Prop} (k : Steps P) {d e : Device}
include k

theorem store (x : Store) (h : P d) : P { d with store := x } := k.loose d _ ⟨rfl, rfl, rfl, rfl, fun _ => rfl, handedOn_refl d⟩ h

theorem bank (x : Bank) (h : P d) : P { d with bank := x } := k.loose d _ ⟨rfl, rfl, rfl, rfl, fun _ => rfl, handedOn_refl d⟩ h

theorem vehicle (x : Vehicle) (h : P d) : P { d with vehicle := x } := k.loose d _ ⟨rfl, rfl, rfl, rfl, fun _ => rfl, handedOn_refl d⟩ h

theorem leads (x : Leads) (h : P d) : P { d with leads := x } := k.loose d _ ⟨rfl, rfl, rfl, rfl, fun _ => rfl, handedOn_refl d⟩ h

theorem ofAccount (dr : Driver) (f : Account → Account) (h : P d) : P (setAccount dr f d) :=
  k.loose d _ ⟨rfl, rfl, rfl, rfl, fun _ => rfl, handedOn_refl d⟩ h

/-- The port's poll apart from the stations' sets. -/
theorem link (x : Link) (hx : x.stations = d.link.stations) (h : P d) : P { d with link := x } :=
  k.loose d _ ⟨rfl, rfl, rfl, hx, fun _ => rfl, handedOn_refl d⟩ h

theorem ofSched (x : Sched) (hx : x.outletOn = d.sched.outletOn) (h : P d) : P { d with sched := x } :=
  k.loose d _ ⟨rfl, rfl, rfl, rfl, fun _ => rfl, fun fn => by
    cases fn with
    | outlet => exact hx
    | rest dr => trivial
    | _ => rfl⟩ h

theorem ofHeater (x : Heater) (hx : x.demand = d.heater.demand) (h : P d) : P { d with heater := x } :=
  k.loose d _ ⟨rfl, rfl, rfl, rfl, fun _ => rfl, fun fn => by
    cases fn with
    | heater => exact hx
    | rest dr => trivial
    | _ => rfl⟩ h

theorem lamps (x : PerChannel Lamp) (hx : ∀ c, (x.get c).effective = (d.lamps.get c).effective) (h : P d) :
    P { d with lamps := x } := k.ramps d x hx h

theorem askWrite (c : Change) (n : Cont) (h : P d) : P (askWrite c n d) := by
  rw [askWrite_eq]
  exact k.store _ h

theorem resting : Resting P where
  toWhole := k.toWhole
  slots _ x ho _ _ _ h := k.ofSched x ho h
  asked d c n _ _ h := k.askWrite c n (k.ofHeater { d.heater with waiting := true } rfl h)
  answer _ _ _ _ _ h := k.link _ rfl h
  hold _ _ _ _ h := k.link _ rfl h
  holdClear _ _ h := k.ofHeater _ rfl h
  accepted _ h := k.store _ h
  unwait _ h := k.ofSched _ rfl h
  swap d a b h := by
    unfold swapTables
    refine k.askWrite _ _ ?_
    exact k.loose d _ ⟨rfl, rfl, rfl, rfl, fun _ => rfl, handedOn_refl d⟩ h
  owe _ _ h := k.ofSched _ rfl h

/-! ## Quiet events -/

theorem followCall (h : P d) : P (followCall d) := by
  unfold Machine.followCall
  dsimp only
  split
  · exact kept_ite (kept_after (fun d h => k.fridge d _ rfl h) (k.fridge d _ rfl h)) h
  · exact kept_ite h (k.fridge d _ rfl h)
  · exact kept_after (fun d h => k.fridge d _ rfl h) h
  · exact h

theorem guardEnd (h : P d) : P (guardEnd d) := by
  unfold Machine.guardEnd
  exact kept_ite (kept_ite (k.fridge d _ rfl h)
    (kept_ite (kept_after (fun d h => k.fridge d _ rfl h) (k.fridge d _ rfl h)) (k.fridge d _ rfl h))) h

theorem fridgeSample (raw : Int) (h : P d) : P (fridgeSample raw d) := by
  have h1 : P (setFridge (fun f => setTurn false (countFault (validRaw raw) { f with reading := some (clampInt (-80) 250 raw) }))
      { d with leads := { d.leads with fridge := raw } }) := k.fridge _ _ (countFault_target _ _) (k.leads _ h)
  exact kept_ite h1 (kept_ite (k.fridge _ _ rfl h1) (k.followCall (k.fridge _ _ (formCall_target _) h1)))

theorem engineBecomes (run : Bool) (h : P d) : P (engineBecomes run d) :=
  kept_ite h (k.recompute _ (k.bank _ (k.vehicle _ h)))

theorem quiet (q : Quiet d e) (h : P d) : P e := by
  cases q with
  | start x r live due =>
    refine k.start d x r live (fun hg => ?_) h
    unfold startDue at due
    rw [hg] at due
    cases due
  | retire x r live w => exact k.retire d x r w .entered live nofun h
  | sample v i => exact k.loose d _ ⟨rfl, rfl, rfl, rfl, fun _ => rfl, handedOn_refl d⟩ h
  | integrate => exact k.bank _ h
  | anchor => exact kept_ite (k.bank _ h) h
  | voltage =>
    unfold voltageChange
    split
    · exact k.sendVoltage _ (k.formPermissions (k.recompute _ (k.bank _ h)))
    · exact h
  | marks => exact kept_ite (k.bank _ h) h
  | fridge raw => exact k.fridgeSample raw h
  | faultClear => exact kept_ite (k.followCall (k.fridge d _ (formCall_target _) h)) h
  | blind => exact kept_ite (k.followCall (k.fridge d _ (formCall_target _) h)) h
  | guard => exact k.guardEnd h
  | fade => exact k.lamps _ (effective_imap (f := fun _ => fadeLamp d.settings.fadeRate) fun _ _ => rfl) h
  | sense t => exact k.leads _ (k.lamps _ (effective_imap fun c => senseLamp_effective (t.get c)) h)
  | overCurrent c => exact kept_ite (k.fault d c h) h
  | engineFrame id data => exact kept_ite (k.engineBecomes _ (k.vehicle _ h)) h
  | engineLost => exact kept_ite (k.engineBecomes _ h) h
  | activityFrame id data => exact kept_ite (k.report _ _ (k.report _ _ (k.vehicle _ h))) h
  | activityLost => exact kept_ite (k.report _ _ (k.report _ _ (k.vehicle _ h))) h
  | status => exact k.vehicle _ h
  | sent => exact k.vehicle _ h
  | failed => exact k.vehicle _ h
  | rejoin => exact k.vehicle _ h
  | accrue => exact k.accrueBoth h
  | settle dr => exact k.settle dr h
  | incomplete dr => exact k.ofAccount dr _ h
  | dashRepeat dr => exact k.ofAccount dr _ h
  | dashEnd dr => exact k.ofAccount dr _ h
  | bunkEnd dr => exact k.ofAccount dr _ h
  | waking dr _ => exact k.enterWaking dr h
  | due dr _ => exact k.enterDue dr h
  | ramp dr =>
    unfold rampTick
    split
    · exact h
    · split
      · exact k.handRamp _ _ _ h
      · exact h
    · exact h
  | call dr => exact k.callOnset dr h
  | unanswered dr => exact k.retirePlan dr _ h
  | begun => exact k.loose d _ ⟨rfl, rfl, rfl, rfl, fun _ => rfl, handedOn_refl d⟩ h
  | clock => exact k.loose d _ (loose_advanceClock d) h

/-! ## Polls -/

theorem pollStation (st : Station) (h : P d) : P (pollStation st d) := by
  refine k.link (d := updateStation st (fun _ => (chooseNotice d st (stationLink d st)).2) d) _ rfl ?_
  exact k.station d st _ (stationOk_chooseNotice st) (chooseNotice_entries d st _) h

theorem goodReply (st : Station) (h : P d) : P (updateStation st goodReply d) :=
  k.station d st _ stationOk_goodReply (by rw [goodReply_entries]) h

theorem sendPoll (h : P d) : P (sendPoll d) :=
  sendPoll_kept (fun st _ h => k.pollStation st h) (fun st _ d h => k.station d st _ (fun ok => ok) (.refl _) h)
    (fun _ h => k.link _ rfl h) (fun _ h => k.link _ rfl h) h

theorem takeIdle (h : P d) : P (takeIdle d) := by
  unfold Machine.takeIdle
  split
  next st c _ => exact k.link _ rfl (k.goodReply st h)
  · exact h

theorem takeMiss (h : P d) : P (takeMiss d) := by
  unfold Machine.takeMiss
  split
  next st c _ => exact k.link _ rfl (k.station d st _ (stationOk_missPoll c) (missPoll_entries c _) h)
  · exact h

/-! ## A completed write -/

theorem changed (c : Change) (old : Settings) (h : P d) : P (changed c old d) :=
  k.resting.toHeld.changed _ _ (fun _ => k.resting.unwait _ h) (fun _ _ => kept_ite h (k.recompute _ (k.bank _ h)))
    (fun h => k.bank _ h) (fun h st => k.station _ st _ (stationOk_reviseEnabled _) (reviseEnabled_entries _ _) h)
    fun _ _ => h

theorem resumed (i : ImageId) (j : Job) (rest : List Job) (h : P d) : P (resumed i j rest d) := by
  have h0 : P (written i j rest d) := k.loose d _ ⟨rfl, rfl, rfl, rfl, fun _ => rfl, handedOn_refl d⟩ h
  have h1 := k.changed j.change d.settings h0
  exact k.resting.toHeld.releaseAnswer (k.resting.goOn _ _ (fun _ => k.ofHeater _ rfl h1) fun _ => h1)

theorem completeWrite (h : P d) : P (completeWrite d) := by
  refine completeWrite_kept h fun i j rest _ _ => ?_
  have h2 := k.resumed i j rest h
  rw [beginWrite_eq]
  exact k.store _ (kept_ite (takeLate_kept (fun d a b hd => k.resting.slotBoundary a b (k.ofSched _ rfl hd) hd)
    (k.ofSched _ rfl h2)) h2)

/-! ## Every move -/

theorem move (m : Move d e) (h : P d) : P e := by
  cases m with
  | same => exact h
  | reset => exact k.loose d _ ⟨rfl, rfl, rfl, rfl, fun _ => rfl, handedOn_refl d⟩ h
  | quiet e _ q => exact k.quiet q h
  | poll => exact k.sendPoll h
  | pauseEnd => exact kept_ite (k.link _ rfl h) h
  | idle => exact k.takeIdle h
  | miss => exact k.takeMiss h
  | serve st c e _ _ r =>
    refine k.resting.toHeld.replies (fun e a => k.acts st _ e a ?_) (fun c ty code spec _ => k.askWrite _ _ ?_)
      (fun w v ty code spec => k.askWrite _ _ (k.ofSched _ rfl ?_)) r
    all_goals exact k.link _ rfl (k.goodReply st h)
  | reading a b _ => exact k.resting.toHeld.heaterTake _ (k.leads _ h)
  | timer t _ => exact k.resting.toHeld.heaterTake _ h
  | slot a b _ => exact k.resting.slotBoundary a b (k.ofSched _ rfl h) h
  | complete _ => exact k.completeWrite h

/-- What holds as the blocks start holds once power-on has run. -/
theorem powerUp (okA okB : Bool) (d : Device) (start : ∀ c x, P (startDevice c x d.leads)) : P (powerUp okA okB d) :=
  powerUp_kept k.resting.toSlots okA okB d (fun _ _ _ h => k.askWrite _ _ h) fun c x _ _ =>
    k.loose (startDevice c x d.leads) _ ⟨rfl, rfl, rfl, rfl, fun _ => rfl, handedOn_refl _⟩ (start c x)

end Steps

end Sys2Proof.Machine
end

section
/-! PROOF. Every bond through whole moves, sets that shrink and the start of a record. -/

namespace Sys2Proof.Machine
open Sys2Proof

/-! ## Through whole moves -/

theorem whole_bond : Whole Bond where
  cap d h := (smooth_sound _ none).cap d h
  fridge d x hx h := (smooth_sound _ none).fridge d x hx h
  heater d x hd hw hh h := (smooth_sound _ none).heater d x hd hw hh h
  sched d p c l h := (smooth_sound _ none).sched d p c l h
  heaterFlag d h := (smooth_sound _ none).heaterFlag d h
  budgetFlag d h := (smooth_sound _ none).budgetFlag d h
  toUnits := units_bond
  recompute d h := .of_sound (Sound.recompute h) (same_plans (same_recompute d))
  ladder d h := .of_sound (Sound.ladder h)
    (same_plans (bs := budgetBlocks) (same_withBudgetNotice _ d
      (same_trans (same_mono (same_rebuildLadder d)) (same_recomputeCore (rebuildLadder d)))))
  frameWork d h := .of_sound (Sound.frameWork h) (same_plans (same_frameWork d))
  cause d f hf h := .of_sound (Sound.setCause h .heater hf) (same_plans (same_setCause .heater f d))
  failure d k h := Sound.setFailure h k
  onPlan d h f b := .of_sound (Sound.onPlan b h f) (same_plans (same_revise h _ d))
  preheat d dr h t hu := Bond.preheat t hu
  retire d h r w how hr hh := Bond.retireRecord hr w hh

section

variable {d e : Device}

/-- What neither table nor modes, sets, plans nor values rest on has changed. -/
theorem Bond.loose (h : Bond d) (l : Loose d e) : Bond e := by
  have plans : planMap e = planMap d := funext l.plans
  rw [Bond, plans]
  exact ⟨h.bonded.congr (by rw [l.table]) (by rw [l.table]) (by rw [l.table]) (by rw [l.table]) l.stations l.handed,
    causesOk_congr l.mode l.modes (by rw [l.table]) h.causes, by rw [l.table]; exact h.leaving⟩

/-! ## Sets that shrink -/

/-- A station's link changes, and its set with it at most by entries that leave. -/
theorem Bond.updateStation (h : Bond d) (st : Station) {f : StationLink → StationLink}
    (ok : StationOk (d.link.stations.get st) → StationOk (f (d.link.stations.get st)))
    (sub : (f (d.link.stations.get st)).entries.Sublist (d.link.stations.get st).entries) : Bond (updateStation st f d) := by
  have b := h.bonded.bound
  have told : ∀ x, SetNames (Marks d x) ((Machine.updateStation st f d).link.stations.get x).entries :=
    setNames_updateStation b.told ((b.told st).sublist sub)
  have stations : StationsOk (Machine.updateStation st f d) := fun x => by
    rw [updateStation_link_stations]
    by_cases hx : x = st
    · rw [hx, PerStation_get_set]
      exact ok (b.stations st)
    · rw [PerStation_get_set_ne _ _ hx]
      exact b.stations x
  exact ⟨⟨b.of_looksLike (looksLike_of_slots rfl) b.table stations rfl told b.apart b.counted,
    fun fn hx => (h.bonded.values fn hx).congr (handedOn_refl d fn) fun _ => .rfl⟩, h.causes, h.leaving⟩

/-! ## The start of a record -/

/-- The plan unit takes a plan (R178). -/
theorem Sound.takePlan {v : Driver → Option Handle} (s : Sound v none d) {dr : Driver} {h : Handle}
    (hv : ∀ k, v k = if k = dr then some h else planMap d k) : Bond (takePlan dr h d) := by
  have taken : Bond (setUnit dr (fun _ => { PlanUnit.empty with plan := some h }) d) := by
    have e : planMap (setUnit dr (fun _ => { PlanUnit.empty with plan := some h }) d) = v := by
      funext k
      rw [planMap_setUnit, hv]
    rw [Bond, e]
    exact s.congr rfl rfl rfl (handedOn_refl d)
  unfold Machine.takePlan
  exact whole_bond.recompute _ (kept_ite (whole_bond.bindPlan dr _ taken) taken)

/-- A record that is not GRANTED yet starts; a plan becomes its driver's. -/
theorem Sound.beginRecord {v : Driver → Option Handle} (s : Sound v none d) {h : Handle} {r : Record} (hr : lookup d h = some r)
    (hn : r.state ≠ .granted) (hv : ∀ k, v k = if r.fn = .rest k then some h else planMap d k) : Bond (beginRecord h d) := by
  have started : Sound v none (Machine.startRecord h d) := Sound.startRecord s h fun x hx => by rw [hr] at hx; cases hx; exact hn
  have plans : planMap (Machine.startRecord h d) = planMap d := planMap_congr (same_plans (same_startRecord h d))
  unfold Machine.beginRecord
  rw [hr]
  dsimp only
  split
  next dr hf => exact started.takePlan fun k => by rw [hv, plans, hf]; exact if_congr (by rw [Fn.rest.injEq, eq_comm]) rfl rfl
  next c hf =>
    have : v = planMap d := funext fun k => by rw [hv, hf, if_neg nofun]
    exact whole_bond.recompute _ (.of_sound (this ▸ started) (same_plans (same_startRecord h d)))
  next hf _ =>
    have : v = planMap d := funext fun k => by rw [hv, if_neg (hf k)]
    exact .of_sound (this ▸ started) (same_plans (same_startRecord h d))

/-- A record that is live and not GRANTED yet starts. -/
theorem Bond.beginRecord (b : Bond d) {h : Handle} {r : Record} (hr : lookup d h = some r) (hn : r.state ≠ .granted) :
    Bond (beginRecord h d) :=
  Sound.beginRecord b hr hn fun k => by
    split
    next hf => exact (b.bonded.bound.rest k h r hr hf).2
    · rfl

/-! ## The fault of a channel (R155, R156) -/

theorem bond_fault (b : Bond d) (c : Channel) {f : Lamp → Lamp} (hf : ∀ l, (f l).effective = l.effective) (x : Bool) :
    Bond (setCauseAndRecompute (.lamp c) (causeChannelFault x) (changeLamp c f d)) := by
  have lit : Sound (planMap d) none (changeLamp c f d) := Sound.lamps b _ fun k => by
    by_cases hk : k = c
    · rw [hk, PerChannel_get_set]
      exact hf _
    · rw [PerChannel_get_set_ne _ _ hk]
  exact .of_sound (lit.setCauseAndRecompute (.lamp c) fun _ => ⟨rfl, rfl⟩)
    ((same_plans (same_setCauseAndRecompute _ _ _)).trans rfl)

theorem Bond.clearFault (b : Bond d) (fn : Fn) : Bond (clearFault fn d) := by
  unfold Machine.clearFault
  split
  next c =>
    split
    · exact bond_fault b c (f := fun l => { l with fault := false, trip := 0 }) (fun _ => rfl) false
    · exact b
  · exact b

/-- Another record is kept quiet. -/
theorem Bond.quiet (b : Bond d) (q : Option Handle) : Bond { d with table := { d.table with quiet := q } } :=
  ⟨b.bonded.congr rfl rfl rfl rfl rfl (handedOn_refl d), b.causes, b.leaving⟩

end

end Sys2Proof.Machine
end

section
/-! PROOF. Every bond through the acts of a request: a record created, a record amended, and a RESTART. -/

namespace Sys2Proof.Machine
open Sys2Proof

variable {d e : Device}

/-! ## A record created (R8, R9) -/

theorem createParams_lamp_absent {l : Byte} (h : l = byteAbsent) : createParams .lamp (.level l) = none := if_pos h

theorem createParams_lamp {l : Byte} (h : l ≠ byteAbsent) :
    createParams .lamp (.level l) = some (.lamp (applyNat 0 100 l.toNat).value, [(applyNat 0 100 l.toNat).clamped]) :=
  if_neg h

theorem createParams_plan_absent {f : PlanFields} (h : f.len = minutesAbsent) : createParams .restPlan (.plan f) = none :=
  if_pos h

theorem createParams_plan {f : PlanFields} (h : f.len ≠ minutesAbsent) :
    ∃ p flags, createParams .restPlan (.plan f) = some (.plan p, flags) := ⟨_, _, if_neg h⟩

/-- The parameters that a creation forms are those of its kind. -/
theorem paramsKind_createParams {k : Kind} {f : KindFields} {p : Params} {flags : List Bool}
    (h : createParams k f = some (p, flags)) : paramsKind p = k := by
  have formed : ∀ {q : Params} {x : List Bool}, createParams k f = some (q, x) → paramsKind q = k → paramsKind p = k :=
    fun hq hk => by
      have e := Option.some.inj (hq.symm.trans h)
      rw [← (Prod.mk.inj e).1]
      exact hk
  cases f with
  | temp w =>
    cases k with
    | heatHold =>
      obtain ⟨t, -, e⟩ := Option.map_eq_some_iff.mp h
      rw [← (Prod.mk.inj e).1]; rfl
    | coolHold =>
      obtain ⟨t, -, e⟩ := Option.map_eq_some_iff.mp h
      rw [← (Prod.mk.inj e).1]; rfl
    | _ => exact nomatch h
  | level l =>
    cases k with
    | lamp =>
      by_cases hl : l = byteAbsent
      · exact nomatch (createParams_lamp_absent hl).symm.trans h
      · exact formed (createParams_lamp hl) rfl
    | _ => exact nomatch h
  | nothing =>
    cases k with
    | auxOn => exact formed (q := .aux) rfl rfl
    | _ => exact nomatch h
  | plan x =>
    cases k with
    | restPlan =>
      by_cases hl : x.len = minutesAbsent
      · exact nomatch (createParams_plan_absent hl).symm.trans h
      · obtain ⟨q, fl, e⟩ := createParams_plan hl
        exact formed e rfl
    | _ => exact nomatch h

/-- A plan starts at once: it has no start delay (R8). -/
theorem newRecord_start_of_plan {b : CreateBody} {dr : Driver} (fits : timesFit (fnKind (.rest dr)) b = true) (e : Device)
    (st : Station) (cls : Class) (p : Params) (flags : List Bool) (n : Nat) :
    (newRecord e st (.rest dr) b cls p flags n).1.start = none := by
  have delay : b.delay = minutesAbsent := by
    unfold timesFit fnKind at fits
    simp only [bne_self_eq_false, Bool.false_or, Bool.and_eq_true, beq_iff_eq] at fits
    exact fits.1
  unfold newRecord minutesOfWord
  dsimp only
  rw [if_pos delay]
  rfl

/-- Where a function that has one plan at most has room, its driver has no plan. -/
theorem planMap_eq_none_of_room (b : Bond d) {dr : Driver}
    (room : (fnStationRecords d (.rest dr)).length < fnLimit (.rest dr)) : planMap d dr = none := by
  cases hp : planMap d dr with
  | none => rfl
  | some k =>
    obtain ⟨r, hr, hf⟩ := plan_live b hp
    have m : (k, r) ∈ fnStationRecords d (.rest dr) :=
      List.mem_filter.mpr ⟨mem_records_of_lookup hr, decide_eq_true ⟨hf, (b.bonded.bound.rest dr k r hr hf).1⟩⟩
    have := List.length_pos_of_mem m
    have one : fnLimit (.rest dr) = 1 := rfl
    omega

theorem Bond.created (b : Bond d) {st : Station} {fn : Fn} {h : Handle} {body : CreateBody} {cls : Class} {params : Params}
    {flags : List Bool} (free : freeStationSlot d = some h) (room : (fnStationRecords d fn).length < fnLimit fn)
    (given : createParams (fnKind fn) body.fields = some (params, flags)) (fits : timesFit (fnKind fn) body = true) :
    Bond (created st fn h body cls params flags d) := by
  obtain ⟨hs, hlow⟩ := slot_of_freeStationSlot free
  have cleared : Bond (Machine.clearFault fn d) := b.clearFault fn
  have map : planMap (takeSequence (Machine.clearFault fn d)) = planMap d := by
    refine (planMap_congr (same_plans (same_takeSequence _))).trans (planMap_congr ?_)
    unfold Machine.clearFault
    split
    · split
      · exact (same_plans (same_setCauseAndRecompute _ _ _)).trans rfl
      · rfl
    · rfl
  have slot : (takeSequence (Machine.clearFault fn d)).table.slots[h.slot]? = some ⟨h.gen, none⟩ :=
    free_of_occupancy (by simp) hs
  have fresh : ∀ k y, lookup (takeSequence (Machine.clearFault fn d)) k = some y →
      y.seq ≠ (takeSequence (Machine.clearFault fn d)).table.counter := fun k y hy =>
    Nat.ne_of_lt (cleared.bonded.bound.fresh hy)
  have taken : Sound (planMap d) none (takeSequence (Machine.clearFault fn d)) := by
    rw [← map, planMap_congr (same_plans (same_takeSequence (Machine.clearFault fn d)))]
    exact Sound.takeSequence cleared
  unfold Machine.created
  dsimp only
  generalize takeSequence (Machine.clearFault fn d) = e at map slot fresh taken ⊢
  have start : ∀ dr, fn = .rest dr → (newRecord e st fn body cls params flags e.table.counter).1.start = none := by
    rintro dr rfl
    exact newRecord_start_of_plan fits e st cls params flags _
  have made := Sound.insert (d := { e with table := { e.table with quiet := some h } }) (u := planMap d)
    (v := fun k => if fn = .rest k then some h else planMap d k) (h := h)
    (r := (newRecord e st fn body cls params flags e.table.counter).1)
    ⟨taken.bonded.congr rfl rfl rfl rfl rfl (handedOn_refl e), taken.causes, taken.leaving⟩ slot
    (fun dr k hk => by
      split
      next hf =>
        subst hf
        rw [planMap_eq_none_of_room b room] at hk
        cases hk
      · exact hk)
    (fun dr k hk => by
      split at hk
      next hf => exact .inr ⟨(Option.some.inj hk).symm, hf⟩
      · exact .inl hk)
    ⟨rfl, paramsKind_createParams given⟩ (fun dr hf => ⟨nofun, if_pos hf⟩) (fun h46 => absurd hlow (Nat.not_lt.mpr h46)) nofun
    fresh (Nat.le_refl _) nofun
  have live : lookup (putRecord h (newRecord e st fn body cls params flags e.table.counter).1
      { e with table := { e.table with quiet := some h } }) h =
      some (newRecord e st fn body cls params flags e.table.counter).1 := by
    rw [lookup_insert (d := { e with table := { e.table with quiet := some h } }) taken.bonded.bound.table slot, if_pos rfl]
  refine Bond.quiet ?_ none
  split
  · exact made.beginRecord live nofun fun k => by
      rw [← map]
      rfl
  next hn =>
    have notPlan : ∀ k, fn ≠ .rest k := fun k hf => hn (by rw [start k hf]; rfl)
    refine Bond.of_sound (d := e) ?_ rfl
    have : (fun k => if fn = .rest k then some h else planMap d k) = planMap e := by
      funext k
      rw [if_neg (notPlan k), map]
    rw [← this]
    exact made

/-! ## A record amended (R19) -/

theorem paramsKind_amendParams (p : Params) (f : KindFields) : paramsKind (amendParams p f).1 = paramsKind p := by
  unfold amendParams
  split
  · split <;> rfl
  · split <;> rfl
  · split <;> rfl
  · rfl
  · rfl

/-- A record that is neither GRANTED nor SUSPENDED stays as it stands through a recomputation. -/
theorem mapRecord_of_state {s : CauseSet} {r : Record} (hg : r.state ≠ .granted) (hs : r.state ≠ .suspended) :
    mapRecord s r = r := by
  unfold mapRecord
  split
  next h _ => exact absurd h hg
  next h _ => exact absurd h hs
  next h _ => exact absurd h hs
  · rfl

theorem onPlan_state (f : PlanRec → PlanRec) (r : Record) : (onPlan f r).state = r.state := by
  rcases onPlan_eq f r with e | ⟨p, -, e⟩ <;> rw [e]

theorem calm_state (h : Handle) {s : RecState} (hg : s ≠ .granted) (hs : s ≠ .suspended) :
    Calm fun d => ∀ r, lookup d h = some r → r.state = s where
  cap _ h := h
  budget _ _ h := h
  fridge _ _ _ h := h
  heater _ _ _ _ _ h := h
  sched _ _ _ _ h := h
  heat _ h := h
  cool _ h := h
  outlet _ h := h
  causes _ _ _ h := h
  remap d k l H r hr := by
    rw [remap_eq, lookup_revise] at hr
    split at hr
    next hk =>
      obtain ⟨x, hx, rfl⟩ := Option.map_eq_some_iff.mp hr
      have hx := H x (hk ▸ hx)
      rw [mapRecord_of_state (by rw [hx]; exact hg) (by rw [hx]; exact hs)]
      exact hx
    · exact H r hr
  atRisk d k b H r hr := by
    rw [lookup_revise] at hr
    split at hr
    next hk =>
      obtain ⟨x, hx, rfl⟩ := Option.map_eq_some_iff.mp hr
      rw [planAtRisk_eq, onPlan_state]
      exact H x (hk ▸ hx)
    · exact H r hr
  heaterFlag _ h := h
  budgetFlag _ h := h

/-- What follows the new fields of a record whose value is still to be handed. -/
theorem bond_afterAmend {h : Handle} {old r : Record} (hr : lookup d h = some r)
    (b : Bonded (some r.fn) (planMap d) d) (causes : CausesOk d) (leaving : d.table.leaving = none)
    (state : r.state = old.state) : Bond (afterAmend h old d) := by
  unfold afterAmend
  rw [hr]
  dsimp only
  split
  next p dr _ hf =>
    have bond : Bond d := ⟨⟨b.bound, fun fn _ => by
      by_cases hk : fn = .rest dr
      · rw [hk]; trivial
      · exact b.values fn fun e => hk (by rw [← hf]; exact (Option.some.inj e).symm)⟩, causes, leaving⟩
    refine whole_bond.planAmended dr h p (fun e t he hP => Bond.preheat t ?_ hP) bond
    rw [he]
    exact (b.bound.rest dr h r hr hf).2
  next fn _ hf =>
    have s : Sound (planMap d) none (recompute (pushValue r.fn d)) := by
      refine Sound.recompute ⟨b.pushValue, ?_, by rw [pushValue_table]; exact leaving⟩
      have budget := same_budget (same_pushValue r.fn d)
      exact causesOk_congr (by rw [budget]) (by rw [budget]) (by rw [pushValue_table]) causes
    have plans : (recompute (pushValue r.fn d)).plans = d.plans :=
      (same_plans (same_recompute _)).trans (same_plans (same_pushValue _ _))
    have final : Bond (recompute (pushValue r.fn d)) := .of_sound s plans
    split
    next l _ =>
      split
      next hc =>
        refine Bond.of_sound (d := recompute (pushValue r.fn d)) ?_ (same_plans (same_admission _ _ _ _))
        refine Sound.admission final h l .essential fun x hx hg => ?_
        have still := (calm_state h (s := .deferred) nofun nofun).settled.recompute (d := pushValue r.fn d) fun y hy => by
          rw [lookup_pushValue, hr] at hy
          cases hy
          exact state.trans hc.1
        rw [still x hx] at hg
        cases hg
      · exact final
    · exact final

theorem Bond.amended (b : Bond d) (st : Station) {h : Handle} {r : Record} (body : AmendBody) (live : lookup d h = some r)
    (own : r.owner ≠ .internal) : Bond (amended st h r body d) := by
  have low : ¬ 46 ≤ h.slot := fun h46 => own (b.bonded.bound.reserved h r live h46)
  unfold Machine.amended quietly
  dsimp only
  refine Bond.quiet ?_ none
  have cleared := (b.quiet (if isOwn st r then some h else none)).clearFault r.fn
  have occ : occupancy (takeSequence (Machine.clearFault r.fn
      { d with table := { d.table with quiet := if isOwn st r then some h else none } })) = occupancy d := by
    rw [occupancy_takeSequence, occupancy_clearFault]
    rfl
  have fresh := fun k y => cleared.bonded.bound.fresh (h := k) (r := y)
  have taken : Bond (takeSequence (Machine.clearFault r.fn
      { d with table := { d.table with quiet := if isOwn st r then some h else none } })) :=
    .of_sound (Sound.takeSequence cleared) (same_plans (same_takeSequence _))
  generalize takeSequence (Machine.clearFault r.fn
    { d with table := { d.table with quiet := if isOwn st r then some h else none } }) = e at occ fresh taken ⊢
  obtain ⟨x, hx⟩ : ∃ x, lookup e h = some x := Option.isSome_iff_exists.mp (by
    rw [lookup_isSome_of_occupancy occ, live]
    rfl)
  rw [hx]
  dsimp only [Option.getD_some]
  have owner : x.owner ≠ .internal := fun hi => by
    obtain ⟨-, dr, p, hs, -⟩ := taken.bonded.bound.inner h x hx hi
    exact low (hs ▸ internalSlot_ge dr)
  have revised : lookup (revise h (fun r => (amendedRecord e.clock.sec (e.settings.stations.get st).control body
      e.table.counter r).1) e) h =
      some (amendedRecord e.clock.sec (e.settings.stations.get st).control body e.table.counter x).1 := by
    rw [lookup_revise, if_pos rfl, hx]
    rfl
  have plans := planMap_congr (same_plans (same_revise h (fun r => (amendedRecord e.clock.sec
    (e.settings.stations.get st).control body e.table.counter r).1) e))
  have budget := same_budget (same_revise h (fun r => (amendedRecord e.clock.sec
    (e.settings.stations.get st).control body e.table.counter r).1) e)
  refine bond_afterAmend revised ?_ (causesOk_congr (by rw [budget]) (by rw [budget]) (revise_causes _ _ _) taken.causes)
    ((revise_leaving _ _ _).trans taken.leaving) rfl
  rw [plans]
  refine (taken.bonded.due x.fn).reviseSeq h _ (fun y hy => ?_) fun y hy => ?_
  · rw [hx] at hy
    cases hy
    exact ⟨⟨rfl, rfl, rfl, paramsKind_amendParams _ _, fun hi => absurd hi owner⟩, Nat.le_refl _,
      fun k z hz _ => Nat.ne_of_lt (fresh k z hz)⟩
  · rw [hx] at hy
    cases hy
    exact .inl rfl

/-! ## A RESTART (R25, R46, R47) -/

theorem lookup_cleared (d : Device) (k : Handle) : lookup (cleared d) k = none := by
  unfold lookup
  split
  · split
    next s hs =>
      have hs : (d.table.slots.map fun s => if s.rcd.isSome then ⟨nextGen s.gen, none⟩ else s)[k.slot]? = some s := hs
      rw [List.getElem?_map] at hs
      obtain ⟨y, -, rfl⟩ := Option.map_eq_some_iff.mp hs
      cases hy : y.rcd with
      | none => simp [hy]
      | some r => simp
    · rfl
  · rfl

/-- With no record live all that the table's bonds ask for is its order and empty sets. -/
theorem bound_of_empty (ht : TableOk d) (hs : StationsOk d) (empty : ∀ k, lookup d k = none)
    (sets : ∀ st, (d.link.stations.get st).entries = []) : Bound (fun _ => none) d where
  table := ht
  stations := hs
  told st := by rw [sets]; exact setNames_nil _
  kinds h r hr := by rw [empty] at hr; cases hr
  plan _ _ h := nomatch h
  rest _ h r hr := by rw [empty] at hr; cases hr
  reserved h r hr := by rw [empty] at hr; cases hr
  inner h r hr := by rw [empty] at hr; cases hr
  apart h _ r _ hr := by rw [empty] at hr; cases hr
  counted h r hr := by rw [empty] at hr; cases hr

/-- Every value is right once all are handed. -/
theorem valueOk_foldl_pushValue : ∀ (l : List Fn) (d : Device) (fn : Fn), fn ∈ l ∨ ValueOk d fn →
    ValueOk (l.foldl (fun d fn => pushValue fn d) d) fn
  | [], _, _, h => h.resolve_left List.not_mem_nil
  | x :: l, d, fn, h => by
    refine valueOk_foldl_pushValue l _ fn ?_
    rcases h with h | h
    · rcases List.mem_cons.mp h with rfl | h
      · exact .inr (valueOk_pushValue _ d)
      · exact .inl h
    · exact .inr (h.pushValue x)

theorem valueOk_pushAll (d : Device) (fn : Fn) : ValueOk (pushAll d) fn := by
  cases fn with
  | rest dr => trivial
  | lamp c => exact valueOk_foldl_pushValue _ d _ (.inl (by cases c <;> decide))
  | _ => exact valueOk_foldl_pushValue _ d _ (.inl (by decide))

theorem pushAll_same (d : Device) : (pushAll d).table = d.table ∧ (pushAll d).budget = d.budget :=
  foldl_kept (P := fun e => e.table = d.table ∧ e.budget = d.budget)
    (fun e fn ⟨ht, hb⟩ => ⟨(pushValue_table fn e).trans ht, (same_budget (same_pushValue fn e)).trans hb⟩) _ d ⟨rfl, rfl⟩

/-- A plan unit that ends with no record in the table. -/
theorem Sound.endEmpty {u : Driver → Option Handle} {l : Option (Handle × Station)} (s : Sound u l d)
    (empty : ∀ k, lookup d k = none) (dr : Driver) (st : Option Station) (how : Report) :
    Sound u l (endPlan dr st how d) ∧ (endPlan dr st how d).table = d.table ∧
      planMap (endPlan dr st how d) = fun k => if k = dr then none else planMap d k := by
  have s1 : Sound u l (endRamp dr (if (d.plans.get dr).call = .calling then stopBunk dr d else d)) :=
    (units_sound u l).endRamp dr (kept_after (fun _ => (units_sound u l).stopBunk dr) s)
  have t1 : (endRamp dr (if (d.plans.get dr).call = .calling then stopBunk dr d else d)).table = d.table :=
    (units_table _).endRamp dr (kept_after (fun _ => (units_table d.table).stopBunk dr) rfl)
  have e1 : Machine.unwound dr st how d = endRamp dr (if (d.plans.get dr).call = .calling then stopBunk dr d else d) := by
    unfold Machine.unwound
    dsimp only
    split
    next x hx =>
      split
      next hsome =>
        obtain ⟨r, hr⟩ := Option.isSome_iff_exists.mp hsome
        have live := lookup_of_mem_records s1.bonded.bound.table
          (mem_records_iff (h := ⟨internalSlot dr, x.gen⟩) (r := r) |>.mpr (by rw [hx, ← hr]))
        rw [lookup_congr (congrArg Table.slots t1), empty] at live
        cases live
      · rfl
    · rfl
  have map : planMap (endRamp dr (if (d.plans.get dr).call = .calling then stopBunk dr d else d)) = planMap d := by
    rw [← e1]
    exact planMap_unwound dr st how d
  rw [endPlan_eq, e1]
  refine ⟨s1.congr rfl rfl rfl (handedOn_refl _), t1, funext fun k => ?_⟩
  rw [planMap_setUnit, map]
  rfl

/-- The budget unit recomputes from position 0. -/
theorem Bond.fromStart (b : Bond d) :
    Bond (withBudgetNotice (fun d => recomputeCore (setBudget (fun b => { b with position := 0 }) d)) d) :=
  .of_sound (Sound.withBudgetNotice (Sound.recomputeCore (Sound.budget b _ rfl rfl)))
    (same_plans (bs := budgetBlocks) (same_withBudgetNotice _ _
      (same_trans (same_mono (same_setBudget _ _)) (same_recomputeCore _))))

theorem Bond.noSwap (b : Bond d) : Bond (noSwap d) := b.loose ⟨rfl, rfl, rfl, rfl, fun _ => rfl, handedOn_refl d⟩

theorem Bond.restartDevice (b : Bond d) : Bond (restartDevice d) := by
  have bound : Bound (fun _ => none) (cleared d) :=
    bound_of_empty (tableOk_clearTable b.bonded.bound.table)
      (stationsOk_map (fun _ => stationOk_restartStation) b.bonded.bound.stations) (lookup_cleared d) fun st => by
        show ((d.link.stations.map restartStation).get st).entries = []
        rw [PerStation_get_map]
        rfl
  obtain ⟨table, budget⟩ := pushAll_same (cleared d)
  have handed : Bound (fun _ => none) (pushAll (cleared d)) :=
    foldl_kept (fun _ fn h => h.pushValue fn) _ _ bound
  have s : Sound (fun _ => none) none (pushAll (cleared d)) :=
    ⟨⟨handed, fun fn _ => valueOk_pushAll _ fn⟩,
      causesOk_congr (d := cleared d) (by rw [budget]) (by rw [budget]) (by rw [table]) b.causes, by
        rw [table]
        exact b.leaving⟩
  have empty : ∀ k, lookup (pushAll (cleared d)) k = none := fun k => by
    rw [lookup_congr (congrArg Table.slots table), lookup_cleared]
  obtain ⟨s1, t1, m1⟩ := s.endEmpty empty .one none .silent
  have empty1 : ∀ k, lookup (endPlan .one none .silent (pushAll (cleared d))) k = none := fun k => by
    rw [lookup_congr (congrArg Table.slots t1), empty]
  obtain ⟨s2, -, m2⟩ := s1.endEmpty empty1 .two none .silent
  have final : Bond (Machine.noSwap (endPlan .two none .silent (endPlan .one none .silent (pushAll (cleared d))))) := by
    refine Bond.noSwap ?_
    rw [Bond, m2, m1]
    have : (fun k => if k = Driver.two then none else if k = .one then none else planMap (pushAll (cleared d)) k) = fun _ => none := by
      funext k
      cases k <;> rfl
    rw [this]
    exact s2
  rw [restartDevice_eq]
  exact final.fromStart

/-! ## The acts of a request -/

theorem Bond.acts {st : Station} (a : Acts st d e) (b : Bond d) : Bond e := by
  cases a with
  | same => exact b
  | swap x => exact b.loose ⟨rfl, rfl, rfl, rfl, fun _ => rfl, handedOn_refl d⟩
  | mark x => exact b.loose ⟨rfl, rfl, rfl, rfl, fun _ => rfl, handedOn_refl d⟩
  | ack dr => exact whole_bond.acknowledge dr b
  | create fn h body cls params flags free room given fits => exact b.created free room given fits
  | amend h r body live own _ => exact b.amended st body live own
  | retire h r live _ how told => exact Bond.retireRecord live .request (by rw [told]; split <;> nofun) b
  | restart => exact b.restartDevice

end Sys2Proof.Machine
end

section
/-! PROOF. Every step keeps what causes, waits, plans, sets, values and sequences rest on (`BondsOk`). -/

namespace Sys2Proof.Machine
open Sys2Proof

/-! ## Every bond through every move -/

theorem steps_bond : Steps Bond where
  toWhole := whole_bond
  loose _ _ l b := b.loose l
  station _ st _ ok sub b := b.updateStation st ok sub
  start _ _ _ hr hn b := b.beginRecord hr hn
  fault d c b := bond_fault b c (f := fun l => { l with out := 0, fault := true, trip := 0 }) (fun _ => rfl) true
  acts _ _ _ a b := b.acts a

theorem bond_start (c : Settings) (x : Store) (l : Leads) : Bond (startDevice c x l) := by
  have empty : ∀ k, lookup (startDevice c x l) k = none := fun k => by
    unfold lookup
    split
    · split
      next s hs =>
        have hs : s ∈ List.replicate 48 (⟨1, none⟩ : Slot) := List.mem_of_getElem? hs
        rw [List.eq_of_mem_replicate hs]
        exact ite_self _
      · rfl
    · rfl
  have table : TableOk (startDevice c x l) := by
    refine ⟨rfl, fun s hs => ?_, List.nodup_nil⟩
    rw [List.eq_of_mem_replicate hs]
    decide
  have none : ∀ fn r, ¬ GrantedOn (startDevice c x l) fn r := fun fn r hg => by
    obtain ⟨h, hr, -⟩ := (grantedOn_iff_lookup table).mp hg
    rw [empty] at hr
    cases hr
  have stations : StationsOk (startDevice c x l) := fun st => PerStation_get_map startStation c.stations st ▸ stationOk_startStation _
  have bound := bound_of_empty table stations empty fun st => by
    show ((c.stations.map startStation).get st).entries = []
    rw [PerStation_get_map]
    rfl
  have map : planMap (startDevice c x l) = fun _ => Option.none := by
    funext dr
    cases dr <;> rfl
  rw [Bond, map]
  refine ⟨⟨bound, fun fn _ => ?_⟩, fun k => ⟨nofun, fun h => ?_⟩, rfl⟩
  · cases fn with
    | heater => exact fun t => ⟨nofun, fun ⟨⟨r, p, hr, _⟩, _⟩ => absurd hr (none _ r)⟩
    | fridge => exact fun t => ⟨nofun, fun ⟨⟨r, hr, _⟩, _⟩ => absurd hr (none _ r)⟩
    | outlet => exact ⟨nofun, fun ⟨r, hr⟩ => absurd hr (none _ r)⟩
    | lamp k => exact ⟨fun _ => by cases k <;> rfl, fun r _ hr => absurd hr (none _ r)⟩
    | rest dr => trivial
  · cases k <;> cases h

/-! ## No record is kept quiet between commands -/

/-- No record is kept quiet. -/
def Tidy (d : Device) : Prop := d.table.quiet = none

theorem tidy_congr {d e : Device} (h : e.table.quiet = d.table.quiet) (t : Tidy d) : Tidy e := h.trans t

theorem kept_tidy : Kept Tidy where
  cap _ h := h
  budget _ _ h := h
  fridge _ _ _ h := h
  heater _ _ _ _ _ h := h
  sched _ _ _ _ h := h
  heat _ h := h
  cool _ h := h
  outlet _ h := h
  causes _ _ _ h := h
  remap d _ _ := tidy_congr (revise_quiet _ _ d)
  atRisk d _ _ := tidy_congr (revise_quiet _ _ d)
  heaterFlag _ h := h
  budgetFlag _ h := h
  failure _ _ h := h
  warningFlag _ _ h := h
  lamps _ _ h := h
  plans _ _ h := h
  account _ _ _ _ h := h
  allCauses _ _ h := h
  departing _ _ _ _ hf h := hf _ h
  quietly _ _ _ _ _ := rfl
  revise d _ _ := tidy_congr (revise_quiet _ _ d)
  put _ _ _ _ _ h := h
  free _ _ _ _ h := h
  leave _ _ h := h
  join d _ := tidy_congr (joinQueue_quiet _ d)
  sequence d := tidy_congr (takeSequence_quiet d)
  retired d _ _ _ _ _ := tidy_congr (congrArg Table.quiet (same_table (same_reportRetired _ _ _ _ _ d)))

theorem steps_tidy : Steps Tidy where
  toWhole := kept_tidy.whole
  loose _ _ l := tidy_congr (congrArg Table.quiet l.table)
  station _ _ _ _ _ h := h
  start _ h _ _ _ := kept_tidy.beginRecord h
  fault d c h := kept_tidy.setCauseAndRecompute _ _ (kept_tidy.lamps d _ h)
  acts st d e a h := by
    have k := kept_tidy
    cases a with
    | same => exact h
    | swap => exact h
    | mark => exact h
    | ack dr => exact k.units.acknowledge dr h
    | create fn x b cls params flags free _ _ _ => exact k.created free h
    | amend x r b _ _ _ => exact k.amended st x r b h
    | retire x _ _ _ how _ => exact k.retireRecord x _ how h
    | restart => exact k.restartDevice (fun _ h => h) h

/-! ## The bonds as the obligation states them -/

theorem Bound.seqsOk {u : Driver → Option Handle} {d : Device} (b : Bound u d) : SeqsOk d := by
  refine ⟨?_, fun hr m => b.counted hr.1 hr.2 (lookup_of_mem_records b.table m)⟩
  rw [List.Nodup, List.pairwise_map]
  refine (records_slots_sorted d).imp_of_mem fun {x y} hx hy hlt e => ?_
  have := b.apart x.1 y.1 x.2 y.2 (lookup_of_mem_records b.table hx) (lookup_of_mem_records b.table hy) e
  rw [this] at hlt
  exact Nat.lt_irrefl _ hlt

theorem bond_apart {d : Device} (ht : TableOk d) (h : SeqsOk d) {k l : Handle} {r x : Record} (hr : lookup d k = some r)
    (hx : lookup d l = some x) (e : r.seq = x.seq) : k = l := by
  have same := List.inj_on_of_nodup_map h.1 (mem_records_of_lookup hr) (mem_records_of_lookup hx) e
  exact congrArg Prod.fst same

theorem served_eq_some {p : Params} {ph : Handle} : served p = some ph ↔ ∃ t, p = .heat t (some ph) := by
  unfold served
  split
  next t o => simp
  next hn => simp only [reduceCtorEq, false_iff, not_exists]; exact fun t e => hn t _ e

theorem plansOk_iff {d : Device} : PlansOk d ↔
    (∀ dr h, planMap d dr = some h → ∃ r, lookup d h = some r ∧ r.fn = .rest dr) ∧
    (∀ dr h r, lookup d h = some r → r.fn = .rest dr → r.owner ≠ .internal ∧ planMap d dr = some h) ∧
    (∀ h r, lookup d h = some r → 46 ≤ h.slot → r.owner = .internal) ∧
    ∀ h r, lookup d h = some r → r.owner = .internal →
      r.fn = .heater ∧ ∃ dr p, h.slot = internalSlot dr ∧ served r.params = some p ∧ planMap d dr = some p := by
  simp only [served_eq_some]
  constructor
  · rintro ⟨hp, hr⟩
    refine ⟨hp, fun dr h r hl => (hr h r hl).1 dr, fun h r hl => (hr h r hl).2.1, fun h r hl hi => ?_⟩
    obtain ⟨hf, dr, t, p, hs, he, hu⟩ := (hr h r hl).2.2 hi
    exact ⟨hf, dr, p, hs, ⟨t, he⟩, hu⟩
  · rintro ⟨hp, hrest, hres, hin⟩
    refine ⟨hp, fun h r hl => ⟨fun dr => hrest dr h r hl, hres h r hl, fun hi => ?_⟩⟩
    obtain ⟨hf, dr, p, hs, ⟨t, he⟩, hu⟩ := hin h r hl hi
    exact ⟨hf, dr, t, p, hs, he, hu⟩

/-- With table and sets in order the bonds are those of jobs and scheduler, those of the table, and no quiet record. -/
theorem bondsOk_iff {d : Device} (ht : TableOk d) (hs : StationsOk d) :
    BondsOk d ↔ JobsOk d ∧ SchedOk d ∧ Bond d ∧ Tidy d := by
  constructor
  · rintro ⟨hj, hc, hsched, hp, ⟨hsets, hq, hl⟩, hk, hv, hseq⟩
    obtain ⟨plan, rest, reserved, inner⟩ := plansOk_iff.mp hp
    exact ⟨hj, hsched, ⟨⟨{
      table := ht
      stations := hs
      told := fun st => hsets st
      kinds := hk
      plan := fun dr h hu => .inl (plan dr h hu)
      rest := rest
      reserved := reserved
      inner := inner
      apart := fun _ _ _ _ hr hx e => bond_apart ht hseq hr hx e
      counted := fun h r hr => hseq.2 (h, r) (mem_records_of_lookup hr) }, fun fn _ => (valuesOk_iff d).mp hv fn⟩, hc, hl⟩, hq⟩
  · rintro ⟨hj, hsched, b, hq⟩
    have bound := b.bonded.bound
    exact ⟨hj, b.causes, hsched,
      plansOk_iff.mpr ⟨fun dr h hu => plan_live b hu, bound.rest, bound.reserved, bound.inner⟩,
      ⟨bound.told, hq, b.leaving⟩, bound.kinds, (valuesOk_iff d).mpr fun fn => b.bonded.values fn nofun, bound.seqsOk⟩

theorem bondsOk_powerUp (okA okB : Bool) (d : Device) : BondsOk (powerUp okA okB d) := by
  have bond := steps_bond.powerUp okA okB d fun c x => bond_start c x d.leads
  have bound := bond.bonded.bound
  exact (bondsOk_iff bound.table bound.stations).mpr ⟨jobsOk_powerUp okA okB d, schedOk_powerUp okA okB d, bond,
    steps_tidy.powerUp okA okB d fun _ _ => rfl⟩

theorem bondsOk_step (s t : State) (books : BooksOk s.dev) (h : BondsOk s.dev) (hs : step s = .next t) : BondsOk t.dev := by
  obtain ⟨ht, hst, -⟩ := books
  obtain ⟨hj, hsched, bond, hq⟩ := (bondsOk_iff ht hst).mp h
  rcases step_moves s t hs with ⟨a, b, -, e⟩ | m
  · rw [e]
    exact bondsOk_powerUp a b _
  · have after := steps_bond.move m bond
    have bound := after.bonded.bound
    exact (bondsOk_iff bound.table bound.stations).mpr
      ⟨jobsOk_move m hj, schedOk_move m hj hsched, after, steps_tidy.move m hq⟩

/-- Power-on with a blank store leads to the state after reset (R193). -/
theorem powerUp_reset : powerUp true true State.reset.dev = State.reset.dev := by decide +kernel

/-- Settles O25: the lock by `step_keeps_lock`; the rest by the bonds of the table (`Bond`), which every move keeps and
power-on sets up. -/
theorem everyStepKeepsLockCausesAndSets : Obligations.EveryStepKeepsLockCausesAndSets := by
  refine ⟨fun s t h hs => step_keeps_lock s t h hs, fun s t books h hs => bondsOk_step s t books h hs, ?_⟩
  rw [← powerUp_reset]
  exact bondsOk_powerUp true true _

end Sys2Proof.Machine
end

section
/-! PROOF. A request that writes the store is answered once its write is complete, and an answer held for the heater goes out
when it waits no more; with it the plain settings. -/

namespace Sys2Proof.Machine
open Sys2Proof

variable {d e : Device}

/-! ## What the owning block's work leaves -/

/-- The blocks that the owning block of a written value reaches. -/
abbrev changeBlocks : List Block := [.table, .store, .link, .sched, .heater, .fridge, .lamps, .budget, .bank, .accounts]

theorem same_withBank (x : Bank) (d : Device) : sameExcept [.bank] d { d with bank := x } := same_setBank (fun _ => x) d

theorem same_capacityChanged (n : Nat) (d : Device) : sameExcept changeBlocks d (capacityChanged n d) := by
  unfold capacityChanged
  exact same_trans (same_mono (same_withBank _ d)) (same_mono (same_recompute _))

/-- What a written value brings with it reaches neither clock, settings, plans, vehicle port nor leads. -/
theorem same_changed (c : Change) (old : Settings) (d : Device) : sameExcept changeBlocks d (changed c old d) := by
  have recomputed : ∀ e, sameExcept changeBlocks e (recompute e) := fun e => same_mono (same_recompute e)
  have ladder : sameExcept changeBlocks d (withBudgetNotice (fun d => recomputeCore (rebuildLadder d)) d) :=
    same_mono (bs := budgetBlocks) (same_withBudgetNotice _ d
      (same_trans (same_mono (same_rebuildLadder d)) (same_recomputeCore (rebuildLadder d))))
  have stations : ∀ st, sameExcept changeBlocks d (stationChanged st d) := fun st => same_mono (same_updateStation st _ d)
  unfold changed
  split
  · exact same_ite (same_refl _ d) (same_capacityChanged _ d)
  · exact same_mono (same_withBank _ d)
  · exact same_trans (same_mono (same_idleEnds d)) (recomputed _)
  · exact recomputed d
  · exact recomputed d
  · exact same_mono (same_evaluateBoth d)
  · exact same_refl _ d
  · exact ladder
  · exact ladder
  · exact recomputed d
  · exact stations _
  · exact stations _
  all_goals exact same_refl _ d

/-- What rests on the store's own state and on the waits stays through the work of the block that a written value
reaches, but for the scheduler's wait. -/
def SameStore (d e : Device) : Prop :=
  e.heater.waiting = d.heater.waiting ∧ e.store.jobs = d.store.jobs ∧ e.store.writing = d.store.writing ∧
    e.store.a = d.store.a ∧ e.store.b = d.store.b

theorem still_sameStore (d : Device) : StillKept (SameStore d) := fun _ _ s h => by
  unfold SameStore
  rw [s.waiting, s.jobs, s.writing, s.imageA, s.imageB]
  exact h

theorem slots_sameStore (d : Device) : Slots (SameStore d) where
  toWhole := (Kept.of_still (still_sameStore d)).whole
  slots _ _ _ _ _ _ h := h

theorem sameStore_changed (c : Change) (old : Settings) (d : Device) : SameStore d (changed c old d) :=
  (slots_sameStore d).changed_still (still_sameStore d) c old (fun _ => ⟨rfl, rfl, rfl, rfl, rfl⟩)
    fun _ => ⟨rfl, rfl, rfl, rfl, rfl⟩

/-! ## What an answer leaves as it reads it -/

/-- The record, settings and marks that an answer carries do not depend on link, store and scheduler. -/
theorem specBytes_congr (st : Station) (spec : AnswerSpec) (h : sameExcept [.link, .store, .sched] d e) :
    specBytes e st spec = specBytes d st spec := by
  have eq : e = { d with link := e.link, store := e.store, sched := e.sched } := by
    cases d
    cases e
    simp only [Device.mk.injEq]
    exact ⟨same_inReset h, same_clock h, same_settings h, trivial, trivial, same_table h, same_bank h, same_budget h, trivial, same_heater h,
      same_fridge h, same_lamps h, same_accounts h, same_plans h, same_vehicle h, same_leads h⟩
  rw [eq]
  cases spec <;> rfl

/-! ## The write of a request (R29, R191, R192) -/

/-- The request is accepted. -/
def accepted (d : Device) : Device := { d with store := { d.store with defaulted := false } }

theorem beginWrite_of_jobs (h : d.store.jobs = []) : beginWrite d = d := by
  unfold beginWrite
  rw [h]
  cases d.store.writing <;> rfl

/-- The write of the only job asked for, a request's: its value is in force, its block has acted, and the answer is sent. -/
theorem completeWrite_answer {i : ImageId} {c : Change} {st : Station} {ty : Byte} {code : AnswerCode} {spec : AnswerSpec}
    (hw : d.store.writing = some i) (hj : d.store.jobs = [⟨c, .answer st ty code spec⟩]) (free : d.heater.waiting = false)
    (sched : d.sched.waiting = false) :
    completeWrite d = answer st ty code
      (specBytes (accepted (changed c d.settings (written i ⟨c, .answer st ty code spec⟩ [] d))) st spec)
      (accepted (changed c d.settings (written i ⟨c, .answer st ty code spec⟩ [] d))) := by
  obtain ⟨hwait, hjobs, -⟩ := sameStore_changed c d.settings (written i ⟨c, .answer st ty code spec⟩ [] d)
  have resumed_eq : resumed i ⟨c, .answer st ty code spec⟩ [] d = answer st ty code
      (specBytes (accepted (changed c d.settings (written i ⟨c, .answer st ty code spec⟩ [] d))) st spec)
      (accepted (changed c d.settings (written i ⟨c, .answer st ty code spec⟩ [] d))) := by
    unfold resumed goOn
    exact congrArg releaseAnswer (answerAfter_free
      (d := accepted (changed c d.settings (written i ⟨c, .answer st ty code spec⟩ [] d))) (h := hwait.trans free) ..)
  rw [completeWrite_eq hw hj, if_neg (by rw [sched]; nofun), resumed_eq]
  exact beginWrite_of_jobs hjobs

/-! ## An answer held for the heater sequencer (R29) -/

namespace Work

variable {P : Device → Prop} (k : Work P)
include k

/-- The sequencer goes on after a write and takes what it held, where that holds no clear. -/
theorem heaterResume {f : Device → Device} (hf : ∀ d, d.heater.waiting = false → P d → P (f d))
    (clears : ∀ m ∈ d.heater.held, m.isClear = false)
    (h : P (Machine.setHeat (fun h => { h with waiting := false, held := [] }) d)) : P (heaterResume f d) := by
  unfold Machine.heaterResume
  generalize d.heater.held = ms at clears
  have start := hf _ rfl h
  generalize f (Machine.setHeat (fun h => { h with waiting := false, held := [] }) d) = e at start
  induction ms generalizing e with
  | nil => exact start
  | cons m ms ih =>
    exact ih (fun x hx => clears x (List.mem_cons_of_mem m hx)) _ (k.heaterTake (clears m List.mem_cons_self) start)

end Work

theorem still_heldAnswer (a : Option HeldAnswer) : StillKept fun e => e.link.heldAnswer = a := fun _ _ s h => s.heldAnswer.trans h

theorem work_heldAnswer (a : Option HeldAnswer) : Work fun e => e.link.heldAnswer = a where
  toWhole := (Kept.of_still (still_heldAnswer a)).whole
  slots _ _ _ _ _ _ h := h
  write d c n _ _ _ _ h := by
    rw [heaterWrite, askWrite_eq]
    exact h

/-- An answer stays held through the rest of a block's own write, but for the clear of a lockout. -/
theorem heldAnswer_goOn {n : Cont} {a : Option HeldAnswer} (old : Device) (own : ∀ st ty code spec, n ≠ .answer st ty code spec)
    (notClear : ∀ st, n ≠ .lockoutCleared st) (clears : ∀ m ∈ d.heater.held, m.isClear = false)
    (h : d.link.heldAnswer = a) : (goOn n old d).link.heldAnswer = a := by
  have k := work_heldAnswer a
  cases n with
  | answer st ty code spec => exact absurd rfl (own st ty code spec)
  | ignite => exact k.heaterResume (fun _ _ => k.fuelOn) clears h
  | overheat => exact k.heaterResume (fun _ _ => k.overheatWritten) clears h
  | attemptFailed => exact k.heaterResume (fun _ _ => k.purgeFailed) clears h
  | purgeHot => exact k.heaterResume (fun _ => k.hotWritten) clears h
  | purgeEnd n => exact k.heaterResume (fun _ _ => k.purgeWritten n) clears h
  | lockoutCleared st => exact absurd rfl (notClear st)
  | boundary f x => exact k.boundaryWritten f x (fun _ => h) fun _ => h
  | nothing => exact h

/-- An answer is held, and no clear. -/
def HoldsAnswer (a : HeldAnswer) (d : Device) : Prop :=
  d.link.heldAnswer = some a ∧ d.heater.held.filter HeaterMsg.isClear = []

theorem still_holdsAnswer (a : HeldAnswer) : StillKept (HoldsAnswer a) := fun _ _ s h => by
  unfold HoldsAnswer
  rw [s.heldAnswer, s.clears]
  exact h

theorem slots_holdsAnswer (a : HeldAnswer) : Slots (HoldsAnswer a) where
  toWhole := (Kept.of_still (still_holdsAnswer a)).whole
  slots _ _ _ _ _ _ h := h

/-- What a completed block's write leaves once what waited has gone on, with no boundary late. -/
theorem completeWrite_settled {i : ImageId} {j : Job} {rest : List Job} (hw : d.store.writing = some i)
    (hj : d.store.jobs = j :: rest) (late : d.sched.late = []) :
    sameExcept [.store, .sched] (resumed i j rest d) (completeWrite d) := by
  have k := resting_late []
  have late : (resumed i j rest d).sched.late = [] :=
    k.toHeld.releaseAnswer (k.goOn _ _ (fun _ => k.changed (still_late []) _ _ late) fun _ => k.changed (still_late []) _ _ late)
  rw [completeWrite_eq hw hj]
  refine same_trans ?_ (same_mono (same_beginWrite _))
  refine same_ite ?_ (same_refl _ _)
  unfold takeLate
  rw [late]
  exact same_mono (same_setSched _ _)

/-- A held answer is sent just where the heater waits no more. -/
theorem releaseAnswer_held {a : HeldAnswer} (h : d.link.heldAnswer = some a) :
    releaseAnswer d = if d.heater.waiting then d else answer a.station a.type a.code (specBytes d a.station a.spec) d := by
  unfold releaseAnswer
  rw [h]

/-- Settles O6: a request's write by `completeWrite_answer`; a held answer by `heldAnswer_goOn`. -/
theorem answeredWriteCompletes : Obligations.AnsweredWriteCompletes := by
  refine ⟨fun s i c st ty code spec hr hw hj free sched => ?_, fun s i j rest a hr hw hj hans hclear hheld hlate ha => ?_⟩
  · refine answers_onPart rfl hr ?_
    rw [completeWrite_answer hw hj free sched]
    obtain ⟨-, hjobs, hwriting, hA, hB⟩ := sameStore_changed c s.dev.settings (written i ⟨c, .answer st ty code spec⟩ [] s.dev)
    have same := same_changed c s.dev.settings (written i ⟨c, .answer st ty code spec⟩ [] s.dev)
    generalize changed c s.dev.settings (written i ⟨c, .answer st ty code spec⟩ [] s.dev) = e at same hjobs hwriting hA hB
    refine ⟨same_settings same, rfl, hjobs, hwriting, ?_, ?_, ⟨rfl, ?_⟩, (same_clock same).trans rfl,
      (same_plans same).trans rfl, (same_vehicle same).trans rfl, (same_leads same).trans rfl⟩
    · rintro rfl; exact ⟨hA, hB⟩
    · rintro rfl; exact ⟨hB, hA⟩
    · rw [specBytes_congr (d := accepted e) st spec (same_mono (same_answer _ _ _ _ _))]
      rfl
  · refine answers_onPart rfl hr ?_
    have clears : s.dev.heater.held.filter HeaterMsg.isClear = [] := List.filter_eq_nil_iff.mpr fun m hm => by
      cases m with
      | clear st => exact absurd hm (hheld st)
      | _ => exact Bool.false_ne_true
    obtain ⟨hC, hcl⟩ : HoldsAnswer a (changed j.change s.dev.settings (written i j rest s.dev)) :=
      (slots_holdsAnswer a).changed_still (still_holdsAnswer a) _ _ (fun _ => ⟨ha, clears⟩) fun _ => ⟨ha, clears⟩
    have own : ∀ st ty code spec, j.cont ≠ .answer st ty code spec := fun st ty code spec e => by
      unfold Job.answers at hans
      rw [e] at hans
      cases hans
    have still := heldAnswer_goOn (written i j rest s.dev) own hclear
      (fun m hm => Bool.eq_false_iff.mpr (List.filter_eq_nil_iff.mp hcl m hm)) hC
    have after := completeWrite_settled hw hj hlate
    unfold resumed at after
    rw [releaseAnswer_held still] at after
    generalize goOn j.cont (written i j rest s.dev) (changed j.change s.dev.settings (written i j rest s.dev)) = e at still after
    generalize completeWrite s.dev = f at after
    cases hwait : e.heater.waiting with
    | true =>
      rw [if_pos hwait] at after
      have busy : f.heater.waiting = true := (congrArg Heater.waiting (same_heater after)).trans hwait
      exact ⟨fun _ => (congrArg Link.heldAnswer (same_link after)).trans still, fun hf => by rw [busy] at hf; cases hf⟩
    | false =>
      rw [if_neg (by rw [hwait]; nofun)] at after
      have free : f.heater.waiting = false := (congrArg Heater.waiting (same_heater after)).trans hwait
      have link := same_link after
      refine ⟨fun hb => ?_, fun _ => ⟨congrArg Link.heldAnswer link, ?_⟩⟩
      · rw [free] at hb
        cases hb
      have same : sameExcept [.link, .store, .sched] e f := same_trans (same_mono (same_answer _ _ _ _ e)) (same_mono after)
      · rw [AnsweredFrame, link, specBytes_congr _ _ same]
        exact ⟨rfl, rfl⟩

end Sys2Proof.Machine
end

section
/-! PROOF. The plain settings take the clamped value once it is written. -/

namespace Sys2Proof.Machine
open Sys2Proof

/-! ## The write that an accepted CONFIGURE asks for (R191, R192) -/

/-- A write that is asked for while the store rests begins at once. -/
theorem askWrite_idle {d : Device} (h : StoreIdle d) (c : Change) (n : Cont) :
    ∃ i, (askWrite c n d).store.writing = some i ∧ (askWrite c n d).store.jobs = [⟨c, n⟩] := by
  obtain ⟨hw, hj⟩ := h
  have jobs : (askWrite c n d).store.jobs = [⟨c, n⟩] := by rw [askWrite_jobs, hj]; rfl
  obtain ⟨i, hi⟩ : ∃ i, (askWrite c n d).store.writing = some i := by
    unfold askWrite beginWrite
    rw [hj, hw]
    exact ⟨_, rfl⟩
  exact ⟨i, hi, jobs⟩

theorem same_written (i : ImageId) (j : Job) (rest : List Job) (d : Device) :
    sameExcept [.store, .settings] d (written i j rest d) := fun b hb => by
  cases b <;> first | rfl | exact absurd (by decide) hb

theorem same_accepted (d : Device) : sameExcept [.store] d (accepted d) := fun b hb => by
  cases b <;> first | rfl | exact absurd (by decide) hb

/-- An accepted CONFIGURE of a polled station: its value is in force once it is written, the answer goes out, and nothing
else changes but what the owning block does. -/
theorem writes_configure {i : Instr} {s : State} {st : Station} {f : Station → Device → Device} {c : Change} {code : AnswerCode}
    {body : List Byte} {bs : List Block} (he : exec i s = onPart (serve (configure f)) s) (hp : PolledIdle st s.dev)
    (hc : (s.dev.settings.stations.get st).configure = true)
    (hf : f st (opened st s.dev) = askWrite c (.answer st 0x30#8 code (.bytes body)) (opened st s.dev))
    (reach : ∀ e, sameExcept bs e (changed c s.dev.settings e)) (hbs : [.link, .store, .settings] ⊆ bs := by decide) :
    WritesThen i s fun d => d.settings = applyChange c s.dev.settings ∧ AnsweredFrame st 0x30#8 code body d ∧
      sameExcept bs s.dev d := by
  obtain ⟨⟨hr, x, hx⟩, idle, free, sched⟩ := hp
  have served : configure f st (opened st s.dev) = askWrite c (.answer st 0x30#8 code (.bytes body)) (opened st s.dev) := by
    unfold configure gated hasConfigure
    rw [opened_settings, hc, if_neg (by nofun), if_neg (by nofun), hf]
  obtain ⟨k, hw, hj⟩ := askWrite_idle (d := opened st s.dev) idle c (.answer st 0x30#8 code (.bytes body))
  have asked := askWrite_eq c (.answer st 0x30#8 code (.bytes body)) (opened st s.dev)
  have same : sameExcept [.link, .store] s.dev (askWrite c (.answer st 0x30#8 code (.bytes body)) (opened st s.dev)) :=
    same_trans (same_mono (same_opened st s.dev)) (same_mono (same_askWrite _ _ _))
  refine ⟨⟨askWrite c (.answer st 0x30#8 code (.bytes body)) (opened st s.dev), s.pending⟩, ⟨_, s.pending⟩, ?_, same_settings same,
    ⟨st, by rw [asked]; rfl⟩, onPart_running completeWrite _ ((same_inReset same).trans hr), rfl, ?_⟩
  · rw [he, onPart_running _ s hr, serve_awaiting _ s.dev st x hx]
    exact congrArg (fun d => Host.Outcome.next (⟨d, s.pending⟩ : State)) served
  · dsimp only
    generalize askWrite c (.answer st 0x30#8 code (.bytes body)) (opened st s.dev) = d at hw hj same asked
    have settings : d.settings = s.dev.settings := same_settings same
    rw [completeWrite_answer hw hj (by rw [same_heater same]; exact free) (by rw [same_sched same]; exact sched), settings]
    have final := same_changed c s.dev.settings (written k ⟨c, .answer st 0x30#8 code (.bytes body)⟩ [] d)
    have reached := reach (written k ⟨c, .answer st 0x30#8 code (.bytes body)⟩ [] d)
    generalize changed c s.dev.settings (written k ⟨c, .answer st 0x30#8 code (.bytes body)⟩ [] d) = e at final reached
    refine ⟨(same_settings final).trans (congrArg (applyChange c) settings), ⟨rfl, rfl⟩, ?_⟩
    have store : sameExcept bs e (accepted e) := same_mono (same_accepted e) (List.Subset.trans (by decide) hbs)
    have sent : sameExcept bs (accepted e) (answer st 0x30#8 code (specBytes (accepted e) st (.bytes body)) (accepted e)) :=
      same_mono (same_answer _ _ _ _ _) (List.Subset.trans (by decide) hbs)
    have before : sameExcept bs s.dev (written k ⟨c, .answer st 0x30#8 code (.bytes body)⟩ [] d) :=
      same_trans (same_mono same (List.Subset.trans (by decide) hbs))
        (same_mono (same_written _ _ _ d) (List.Subset.trans (by decide) hbs))
    exact same_trans (same_trans before reached) (same_trans store sent)

/-- A field that is not negative is written as it is (R195). -/
theorem be32i_of_nonneg {v : Int} (h : 0 ≤ v) (hi : v < 4294967296) : be32i v = be32 v.toNat := by
  unfold be32i
  rw [BitVec.toNat_ofInt, Int.emod_eq_of_lt h (by exact_mod_cast hi)]

theorem be16i_natCast {n : Nat} (h : n < 65536) : be16i (n : Int) = be16 n := by
  unfold be16i
  rw [BitVec.toNat_ofInt, Int.emod_eq_of_lt (Int.natCast_nonneg n) (by exact_mod_cast h), Int.toNat_natCast]

/-- What a setting reaches whose owning block does nothing with it. -/
abbrev plainBlocks : List Block := [.link, .store, .settings]

theorem okCode_clampNat (lo hi n : Nat) : okCode (clampNat lo hi n != n) = codeFor n (clampNat lo hi n : Nat) := by
  unfold okCode codeFor
  by_cases h : clampNat lo hi n = n <;> simp [h]

theorem okCode_clampInt (lo hi n : Int) : okCode (clampInt lo hi n != n) = codeFor n (clampInt lo hi n) := by
  unfold okCode codeFor
  by_cases h : clampInt lo hi n = n <;> simp [h]

/-- A setting with nothing to check but its range. -/
theorem writes_plainNat {i : Instr} {s : State} {st : Station} (p : Param) (lo hi n : Nat) (enc : Nat → List Byte)
    {bs : List Block} (he : exec i s = onPart (serve (configure (plainNat p lo hi n enc))) s) (hp : PolledIdle st s.dev)
    (hc : (s.dev.settings.stations.get st).configure = true)
    (reach : ∀ e, sameExcept bs e (changed (.num p (clampNat lo hi n : Nat)) s.dev.settings e))
    (hbs : [.link, .store, .settings] ⊆ bs := by decide) :
    WritesThen i s fun d => d.settings = setParam p (clampNat lo hi n : Nat) s.dev.settings ∧
      AnsweredFrame st 0x30#8 (codeFor n (clampNat lo hi n : Nat)) (enc (clampNat lo hi n)) d ∧ sameExcept bs s.dev d := by
  rw [← okCode_clampNat]
  exact writes_configure he hp hc rfl reach hbs

/-- A signed setting with nothing to check but its range. -/
theorem writes_plainInt {i : Instr} {s : State} {st : Station} {f : Station → Device → Device} {p : Param} {lo hi n : Int}
    {enc : Int → List Byte} {bs : List Block} (he : exec i s = onPart (serve (configure f)) s)
    (hf : ∀ d, f st d = acceptChange (.num p (clampInt lo hi n)) (clampInt lo hi n != n) (enc (clampInt lo hi n)) st d)
    (hp : PolledIdle st s.dev) (hc : (s.dev.settings.stations.get st).configure = true)
    (reach : ∀ e, sameExcept bs e (changed (.num p (clampInt lo hi n)) s.dev.settings e))
    (hbs : [.link, .store, .settings] ⊆ bs := by decide) :
    WritesThen i s fun d => d.settings = setParam p (clampInt lo hi n) s.dev.settings ∧
      AnsweredFrame st 0x30#8 (codeFor n (clampInt lo hi n)) (enc (clampInt lo hi n)) d ∧ sameExcept bs s.dev d := by
  rw [← okCode_clampInt]
  exact writes_configure he hp hc (hf _) reach hbs

theorem WritesThen.imp {i : Instr} {s : State} {p q : Device → Prop} (h : WritesThen i s p) (k : ∀ d, p d → q d) :
    WritesThen i s q := by
  obtain ⟨t, u, h1, h2, h3, h4, h5, h6⟩ := h
  exact ⟨t, u, h1, h2, h3, h4, h5, k _ h6⟩

/-- Settles O28: each setting is one whose value is only clamped (`writes_plainNat`, `writes_plainInt`), and its owning block
does nothing, or a recomputation, with it. -/
theorem plainSettingsTakeTheClampedValue : Obligations.PlainSettingsTakeTheClampedValue := by
  refine ⟨fun s st hp hc => ?_, fun s st hp hc => ?_, fun s st w hp hc => ?_⟩
  · have rest : ∀ e : Device, sameExcept plainBlocks e e := same_refl _
    exact ⟨fun w => writes_plainNat .fullVoltage 24000 32000 w.toNat be16 rfl hp hc rest,
      fun th b => writes_plainNat (.debounce th) 0 7 b.toNat oneByte rfl hp hc rest,
      fun b => writes_plainNat .slotLength 5 60 b.toNat oneByte rfl hp hc rest,
      fun b => writes_plainNat .deferralLimit 1 240 b.toNat oneByte rfl hp hc rest,
      fun b => writes_plainNat .fadeRate 1 100 b.toNat oneByte rfl hp hc rest,
      fun w => writes_plainNat .idBase 0 2044 w.toNat be16 rfl hp hc rest⟩
  · have budget : ∀ e : Device, sameExcept (.settings :: .store :: budgetReach) e (recompute e) := fun e =>
      same_mono (same_recompute e)
    refine ⟨fun b => writes_plainNat .horizon 1 24 b.toNat oneByte rfl hp hc budget, fun w => ?_⟩
    refine (writes_plainInt (p := .margin) (lo := 0) (hi := 86400) (n := w.toInt) (enc := be32i) rfl
      (fun _ => rfl) hp hc budget).imp fun d ⟨hs, ha, hf⟩ => ⟨hs, ?_, hf⟩
    rw [be32i_of_nonneg (by unfold clampInt; omega) (by unfold clampInt; omega)] at ha
    exact ha
  · have rest : ∀ e : Device, sameExcept plainBlocks e e := same_refl _
    have gain : ∀ {p : Param} {hi : Nat} (_ : hi < 65536) {d : Device},
        (d.settings = setParam p (clampInt 1 hi w.toNat) s.dev.settings ∧
          AnsweredFrame st 0x30#8 (codeFor w.toNat (clampInt 1 hi w.toNat)) (be16i (clampInt 1 hi w.toNat)) d ∧
          sameExcept plainBlocks s.dev d) →
        d.settings = setParam p (clampNat 1 hi w.toNat : Nat) s.dev.settings ∧
          AnsweredFrame st 0x30#8 (codeFor w.toNat (clampNat 1 hi w.toNat : Nat))
            [byte (clampNat 1 hi w.toNat / 256), byte (clampNat 1 hi w.toNat)] d ∧ sameExcept plainBlocks s.dev d := by
      intro p hi hhi d ⟨hs, ha, hf⟩
      have e : clampInt 1 hi w.toNat = (clampNat 1 hi w.toNat : Nat) := by unfold clampInt clampNat; omega
      rw [e] at hs ha
      rw [be16i_natCast (by unfold clampNat; omega)] at ha
      exact ⟨hs, ha, hf⟩
    exact ⟨(writes_plainInt (p := .scale .voltageGain) (lo := 1) (hi := (16383 : Nat)) (n := (w.toNat : Int)) (enc := be16i) rfl
        (fun _ => rfl) hp hc rest).imp fun d h => gain (by decide) h,
      (writes_plainInt (p := .scale .currentGain) (lo := 1) (hi := (32767 : Nat)) (n := (w.toNat : Int)) (enc := be16i) rfl
        (fun _ => rfl) hp hc rest).imp fun d h => gain (by decide) h,
      writes_plainInt (p := .scale .zeroOffset) (lo := -256) (hi := 255) (n := w.toInt) (enc := be16i) rfl
        (fun _ => rfl) hp hc rest⟩

end Sys2Proof.Machine
end

section
/-! PROOF. What a recomputation makes of the records: `Touched` for one record, `Near` for the table and the lamp values,
with what grants, deferrals and retirements do to the table. -/

namespace Sys2Proof.Machine
open Sys2Proof

/-! ## One record -/

/-- What a recomputation can make of a record: a GRANTED or SUSPENDED record of a lane function may change between the two,
and a plan may be at risk or no longer so. -/
structure Touched (r x : Record) : Prop where
  fields : x = { r with state := x.state, reason := x.reason, params := x.params }
  rests : r.state ≠ .granted → r.state ≠ .suspended → x.state = r.state ∧ x.reason = r.reason
  stands : r.state = .granted ∨ r.state = .suspended → x.state = .granted ∨ x.state = .suspended
  other : fnLane r.fn = none → x.state = r.state ∧ x.reason = r.reason
  params : x.params = r.params ∨ ∃ p b, r.params = .plan p ∧ x.params = .plan { p with atRisk := b }

namespace Touched

variable {r x y : Record}

theorem refl (r : Record) : Touched r r := ⟨rfl, fun _ _ => ⟨rfl, rfl⟩, id, fun _ => ⟨rfl, rfl⟩, .inl rfl⟩

theorem fn (h : Touched r x) : x.fn = r.fn := by rw [h.fields]
theorem kind (h : Touched r x) : x.kind = r.kind := by rw [h.fields]
theorem owner (h : Touched r x) : x.owner = r.owner := by rw [h.fields]
theorem cls (h : Touched r x) : x.cls = r.cls := by rw [h.fields]
theorem seq (h : Touched r x) : x.seq = r.seq := by rw [h.fields]
theorem start (h : Touched r x) : x.start = r.start := by rw [h.fields]
theorem endAt (h : Touched r x) : x.endAt = r.endAt := by rw [h.fields]
theorem limit (h : Touched r x) : x.limit = r.limit := by rw [h.fields]
theorem deadline (h : Touched r x) : x.deadline = r.deadline := by rw [h.fields]

theorem trans (h : Touched r x) (k : Touched x y) : Touched r y where
  fields := by
    rw [k.fields]
    rw [h.fields]
  rests hg hs := by
    obtain ⟨a, b⟩ := h.rests hg hs
    obtain ⟨c, d⟩ := k.rests (a ▸ hg) (a ▸ hs)
    exact ⟨c.trans a, d.trans b⟩
  stands hs := k.stands (h.stands hs)
  other ho := by
    obtain ⟨a, b⟩ := h.other ho
    obtain ⟨c, d⟩ := k.other (h.fn ▸ ho)
    exact ⟨c.trans a, d.trans b⟩
  params := by
    rcases h.params with a | ⟨p, b, a, c⟩
    · exact a ▸ k.params
    · refine .inr ?_
      rcases k.params with e | ⟨q, f, e, g⟩
      · exact ⟨p, b, a, e.trans c⟩
      · rw [c] at e
        cases e
        exact ⟨p, f, a, g⟩

/-- A record that is not GRANTED or SUSPENDED, and no plan, is not touched. -/
theorem eq_of_rests (h : Touched r x) (hg : r.state ≠ .granted) (hs : r.state ≠ .suspended) (hp : ∀ p, r.params ≠ .plan p) :
    x = r := by
  obtain ⟨a, b⟩ := h.rests hg hs
  have c : x.params = r.params := h.params.resolve_right fun ⟨p, _, e, _⟩ => hp p e
  rw [h.fields, a, b, c]

/-- A record of no lane, and no plan, is not touched. -/
theorem eq_of_other (h : Touched r x) (ho : fnLane r.fn = none) (hp : ∀ p, r.params ≠ .plan p) : x = r := by
  obtain ⟨a, b⟩ := h.other ho
  have c : x.params = r.params := h.params.resolve_right fun ⟨p, _, e, _⟩ => hp p e
  rw [h.fields, a, b, c]

/-- The parameters of a record that is no plan stay. -/
theorem params_eq (h : Touched r x) (hp : ∀ p, r.params ≠ .plan p) : x.params = r.params :=
  h.params.resolve_right fun ⟨p, _, e, _⟩ => hp p e

/-- A plan keeps all but WAKE_AT_RISK. -/
theorem plan (h : Touched r x) {p : PlanRec} (hp : r.params = .plan p) : ∃ b, x.params = .plan { p with atRisk := b } := by
  rcases h.params with a | ⟨q, b, a, c⟩
  · exact ⟨p.atRisk, a.trans hp⟩
  · rw [hp] at a
    cases a
    exact ⟨b, c⟩

end Touched

theorem touched_mapRecord {r : Record} (s : CauseSet) (h : fnLane r.fn ≠ none) : Touched r (mapRecord s r) := by
  have base : ∀ st why, r.state = .granted ∨ r.state = .suspended → st = .granted ∨ st = .suspended →
      Touched r { r with state := st, reason := why } := fun st why hr hst =>
    { fields := rfl
      rests := fun hg hs => absurd hr (by simp [hg, hs])
      stands := fun _ => hst
      other := fun ho => absurd ho h
      params := .inl rfl }
  unfold mapRecord
  split
  · rename_i hs _
    exact base _ _ (.inl hs) (.inr rfl)
  · rename_i c hs _
    have e := base .suspended c (.inr hs) (.inr rfl)
    rwa [← hs] at e
  · rename_i hs _
    exact base _ _ (.inr hs) (.inl rfl)
  · exact .refl r

theorem touched_planAtRisk (b : Bool) (r : Record) : Touched r (planAtRisk b r) := by
  unfold planAtRisk
  split
  · rename_i p hp
    exact ⟨rfl, fun _ _ => ⟨rfl, rfl⟩, id, fun _ => ⟨rfl, rfl⟩, .inr ⟨p, _, hp, rfl⟩⟩
  · exact .refl r

/-! ## All records -/

/-- Every record is there as before, but for what a recomputation can make of it, and there is no other. -/
def TouchedAll (d e : Device) : Prop :=
  (∀ k, lookup d k = none → lookup e k = none) ∧
    ∀ k r, lookup d k = some r → ∃ x, lookup e k = some x ∧ Touched r x

theorem touchedAll_refl (d : Device) : TouchedAll d d := ⟨fun _ h => h, fun _ r h => ⟨r, h, .refl r⟩⟩

theorem TouchedAll.map {d e f : Device} (h : TouchedAll d e) (g : Handle → Record → Record) (hg : ∀ k r, Touched r (g k r))
    (hl : ∀ k, lookup f k = (lookup e k).map (g k)) : TouchedAll d f := by
  constructor
  · intro k hk
    rw [hl, h.1 k hk]
    rfl
  · intro k r hk
    obtain ⟨x, hx, ht⟩ := h.2 k r hk
    exact ⟨g k x, by rw [hl, hx]; rfl, ht.trans (hg k x)⟩

theorem TouchedAll.congr {d e f : Device} (h : TouchedAll d e) (ht : f.table = e.table) : TouchedAll d f :=
  h.map (fun _ r => r) (fun _ r => .refl r) fun k => by
    rw [lookup_congr (congrArg Table.slots ht)]
    exact Option.map_id_apply.symm

@[simp] theorem fnLane_laneFn (l : Lane) : fnLane (laneFn l) = some l := by cases l <;> rfl

theorem TouchedAll.setCause {d e : Device} (h : TouchedAll d e) (l : Lane) (f : CauseSet → CauseSet) :
    TouchedAll d (setCause (laneFn l) f e) := by
  by_cases c : f (causesOf e.table.causes (laneFn l)) = causesOf e.table.causes (laneFn l)
  · rwa [setCause_of_same c]
  · refine h.map (fun _ r => if r.fn = laneFn l then mapRecord (f (causesOf e.table.causes (laneFn l))) r else r) ?_
      (lookup_setCause_of_change c)
    intro _ r
    split
    · rename_i hf
      exact touched_mapRecord _ (by rw [hf, fnLane_laneFn]; nofun)
    · exact .refl r

theorem TouchedAll.revise {d e : Device} (h : TouchedAll d e) {f : Record → Record} (hf : ∀ r, Touched r (f r)) (k : Handle) :
    TouchedAll d (revise k f e) := by
  refine h.map (fun x r => if x = k then f r else r) ?_ ?_
  · intro x r
    split
    · exact hf r
    · exact .refl r
  · intro x
    rw [lookup_revise]
    split
    · rename_i hx
      rw [hx]
    · exact Option.map_id_apply.symm

theorem settled_touchedAll (d : Device) : Settled (TouchedAll d) where
  cause _ l f h := h.setCause l f
  atRisk _ k b h := h.revise (touched_planAtRisk b) k
  budget _ _ h := h.congr rfl
  cap _ h := h.congr (same_table (same_applyCap _))
  form _ h := h.congr (same_table (same_formPermissions _))
  stop _ h := h.congr (same_table (same_sendStop _))
  budgetFlag _ h := h.congr rfl

/-! ## The lamps' own values -/

/-- The values of every channel that no recomputation changes: it forms levels anew alone. -/
def LampsKept (x y : PerChannel Lamp) : Prop :=
  ∀ c, (y.get c).effective = (x.get c).effective ∧ (y.get c).ramp = (x.get c).ramp ∧
    (y.get c).fault = (x.get c).fault ∧ (y.get c).trip = (x.get c).trip

theorem lampsKept_refl (x : PerChannel Lamp) : LampsKept x x := fun _ => ⟨rfl, rfl, rfl, rfl⟩

theorem LampsKept.trans {x y z : PerChannel Lamp} (h : LampsKept x y) (k : LampsKept y z) : LampsKept x z := fun c => by
  obtain ⟨a1, a2, a3, a4⟩ := h c
  obtain ⟨b1, b2, b3, b4⟩ := k c
  exact ⟨b1.trans a1, b2.trans a2, b3.trans a3, b4.trans a4⟩

theorem get_imap {α β : Type} (f : Channel → α → β) (x : PerChannel α) (c : Channel) : (x.imap f).get c = f c (x.get c) := by
  cases c <;> rfl

theorem get_set_channel {α : Type} (x : PerChannel α) (a : α) (c k : Channel) :
    (x.set a c).get k = if k = c then a else x.get k := by
  cases c <;> cases k <;> rfl

theorem lampsKept_applyCap (d : Device) : LampsKept d.lamps (applyCap d).lamps := fun c => by
  unfold applyCap
  dsimp only
  rw [get_imap]
  exact ⟨rfl, rfl, rfl, rfl⟩

/-! ## What a recomputation leaves -/

/-- What a recomputation, and the hand-over of a lane's value, leave of table and lamps: queue, counter, reporting state,
the causes of the functions without a lane, and the lamps' own values. -/
structure Level (d e : Device) : Prop where
  queue : e.table.queue = d.table.queue
  counter : e.table.counter = d.table.counter
  quiet : e.table.quiet = d.table.quiet
  leaving : e.table.leaving = d.table.leaving
  causes : ∀ fn, fnLane fn = none → causesOf e.table.causes fn = causesOf d.table.causes fn
  lamps : LampsKept d.lamps e.lamps

namespace Level

variable {d e f : Device}

theorem refl (d : Device) : Level d d := ⟨rfl, rfl, rfl, rfl, fun _ _ => rfl, lampsKept_refl _⟩

theorem trans (h : Level d e) (k : Level e f) : Level d f where
  queue := k.queue.trans h.queue
  counter := k.counter.trans h.counter
  quiet := k.quiet.trans h.quiet
  leaving := k.leaving.trans h.leaving
  causes fn hf := (k.causes fn hf).trans (h.causes fn hf)
  lamps := h.lamps.trans k.lamps

theorem of_eq (ht : e.table = d.table) (hl : e.lamps = d.lamps) : Level d e := by
  refine ⟨by rw [ht], by rw [ht], by rw [ht], by rw [ht], fun _ _ => by rw [ht], by rw [hl]; exact lampsKept_refl _⟩

theorem of_same {bs : List Block} (h : sameExcept bs d e) (ht : Block.table ∉ bs := by decide)
    (hl : Block.lamps ∉ bs := by decide) : Level d e := of_eq (same_table h ht) (same_lamps h hl)

theorem revise (h : Handle) (g : Record → Record) (d : Device) : Level d (revise h g d) :=
  ⟨revise_queue h g d, revise_counter h g d, revise_quiet h g d, revise_leaving h g d,
    fun _ _ => by rw [revise_causes], by rw [same_lamps (same_revise h g d)]; exact lampsKept_refl _⟩

end Level

theorem level_calm (d : Device) : Calm (Level d) where
  cap e h := h.trans ⟨rfl, rfl, rfl, rfl, fun _ _ => rfl, lampsKept_applyCap e⟩
  fridge _ _ _ h := h.trans (.of_eq rfl rfl)
  heater _ _ _ _ _ h := h.trans (.of_eq rfl rfl)
  sched _ _ _ _ h := h.trans (.of_eq rfl rfl)
  heaterFlag _ h := h.trans (.of_eq rfl rfl)
  budgetFlag _ h := h.trans (.of_eq rfl rfl)
  budget _ _ h := h.trans (.of_eq rfl rfl)
  heat _ h := h.trans (.of_eq rfl rfl)
  cool _ h := h.trans (.of_eq rfl rfl)
  outlet _ h := h.trans (.of_eq rfl rfl)
  causes e s l h := h.trans ⟨rfl, rfl, rfl, rfl, fun fn hf => causesOf_setCauses_ne _ _ (fun c => by
    rw [c, fnLane_laneFn] at hf
    exact absurd hf nofun), lampsKept_refl _⟩
  remap _ _ _ h := h.trans (.revise _ _ _)
  atRisk _ _ _ h := h.trans (.revise _ _ _)

/-- What a recomputation leaves and makes of the records. -/
theorem level_recompute (d : Device) : Level d (recompute d) := (level_calm d).settled.recompute (.refl d)

theorem touchedAll_recompute (d : Device) : TouchedAll d (recompute d) :=
  (settled_touchedAll d).recompute (touchedAll_refl d)

theorem level_pushValue (l : Lane) (d : Device) : Level d (pushValue (laneFn l) d) := (level_calm d).pushValue l (.refl d)

/-- A record of a lane function, in some device, after a recomputation. -/
theorem lookup_recompute {d : Device} {h : Handle} {r : Record} (hr : lookup d h = some r) :
    ∃ x, lookup (recompute d) h = some x ∧ Touched r x := (touchedAll_recompute d).2 h r hr

/-- A record that no recomputation touches. -/
theorem lookup_recompute_other {d : Device} {h : Handle} {r : Record} (hr : lookup d h = some r) (ho : fnLane r.fn = none)
    (hp : ∀ p, r.params ≠ .plan p) : lookup (recompute d) h = some r := by
  obtain ⟨x, hx, t⟩ := lookup_recompute hr
  rw [hx, t.eq_of_other ho hp]

/-! ## Grants and deferrals -/

section
variable {d : Device} {h : Handle} {r : Record}

theorem lookup_grant (hr : lookup d h = some r) (w : Reason) (k : Handle) :
    lookup (grant h w d) k = if k = h then some (grantAs w (causesOf d.table.causes r.fn) r) else lookup d k := by
  unfold grant
  rw [hr]
  dsimp only
  rw [lookup_pushValue, lookup_revise, lookup_leaveQueue, lookup_leaveQueue, hr]
  rfl

theorem grant_queue (hr : lookup d h = some r) (w : Reason) :
    (grant h w d).table.queue = d.table.queue.filter fun x => x ≠ h := by
  unfold grant
  rw [hr]
  dsimp only
  rw [pushValue_table, revise_queue, leaveQueue_queue]

theorem grant_counter (w : Reason) : (grant h w d).table.counter = d.table.counter := by
  unfold grant
  split
  · rw [pushValue_table, revise_counter]
    rfl
  · rfl

/-- Apart from record and queue a grant of a lane record leaves what a recomputation leaves. -/
theorem grant_lamps {l : Lane} (hr : lookup d h = some r) (hf : r.fn = laneFn l) (w : Reason) :
    LampsKept d.lamps (grant h w d).lamps := by
  unfold grant
  rw [hr]
  dsimp only
  rw [hf]
  exact (Level.lamps ((Level.revise h _ (leaveQueue h d)).trans (level_pushValue l _)) : _)

theorem grantAs_state (w : Reason) (s : CauseSet) (r : Record) :
    (grantAs w s r).state = .granted ∨ (grantAs w s r).state = .suspended := by
  unfold grantAs mapRecord
  dsimp only
  split
  · exact .inr rfl
  · exact .inl rfl
  · exact .inl rfl
  · exact .inl rfl

theorem grantAs_fields (w : Reason) (s : CauseSet) (r : Record) :
    grantAs w s r = { r with state := (grantAs w s r).state, reason := (grantAs w s r).reason, deadline := none } := by
  unfold grantAs mapRecord
  dsimp only
  split <;> rfl

theorem grantAs_none (w : Reason) (r : Record) :
    grantAs w CauseSet.none r = { r with state := .granted, reason := w, deadline := none } := rfl

theorem lookup_defer (hr : lookup d h = some r) (hq : h ∉ d.table.queue) (w : Reason) (k : Handle) :
    lookup (defer h w d) k = if k = h then
      some { r with state := .deferred, reason := w, deadline := some (d.clock.sec + 60 * r.limit) } else lookup d k := by
  unfold defer
  rw [hr]
  dsimp only
  rw [lookup_congr (joinQueue_slots _ _), lookup_revise, hr]
  simp only [List.contains_eq_mem, hq, decide_false, Bool.false_eq_true, if_false, Option.map_some]

theorem defer_queue (hr : lookup d h = some r) (hq : h ∉ d.table.queue) (w : Reason) :
    (defer h w d).table.queue = d.table.queue ++ [h] := by
  unfold defer
  rw [hr]
  dsimp only
  rw [joinQueue_queue, revise_queue, if_neg hq]

theorem defer_counter (w : Reason) : (defer h w d).table.counter = d.table.counter := by
  unfold defer
  split
  · dsimp only
    rw [joinQueue_counter, revise_counter]
  · rfl

end

/-! ## Admission (R83) -/

theorem engages_iff (r : Record) :
    engages r = true ↔ r.state = .granted ∨ (r.state = .suspended ∧ r.reason = .budget) := by
  simp [engages]

/-- Admission grants a lane record. -/
def Admits (d : Device) (h : Handle) (l : Lane) (c : Class) : Prop :=
  (∃ hr ∈ records d, hr.1 ≠ h ∧ hr.2.fn = laneFn l ∧
    (hr.2.state = .granted ∨ (hr.2.state = .suspended ∧ hr.2.reason = .budget))) ∨ c ≠ .leisure ∨
    d.budget.mode = .charging ∨
    ((d.budget.mode = .nominal ∨ d.budget.mode = .curtailed ∨ d.budget.mode = .short) ∧
      0 ≤ (project d d.budget.modes d.budget.cap (some l)).m)

/-- The reason of a deferral. -/
def deferReason (m : BudgetMode) : Reason := if m = .lowVoltage ∨ m = .cutoff then .lowVoltage else .noMargin

theorem engaged_iff (d : Device) (l : Lane) (h : Handle) :
    engaged d l (some h) = true ↔ ∃ hr ∈ records d, hr.1 ≠ h ∧ hr.2.fn = laneFn l ∧
      (hr.2.state = .granted ∨ (hr.2.state = .suspended ∧ hr.2.reason = .budget)) := by
  unfold engaged
  rw [List.any_eq_true]
  refine exists_congr fun hr => and_congr_right fun _ => ?_
  simp only [Bool.and_eq_true, beq_iff_eq, engages_iff, bne_iff_ne, ne_eq, Option.some.injEq]
  exact ⟨fun ⟨⟨a, b⟩, c⟩ => ⟨c, a, b⟩, fun ⟨c, a, b⟩ => ⟨⟨a, b⟩, c⟩⟩

theorem decide83_eq (d : Device) (h : Handle) (l : Lane) (c : Class) :
    (Admits d h l c → decide83 d h l c = .granted) ∧
      (¬ Admits d h l c → decide83 d h l c = .deferred (deferReason d.budget.mode)) := by
  unfold decide83 Admits
  rw [← engaged_iff]
  by_cases he : engaged d l (some h) = true
  · rw [if_pos he]
    exact ⟨fun _ => rfl, fun n => absurd (.inl he) n⟩
  · rw [if_neg he]
    unfold testMargin
    cases c <;> cases hm : d.budget.mode <;> simp [he, deferReason]

theorem admission_granted {d : Device} {h : Handle} {l : Lane} {c : Class} (a : Admits d h l c) :
    admission h l c d = recompute (grant h .admitted d) := by
  unfold admission
  rw [(decide83_eq d h l c).1 a]

theorem admission_deferred {d : Device} {h : Handle} {l : Lane} {c : Class} (a : ¬ Admits d h l c) :
    admission h l c d = defer h (deferReason d.budget.mode) d := by
  unfold admission
  rw [(decide83_eq d h l c).2 a]

theorem admits_essential {d : Device} {h : Handle} {l : Lane} : Admits d h l .essential := .inr (.inl nofun)

/-- A lane record that admission grants: it meets the map before the recomputation and after it. -/
theorem touched_admitted {d : Device} {h : Handle} {r : Record} (hr : lookup d h = some r) :
    ∃ x, lookup (recompute (grant h .admitted d)) h = some x ∧
      Touched (grantAs .admitted (causesOf d.table.causes r.fn) r) x :=
  lookup_recompute ((lookup_grant hr .admitted h).trans (if_pos rfl))

theorem lookup_admitted {d : Device} {h : Handle} {r : Record} (hr : lookup d h = some r) :
    ∃ x, lookup (recompute (grant h .admitted d)) h = some x ∧ (x.state = .granted ∨ x.state = .suspended) ∧
      x = { r with state := x.state, reason := x.reason, deadline := none, params := x.params } ∧
      ((∀ p, r.params ≠ .plan p) → x.params = r.params) := by
  obtain ⟨x, hx, t⟩ := touched_admitted hr
  have hf := grantAs_fields .admitted (causesOf d.table.causes r.fn) r
  refine ⟨x, hx, t.stands (grantAs_state _ _ _), by rw [t.fields, hf], fun hp => ?_⟩
  rw [t.params_eq (by rw [hf]; exact hp), hf]

theorem admitted_queue {d : Device} {h : Handle} {r : Record} (hr : lookup d h = some r) :
    (recompute (grant h .admitted d)).table.queue = d.table.queue.filter fun x => x ≠ h := by
  rw [(level_recompute _).queue, grant_queue hr]

theorem startRecord_lane {d : Device} {h : Handle} {r : Record} {l : Lane} (hr : lookup d h = some r) (hf : r.fn = laneFn l) :
    startRecord h d = admission h l r.cls d := by
  unfold startRecord
  rw [hr]
  dsimp only
  rw [hf, fnLane_laneFn]

theorem beginRecord_lane {d : Device} {h : Handle} {r : Record} {l : Lane} (hr : lookup d h = some r) (hf : r.fn = laneFn l) :
    beginRecord h d = admission h l r.cls d := by
  rw [← startRecord_lane hr hf]
  unfold beginRecord
  rw [hr]
  dsimp only
  rw [hf]
  cases l <;> rfl

theorem beginRecord_lamp {d : Device} {h : Handle} {r : Record} {c : Channel} (hr : lookup d h = some r) (hf : r.fn = .lamp c) :
    beginRecord h d = recompute (grant h .immediate d) := by
  unfold beginRecord startRecord
  rw [hr]
  dsimp only
  rw [hf]
  rfl

theorem beginRecord_rest {d : Device} {h : Handle} {r : Record} {dr : Driver} (hr : lookup d h = some r) (hf : r.fn = .rest dr) :
    beginRecord h d = takePlan dr h (grant h .immediate d) := by
  unfold beginRecord startRecord
  rw [hr]
  dsimp only
  rw [hf]
  rfl

/-! ## Retirement of a record that is no plan (R14) -/

theorem retireRecord_plain {d : Device} {h : Handle} {r : Record} (hr : lookup d h = some r) (hd : restDriver r.fn = none)
    (w : RetireReason) (how : Report) :
    retireRecord h w how d = recompute (dropRecord h (noticeStation d r) w how d) := by
  unfold retireRecord
  rw [hr]
  dsimp only
  rw [hd]

theorem dropRecord_slots {d : Device} {h : Handle} {r : Record} (hr : lookup d h = some r) (st : Option Station)
    (w : RetireReason) (how : Report) :
    (dropRecord h st w how d).table.slots = d.table.slots.set h.slot ⟨nextGen h.gen, none⟩ := by
  unfold dropRecord
  rw [hr]
  dsimp only
  rw [pushValue_table, same_table (same_reportRetired _ _ _ _ _ _)]
  unfold leaveQueue freeSlot
  dsimp only
  rw [List.getD_eq_getElem?_getD, slot_of_lookup hr]
  rfl

theorem dropRecord_queue {d : Device} {h : Handle} {r : Record} (hr : lookup d h = some r) (st : Option Station)
    (w : RetireReason) (how : Report) :
    (dropRecord h st w how d).table.queue = d.table.queue.filter fun x => x ≠ h := by
  unfold dropRecord
  rw [hr]
  dsimp only
  rw [pushValue_table, same_table (same_reportRetired _ _ _ _ _ _)]
  rfl

/-- The slot that a record has left, through what a recomputation does. -/
theorem slot_of_dropped {d e : Device} {h : Handle} {r : Record} (hr : lookup d h = some r) (st : Option Station)
    (w : RetireReason) (how : Report) (ho : occupancy e = occupancy (dropRecord h st w how d)) :
    e.table.slots[h.slot]? = some ⟨nextGen h.gen, none⟩ := by
  refine free_of_occupancy ho ?_
  rw [dropRecord_slots hr]
  refine List.getElem?_set_self ?_
  exact (List.getElem?_eq_some_iff.mp (slot_of_lookup hr)).1

end Sys2Proof.Machine
end

section
/-! PROOF. Start times, end times and deadlines (R10, R11, R16, R17, R83). -/

namespace Sys2Proof.Machine
open Sys2Proof

/-- A timer of a record that has come does its work. -/
theorem onDue_of_due {test : Nat → Record → Bool} {h : Handle} {f : Device → Device} {d : Device} {r : Record}
    (hr : lookup d h = some r) (ht : test d.clock.sec r = true) : onDue test h f d = f d := by
  unfold onDue
  rw [hr]
  exact if_pos ht

theorem reached_of_le {now t : Nat} (h : t ≤ now) : reached now (some t) = true := decide_eq_true h

theorem answers_recordStart {s : State} {h : Handle} {r : Record} {t : Nat} {post : Device → Prop} (live : s.dev.inReset = false)
    (hr : lookup s.dev h = some r) (hs : r.state = .scheduled) (ht : r.start = some t) (due : t ≤ s.dev.clock.sec)
    (hp : post (beginRecord h s.dev)) : Answers (.recordStart h) s post := by
  refine answers_onPart (f := onDue startDue h (beginRecord h)) rfl live ?_
  rw [onDue_of_due hr]
  · exact hp
  · rw [startDue, hs, ht, reached_of_le due]
    rfl

theorem answers_recordEnd {s : State} {h : Handle} {r : Record} {t : Nat} {post : Device → Prop} (live : s.dev.inReset = false)
    (hr : lookup s.dev h = some r) (hs : r.state ≠ .scheduled) (ht : r.endAt = some t) (due : t ≤ s.dev.clock.sec)
    (hp : post (retireRecord h .ended .entered s.dev)) : Answers (.recordEnd h) s post := by
  refine answers_onPart (f := onDue endDue h (retireRecord h .ended .entered)) rfl live ?_
  rw [onDue_of_due hr]
  · exact hp
  · rw [endDue, ht, reached_of_le due, Bool.and_true, bne_iff_ne]
    exact hs

theorem answers_deferExpired {s : State} {h : Handle} {r : Record} {t : Nat} {post : Device → Prop} (live : s.dev.inReset = false)
    (hr : lookup s.dev h = some r) (hs : r.state = .deferred) (ht : r.deadline = some t) (due : t ≤ s.dev.clock.sec)
    (hp : post (retireRecord h .deferExpired .entered s.dev)) : Answers (.deferExpired h) s post := by
  refine answers_onPart (f := onDue deadlineDue h (retireRecord h .deferExpired .entered)) rfl live ?_
  rw [onDue_of_due hr]
  · exact hp
  · rw [deadlineDue, hs, ht, reached_of_le due]
    rfl

theorem same_retireRecord_plain {d : Device} {h : Handle} {r : Record} (hr : lookup d h = some r) (hd : restDriver r.fn = none)
    (w : RetireReason) (how : Report) : sameExcept budgetReach d (retireRecord h w how d) := by
  rw [retireRecord_plain hr hd]
  exact same_mono (same_then (bs := budgetBlocks) (same_mono (same_dropRecord h _ w how d)) (same_recompute _))

/-- What a retirement of a record that is no plan leaves. -/
theorem retireRecord_gone {d : Device} {h : Handle} {r : Record} (hr : lookup d h = some r) (hd : restDriver r.fn = none)
    (w : RetireReason) (how : Report) :
    (retireRecord h w how d).table.slots[h.slot]? = some ⟨if h.gen ≥ 255 then 1 else h.gen + 1, none⟩ ∧
      lookup (retireRecord h w how d) h = none ∧ h ∉ (retireRecord h w how d).table.queue ∧
      sameExcept budgetReach d (retireRecord h w how d) := by
  refine ⟨?_, ?_, ?_, same_retireRecord_plain hr hd w how⟩
  · rw [retireRecord_plain hr hd]
    exact slot_of_dropped hr _ w how (occupancy_recompute _)
  · rw [retireRecord_plain hr hd]
    exact lookup_none_recompute ((lookup_dropRecord hr _ w how h).trans (if_pos rfl))
  · rw [retireRecord_plain hr hd, (level_recompute _).queue, dropRecord_queue hr]
    exact not_mem_leaveQueue h d

theorem same_recompute_grant (h : Handle) (w : Reason) (d : Device) : sameExcept budgetReach d (recompute (grant h w d)) :=
  same_mono (same_then (bs := budgetBlocks) (same_mono (same_grant h w d)) (same_recompute _))

/-- Settles O36: each timer hands its record to the table's own operation. -/
theorem timesMoveRecords : Obligations.TimesMoveRecords := by
  unfold Obligations.TimesMoveRecords
  refine ⟨fun s h r t live hr hs ht due => ⟨fun c l hf hp hc => ?_, fun l hf => ⟨fun a => ?_, fun a hq => ?_⟩⟩,
    fun s h r t live hr hd due => ⟨fun hs ht => ?_, fun hs ht => ?_⟩⟩
  · refine answers_recordStart live hr hs ht due ?_
    rw [beginRecord_lamp hr hf]
    refine ⟨?_, same_recompute_grant h _ _⟩
    refine lookup_recompute_other ?_ (by rw [hf]; rfl) (by rw [hp]; exact fun _ => nofun)
    rw [lookup_grant hr, if_pos rfl, show causesOf s.dev.table.causes r.fn = CauseSet.none by rw [hf, hc], grantAs_none]
  · refine answers_recordStart live hr hs ht due ?_
    rw [beginRecord_lane hr hf]
    have same := same_admission h l r.cls s.dev
    rw [admission_granted a] at same ⊢
    obtain ⟨x, hx, hst, hfields, -⟩ := lookup_admitted hr
    refine ⟨⟨x, hx, hst, by rw [hfields]⟩, ?_, same_mono same⟩
    rw [admitted_queue hr]
    exact not_mem_leaveQueue h s.dev
  · refine answers_recordStart live hr hs ht due ?_
    rw [beginRecord_lane hr hf, admission_deferred a]
    exact ⟨(lookup_defer hr hq _ h).trans (if_pos rfl), defer_queue hr hq _, same_defer h _ _⟩
  · exact answers_recordEnd live hr hs ht due (retireRecord_gone hr hd _ _)
  · exact answers_deferExpired live hr hs ht due (retireRecord_gone hr hd _ _)

end Sys2Proof.Machine
end

section
/-! PROOF. What the answer of a request carries, and what stands in one station's notice set through a recomputation. -/

namespace Sys2Proof.Machine
open Sys2Proof

/-! ## Answers -/

theorem answerAfter_stations (old : Device) (st : Station) (ty : Byte) (code : AnswerCode) (spec : AnswerSpec) (d : Device) :
    (answerAfter old st ty code spec d).link.stations = d.link.stations := by
  unfold answerAfter
  split <;> rfl

theorem answerAfter_table (old : Device) (st : Station) (ty : Byte) (code : AnswerCode) (spec : AnswerSpec) (d : Device) :
    (answerAfter old st ty code spec d).table = d.table := same_table (same_answerAfter old st ty code spec d)

@[simp] theorem lookup_answerAfter (old : Device) (st : Station) (ty : Byte) (code : AnswerCode) (spec : AnswerSpec) (d : Device)
    (k : Handle) : lookup (answerAfter old st ty code spec d) k = lookup d k :=
  lookup_congr (congrArg Table.slots (answerAfter_table old st ty code spec d)) k

theorem specBytes_link {d e : Device} (st : Station) (spec : AnswerSpec) (h : sameExcept [.link] d e) :
    specBytes e st spec = specBytes d st spec := specBytes_congr st spec (same_mono h)

/-- An answer that may be held carries what it reads in the state that it leaves. -/
theorem replied_answerAfter {s : Device} (old : Device) (st : Station) (ty : Byte) (code : AnswerCode) (spec : AnswerSpec)
    {d : Device} (hw : d.heater.waiting = s.heater.waiting) :
    Replied st ty code spec s (answerAfter old st ty code spec d) := by
  have bytes : specBytes (answerAfter old st ty code spec d) st spec = specBytes d st spec :=
    specBytes_link st spec (same_answerAfter old st ty code spec d)
  unfold Replied AnsweredFrame HeldFrame
  rw [bytes]
  constructor
  · intro free
    rw [answerAfter_free _ _ _ _ _ old (hw.trans free)]
    exact ⟨rfl, rfl⟩
  · unfold answerAfter
    split
    · exact .inr ⟨rfl, rfl⟩
    · exact .inl ⟨rfl, rfl⟩

/-- A request whose work leaves `e`: its answer, sent or held, changes the link port alone, beyond the stations' records. -/
theorem answers_acted {i : Instr} {s : State} {st : Station} {f : Station → Device → Device} {post : Device → Prop}
    {old e : Device} {ty : Byte} {code : AnswerCode} {spec : AnswerSpec} (he : exec i s = onPart (serve f) s)
    (hp : Polled st s.dev) (hf : f st (opened st s.dev) = answerAfter old st ty code spec e)
    (hw : e.heater.waiting = s.dev.heater.waiting)
    (h : ∀ d, d.link.stations = e.link.stations → sameExcept [.link] e d → Replied st ty code spec s.dev d → post d) :
    Answers i s post :=
  answers_served he hp (hf ▸ h _ (answerAfter_stations old st ty code spec e) (same_answerAfter old st ty code spec e)
    (replied_answerAfter old st ty code spec hw))

theorem lookup_of_same {d e : Device} (h : sameExcept [.link] d e) (k : Handle) : lookup e k = lookup d k :=
  lookup_congr (congrArg Table.slots (same_table h)) k

/-! ## One station's set -/

/-- A revised record changes a station's record by its mark alone. -/
theorem revise_station (h : Handle) (f : Record → Record) (d : Device) (st : Station) :
    (revise h f d).link.stations.get st = d.link.stations.get st ∨
      (lookup d h).isSome = true ∧ (revise h f d).link.stations.get st = markEntry h (d.link.stations.get st) := by
  cases hr : lookup d h with
  | none => exact .inl (by rw [revise_of_none f hr])
  | some r =>
    rw [revise_of_some f hr]
    split
    · exact .inl rfl
    · unfold mark
      split
      · exact .inl rfl
      · split
        · split
          · next o _ =>
            by_cases ho : st = o
            · subst ho
              exact .inr ⟨rfl, PerStation_get_set _ _ _⟩
            · exact .inl (PerStation_get_set_ne _ _ ho)
          · exact .inl rfl
        · exact .inl rfl

theorem isSome_revise (h : Handle) (f : Record → Record) (d : Device) (k : Handle) :
    (lookup (revise h f d) k).isSome = (lookup d k).isSome := by
  rw [lookup_revise]
  split
  · rename_i hk
    rw [hk, Option.isSome_map]
  · rfl

/-- What the general flags leave of a station's record. -/
def FlagFree (Q : StationLink → Prop) : Prop :=
  ∀ (p : StationLink) (f : Flags → Flags), (f = heaterFlag ∨ f = budgetFlag) → Q p → Q { p with flags := f p.flags }

/-- The live handles lie in a set, and one station's record has a property. -/
def Standing (T : Handle → Prop) (st : Station) (Q : StationLink → Prop) (e : Device) : Prop :=
  (∀ k, (lookup e k).isSome = true → T k) ∧ Q (e.link.stations.get st)

section
variable {T : Handle → Prop} {st : Station} {Q : StationLink → Prop} {e f : Device}

theorem Standing.congr (h : Standing T st Q e) (ht : f.table.slots = e.table.slots) (hl : f.link.stations = e.link.stations) :
    Standing T st Q f :=
  ⟨fun k hk => h.1 k (by rwa [lookup_congr ht] at hk), by rw [hl]; exact h.2⟩

theorem Standing.raiseFlag (h : Standing T st Q e) (hf : FlagFree Q) {g : Flags → Flags} (hg : g = heaterFlag ∨ g = budgetFlag) :
    Standing T st Q (raiseFlag g e) := by
  refine ⟨h.1, ?_⟩
  have hs : (Machine.raiseFlag g e).link.stations.get st = flagStation g (e.link.stations.get st) := PerStation_get_map _ _ _
  rw [hs]
  unfold flagStation
  split
  · exact hf _ g hg h.2
  · exact h.2

theorem Standing.revise (h : Standing T st Q e) (hm : ∀ p k, T k → Q p → Q (markEntry k p)) (k : Handle)
    (g : Record → Record) : Standing T st Q (revise k g e) := by
  refine ⟨fun x hx => h.1 x (by rwa [isSome_revise] at hx), ?_⟩
  rcases revise_station k g e st with hs | ⟨hk, hs⟩
  · rw [hs]
    exact h.2
  · rw [hs]
    exact hm _ k (h.1 k hk) h.2

theorem calm_standing (hf : FlagFree Q) (hm : ∀ p k, T k → Q p → Q (markEntry k p)) : Calm (Standing T st Q) where
  cap _ h := h.congr rfl rfl
  fridge _ _ _ h := h.congr rfl rfl
  heater _ _ _ _ _ h := h.congr rfl rfl
  sched _ _ _ _ h := h.congr rfl rfl
  heaterFlag _ h := h.raiseFlag hf (.inl rfl)
  budgetFlag _ h := h.raiseFlag hf (.inr rfl)
  budget _ _ h := h.congr rfl rfl
  heat _ h := h.congr rfl rfl
  cool _ h := h.congr rfl rfl
  outlet _ h := h.congr rfl rfl
  causes _ _ _ h := h.congr rfl rfl
  remap _ _ _ h := h.revise hm _ _
  atRisk _ _ _ h := h.revise hm _ _

end

/-- The set does not name a handle. -/
def Unnamed (h : Handle) (p : StationLink) : Prop := .live h ∉ p.entries

theorem flagFree_unnamed (h : Handle) : FlagFree (Unnamed h) := fun _ _ _ k => k

theorem makeRoom_sublist (es : List Entry) : (makeRoom es).Sublist es := by
  unfold makeRoom
  split
  · exact dropOldestRetired_sublist es
  · exact List.drop_sublist 1 es

theorem unnamed_mark {h k : Handle} {p : StationLink} (hk : k ≠ h) (u : Unnamed h p) : Unnamed h (markEntry k p) := by
  unfold markEntry
  split
  · exact u
  · split
    · exact u
    · obtain ⟨es, sub, eq⟩ := joinEntry_entries (.live k) p
      unfold Unnamed
      rw [eq, List.mem_append, List.mem_singleton]
      rintro (m | m)
      · exact u (sub.subset m)
      · exact hk (Entry.live.inj m).symm

/-- An entry has been put into the set, and where it is gone again the set is full with RESYNC (R43). -/
def Reported (E : Entry) (p : StationLink) : Prop :=
  E ∈ p.entries ∨ (64 ≤ p.entries.length ∧ p.flags.resync = true)

theorem flagFree_reported (E : Entry) : FlagFree (Reported E) := by
  intro p f hf h
  refine h.imp_right fun ⟨a, b⟩ => ⟨a, ?_⟩
  rcases hf with rfl | rfl <;> exact b

theorem reported_join {E e : Entry} {p : StationLink} (h : Reported E p) : Reported E (joinEntry e p) := by
  unfold joinEntry
  split
  · rename_i full
    have full : 64 ≤ p.entries.length := full
    refine .inr ⟨?_, rfl⟩
    rw [List.length_append, List.length_singleton, length_makeRoom]
    omega
  · rename_i room
    refine .inl ?_
    rcases h with h | ⟨h, -⟩
    · exact List.mem_append_left _ h
    · exact absurd h room

theorem reported_mark {E : Entry} {k : Handle} {p : StationLink} (h : Reported E p) : Reported E (markEntry k p) := by
  unfold markEntry
  split
  · exact h
  · split
    · exact h
    · exact reported_join h

theorem mem_join_self (e : Entry) (p : StationLink) : e ∈ (joinEntry e p).entries := by
  obtain ⟨es, -, eq⟩ := joinEntry_entries e p
  rw [eq]
  exact List.mem_append_right _ (List.mem_singleton_self e)

theorem mem_convert_self {h : Handle} {e : Entry} : ∀ {es : List Entry}, .live h ∈ es → e ∈ convertEntry h e es
  | x :: xs, m => by
    unfold convertEntry
    split
    · exact List.mem_cons_self
    · rename_i hx
      exact List.mem_cons_of_mem x (mem_convert_self ((List.mem_cons.mp m).resolve_left (Ne.symm hx)))

/-- A retirement that no answer reports stands in the ONLINE owner's set. -/
theorem mem_retireEntry {h : Handle} {fn : Fn} {w : RetireReason} {p : StationLink} (on : p.link = .online) :
    .retired h fn w ∈ (retireEntry h fn w p).entries := by
  unfold retireEntry
  rw [if_neg (not_not.mpr on)]
  split
  · rename_i m
    exact mem_convert_self (List.contains_iff_mem.mp m)
  · exact mem_join_self _ p

theorem unnamed_dropEntry (h : Handle) (p : StationLink) : Unnamed h (dropEntry h p) := by
  unfold Unnamed dropEntry
  simp

/-! ## The set that a retirement reaches -/

theorem standing_pushValue {T : Handle → Prop} {st : Station} {Q : StationLink → Prop} {d : Device} (hf : FlagFree Q)
    (hm : ∀ p k, T k → Q p → Q (markEntry k p)) (fn : Fn) (h : Standing T st Q d) : Standing T st Q (pushValue fn d) := by
  cases fn with
  | heater => exact (calm_standing hf hm).pushValue .heat h
  | fridge => exact (calm_standing hf hm).pushValue .cool h
  | outlet => exact (calm_standing hf hm).pushValue .aux h
  | lamp c => exact h.congr rfl rfl
  | rest dr => exact h

/-- What a retirement puts into a set, or takes out of it, stands after the recomputation that follows. -/
theorem station_of_dropped {d : Device} {h : Handle} {r : Record} (hr : lookup d h = some r) (o : Option Station)
    (w : RetireReason) (how : Report) (st : Station) {Q : StationLink → Prop} (hf : FlagFree Q)
    (hm : ∀ p k, k ≠ h → Q p → Q (markEntry k p)) (hq : Q ((reportRetired o h r.fn w how d).link.stations.get st)) :
    Q ((recompute (dropRecord h o w how d)).link.stations.get st) := by
  have live : ∀ k, (lookup (reportRetired o h r.fn w how (leaveQueue h (freeSlot h.slot d))) k).isSome = true → k ≠ h := by
    intro k hk
    rw [lookup_congr (congrArg Table.slots (same_table (same_reportRetired o h r.fn w how _))), lookup_leaveQueue,
      lookup_freeSlot hr] at hk
    rintro rfl
    rw [if_pos rfl] at hk
    exact absurd hk (by decide)
  have stations : (reportRetired o h r.fn w how (leaveQueue h (freeSlot h.slot d))).link.stations =
      (reportRetired o h r.fn w how d).link.stations := by
    unfold reportRetired
    split <;> rfl
  have start : Standing (fun k => k ≠ h) st Q (reportRetired o h r.fn w how (leaveQueue h (freeSlot h.slot d))) :=
    ⟨live, by rw [stations]; exact hq⟩
  have dropped : Standing (fun k => k ≠ h) st Q (dropRecord h o w how d) := by
    unfold dropRecord
    rw [hr]
    exact standing_pushValue hf hm r.fn start
  exact ((calm_standing hf hm).settled.recompute dropped).2

end Sys2Proof.Machine
end

section
/-! PROOF. RETIRE (R6, R14, R18) and the end of a plan (R186). -/

namespace Sys2Proof.Machine
open Sys2Proof

variable {d : Device} {h : Handle} {r : Record} {dr : Driver}

/-! ## The end of a ramp and of a call -/

/-- Call and ramp have ended, the first steps of the end of a plan (R186). -/
def rested (dr : Driver) (d : Device) : Device :=
  endRamp dr (if (d.plans.get dr).call = .calling then stopBunk dr d else d)

theorem same_rested (dr : Driver) (d : Device) : sameExcept [.plans, .lamps, .accounts] d (rested dr d) := by
  unfold rested
  exact same_then (same_ite (same_mono (same_stopBunk dr d)) (same_refl _ d)) (same_endRamp dr _)

theorem rampEnd_ramp (dr : Driver) (d : Device) (c : Channel) : ((rampEnd dr d).lamps.get c).ramp.get dr = none := by
  unfold rampEnd
  dsimp only
  rw [get_imap]
  split
  · exact PerDriver_get_set _ _ _
  · rename_i hn
    exact Option.isNone_iff_eq_none.mp (Option.isSome_eq_false_iff.mp (Bool.eq_false_iff.mpr hn))

theorem endRamp_ramp (hr : (d.plans.get dr).ramp ≠ .none) (c : Channel) : ((endRamp dr d).lamps.get c).ramp.get dr = none := by
  unfold endRamp
  rw [if_neg hr]
  exact rampEnd_ramp dr _ c

theorem endRamp_accounts (dr : Driver) (d : Device) : (endRamp dr d).accounts = d.accounts :=
  same_accounts (same_endRamp dr d)

theorem endRamp_plans_ne (d : Device) {x : Driver} (hx : x ≠ dr) : (endRamp dr d).plans.get x = d.plans.get x := by
  unfold endRamp
  split
  · rfl
  · exact PerDriver_get_set_ne _ _ hx

theorem rested_plans_ne (d : Device) {x : Driver} (hx : x ≠ dr) : (rested dr d).plans.get x = d.plans.get x := by
  unfold rested
  rw [endRamp_plans_ne _ hx]
  split <;> rfl

theorem rested_ramp (hr : (d.plans.get dr).ramp ≠ .none) (c : Channel) : ((rested dr d).lamps.get c).ramp.get dr = none := by
  refine endRamp_ramp ?_ c
  split <;> exact hr

theorem rested_bunk (hc : (d.plans.get dr).call = .calling) : ((rested dr d).accounts.get dr).bunkUntil = none := by
  unfold rested
  rw [if_pos hc, endRamp_accounts]
  exact congrArg Account.bunkUntil (PerDriver_get_set _ _ _)

theorem rested_accounts (hc : (d.plans.get dr).call ≠ .calling) : (rested dr d).accounts = d.accounts := by
  unfold rested
  rw [if_neg hc, endRamp_accounts]

/-! ## What the unit of an ended plan leaves -/

theorem unwound_of_some {how : Report} (hh : how ≠ .silent) (st : Option Station) {g : Nat} {i : Record}
    (hs : d.table.slots[internalSlot dr]? = some ⟨g, some i⟩) :
    unwound dr st how d = recompute (dropRecord ⟨internalSlot dr, g⟩ st .planEnded .entered (rested dr d)) := by
  unfold unwound
  dsimp only
  rw [show (endRamp dr (if (d.plans.get dr).call = .calling then stopBunk dr d else d)).table = d.table from
    same_table (same_rested dr d), hs]
  dsimp only
  rw [if_pos (Option.isSome_some), if_neg hh, if_neg hh]
  rfl

theorem unwound_of_free (st : Option Station) (how : Report) (hs : (d.table.slots[internalSlot dr]?).bind Slot.rcd = none) :
    unwound dr st how d = rested dr d := by
  unfold unwound
  dsimp only
  rw [show (endRamp dr (if (d.plans.get dr).call = .calling then stopBunk dr d else d)).table = d.table from
    same_table (same_rested dr d)]
  split
  · rename_i s e
    rw [e] at hs
    rw [if_neg (by rw [show s.rcd = none from hs]; decide)]
    rfl
  · rfl

theorem pushValue_ramp (fn : Fn) (d : Device) (c : Channel) : ((pushValue fn d).lamps.get c).ramp = (d.lamps.get c).ramp := by
  cases fn with
  | heater => exact ((level_pushValue .heat d).lamps c).2.1
  | fridge => exact ((level_pushValue .cool d).lamps c).2.1
  | outlet => exact ((level_pushValue .aux d).lamps c).2.1
  | rest dr => rfl
  | lamp k =>
    show ((d.lamps.set _ k).get c).ramp = _
    rw [get_set_channel]
    split
    · rename_i hc
      rw [hc]
      rfl
    · rfl

theorem dropRecord_ramp (h : Handle) (st : Option Station) (w : RetireReason) (how : Report) (d : Device) (c : Channel) :
    ((dropRecord h st w how d).lamps.get c).ramp = (d.lamps.get c).ramp := by
  unfold dropRecord
  split
  · rw [pushValue_ramp, same_lamps (same_reportRetired _ _ _ _ _ _)]
    rfl
  · rfl

/-- An occupied slot's record is the one that its handle names, but for the generation 0. -/
theorem lookup_of_slot {i g : Nat} {x : Record} (hs : d.table.slots[i]? = some ⟨g, some x⟩) (hi : i ≤ 47) (hg : g ≠ 0) :
    lookup d ⟨i, g⟩ = some x := lookup_eq_some_iff.mpr ⟨hi, hg, hs⟩

theorem internalSlot_le (dr : Driver) : internalSlot dr ≤ 47 := by cases dr <;> decide

/-- What `d`'s plan unit has undone in `e`: the INTERNAL record's slot is free and no other slot's generation or occupancy
has changed. -/
structure Undone (dr : Driver) (d e : Device) : Prop where
  free : (e.table.slots[internalSlot dr]?).bind Slot.rcd = none
  others : ∀ i, i ≠ internalSlot dr → (occupancy e)[i]? = (occupancy d)[i]?
  plans : ∀ x, x ≠ dr → e.plans.get x = d.plans.get x
  ramp : (d.plans.get dr).ramp ≠ .none → ∀ c, (e.lamps.get c).ramp.get dr = none
  bunk : (d.plans.get dr).call = .calling → (e.accounts.get dr).bunkUntil = none
  accounts : (d.plans.get dr).call ≠ .calling → e.accounts = d.accounts

theorem undone_unwound (st : Option Station) {how : Report} (hh : how ≠ .silent)
    (hg : ∀ g i, d.table.slots[internalSlot dr]? = some ⟨g, some i⟩ → g ≠ 0) : Undone dr d (unwound dr st how d) := by
  by_cases hs : (d.table.slots[internalSlot dr]?).bind Slot.rcd = none
  · rw [unwound_of_free st how hs]
    have ht : (rested dr d).table = d.table := same_table (same_rested dr d)
    exact {
      free := by rw [ht]; exact hs
      others := fun i _ => by rw [occupancy, ht]; rfl
      plans := fun x hx => rested_plans_ne d hx
      ramp := rested_ramp
      bunk := rested_bunk
      accounts := rested_accounts }
  · obtain ⟨i, hi⟩ := Option.ne_none_iff_exists'.mp hs
    obtain ⟨⟨g, rcd⟩, hx, rfl : rcd = some i⟩ := Option.bind_eq_some_iff.mp hi
    rw [unwound_of_some hh st hx]
    have hx' : (rested dr d).table.slots[internalSlot dr]? = some ⟨g, some i⟩ := by
      rw [same_table (same_rested dr d)]
      exact hx
    have hl : lookup (rested dr d) ⟨internalSlot dr, g⟩ = some i := lookup_of_slot hx' (internalSlot_le dr) (hg g i hx)
    have same : sameExcept budgetBlocks (rested dr d)
        (recompute (dropRecord ⟨internalSlot dr, g⟩ st .planEnded .entered (rested dr d))) :=
      same_then (bs := budgetBlocks) (same_mono (same_dropRecord _ _ _ _ _)) (same_recompute _)
    exact {
      free := by
        rw [slot_of_dropped (h := ⟨internalSlot dr, g⟩) hl st .planEnded .entered (occupancy_recompute _)]
        rfl
      others := fun k hk => by
        rw [occupancy_recompute, occupancy_getElem?, dropRecord_slots hl, List.getElem?_set_ne (Ne.symm hk),
          occupancy_getElem?, same_table (same_rested dr d)]
      plans := fun x hx => by
        rw [same_plans same]
        exact rested_plans_ne d hx
      ramp := fun hr c => by
        rw [((level_recompute _).lamps c).2.1, dropRecord_ramp]
        exact rested_ramp hr c
      bunk := fun hc => by
        rw [same_accounts same]
        exact rested_bunk hc
      accounts := fun hc => by
        rw [same_accounts same]
        exact rested_accounts hc }

/-! ## Retirement of a plan -/

/-- A departing plan's mark. -/
def leavingMark (h : Handle) (st : Option Station) (d : Device) : Device :=
  { d with table := { d.table with leaving := st.map fun s => (h, s) } }

/-- The table once a plan's record has left it, before the plan unit's work. -/
def planDropped (h : Handle) (r : Record) (w : RetireReason) (how : Report) (d : Device) : Device :=
  recompute (dropRecord h (noticeStation d r) w how (leavingMark h (noticeStation d r) d))

theorem retireRecord_rest (hr : lookup d h = some r) (hf : r.fn = .rest dr) (w : RetireReason) (how : Report) :
    retireRecord h w how d =
      let e := endPlan dr (noticeStation d r) how (planDropped h r w how d)
      { e with table := { e.table with leaving := none } } := by
  unfold retireRecord
  rw [hr]
  dsimp only
  rw [hf]
  rfl

theorem lookup_leavingMark (h : Handle) (st : Option Station) (d : Device) (k : Handle) :
    lookup (leavingMark h st d) k = lookup d k := rfl

theorem planDropped_occupancy (hr : lookup d h = some r) (w : RetireReason) (how : Report) :
    occupancy (planDropped h r w how d) = (occupancy d).set h.slot (nextGen h.gen, false) := by
  unfold planDropped
  rw [occupancy_recompute, occupancy, dropRecord_slots (d := leavingMark h (noticeStation d r) d) hr, List.map_set]
  rfl

theorem same_planDropped (h : Handle) (r : Record) (w : RetireReason) (how : Report) (d : Device) :
    sameExcept budgetBlocks d (planDropped h r w how d) := by
  refine same_then (same_then (same_then ?_ (same_dropRecord _ _ _ _ _)) (same_recompute _)) (same_refl [] _)
  intro b hb
  cases b <;> first | rfl | exact absurd (by decide) hb

theorem planDropped_ramp (h : Handle) (r : Record) (w : RetireReason) (how : Report) (d : Device) (c : Channel) :
    ((planDropped h r w how d).lamps.get c).ramp = (d.lamps.get c).ramp := by
  unfold planDropped
  rw [((level_recompute _).lamps c).2.1, dropRecord_ramp]
  rfl

theorem gen_ne_zero (ht : TableOk d) {i : Nat} {s : Slot} (hs : d.table.slots[i]? = some s) : s.gen ≠ 0 := by
  have := (ht.2.1 s (List.mem_of_getElem? hs)).1
  omega

/-- What the retirement of a driver's plan makes of table, plan units, ramps, call and accounts. -/
structure PlanGone (dr : Driver) (h : Handle) (d e : Device) : Prop where
  slot : e.table.slots[h.slot]? = some ⟨if h.gen ≥ 255 then 1 else h.gen + 1, none⟩
  gone : lookup e h = none
  free : (e.table.slots[internalSlot dr]?).bind Slot.rcd = none
  unit : e.plans.get dr = PlanUnit.empty
  plans : ∀ x, x ≠ dr → e.plans.get x = d.plans.get x
  ramp : (d.plans.get dr).ramp ≠ .none → ∀ c, (e.lamps.get c).ramp.get dr = none
  bunk : (d.plans.get dr).call = .calling → (e.accounts.get dr).bunkUntil = none
  accounts : (d.plans.get dr).call ≠ .calling → e.accounts = d.accounts

theorem retireRecord_planGone (ht : TableOk d) (hr : lookup d h = some r) (hf : r.fn = .rest dr) (low : h.slot < 46)
    (w : RetireReason) {how : Report} (hh : how ≠ .silent) : PlanGone dr h d (retireRecord h w how d) := by
  have occ := planDropped_occupancy hr w how
  have apart : h.slot ≠ internalSlot dr := fun c => absurd (internalSlot_ge dr) (by omega)
  have inBounds : h.slot < (occupancy d).length := by
    rw [occupancy, List.length_map]
    exact (List.getElem?_eq_some_iff.mp (slot_of_lookup hr)).1
  have gens : ∀ g i, (planDropped h r w how d).table.slots[internalSlot dr]? = some ⟨g, some i⟩ → g ≠ 0 := by
    intro g i hs
    have hk := occupancy_getElem? (planDropped h r w how d) (internalSlot dr)
    rw [occ, List.getElem?_set_ne apart, occupancy_getElem?, hs] at hk
    obtain ⟨s, hs', hg⟩ := Option.map_eq_some_iff.mp hk
    obtain ⟨hg, -⟩ := Prod.mk.inj hg
    exact fun c => gen_ne_zero ht hs' (hg.trans c)
  have u := undone_unwound (d := planDropped h r w how d) (noticeStation d r) hh gens
  have same := same_planDropped h r w how d
  have plans : (planDropped h r w how d).plans = d.plans := same_plans same
  have slot : (unwound dr (noticeStation d r) how (planDropped h r w how d)).table.slots[h.slot]? =
      some ⟨nextGen h.gen, none⟩ := by
    have hk := u.others h.slot apart
    rw [occ, List.getElem?_set_self inBounds, occupancy_getElem?] at hk
    obtain ⟨⟨g, rcd⟩, hs, hg⟩ := Option.map_eq_some_iff.mp hk
    obtain ⟨rfl, hn⟩ := Prod.mk.inj hg
    rw [hs, show rcd = none from Option.isNone_iff_eq_none.mp (Option.isSome_eq_false_iff.mp hn)]
  rw [retireRecord_rest hr hf, endPlan_eq]
  exact {
    slot := slot
    gone := by
      show lookup (unwound dr (noticeStation d r) how (planDropped h r w how d)) h = none
      unfold lookup
      rw [slot]
      split
      · dsimp only
        split <;> rfl
      · rfl
    free := u.free
    unit := PerDriver_get_set _ _ _
    plans := fun x hx => by
      show ((unwound dr (noticeStation d r) how (planDropped h r w how d)).plans.set _ dr).get x = _
      rw [PerDriver_get_set_ne _ _ hx, u.plans x hx, plans]
    ramp := fun hr' c => u.ramp (by rw [plans]; exact hr') c
    bunk := fun hc => u.bunk (by rw [plans]; exact hc)
    accounts := fun hc => (u.accounts (by rw [plans]; exact hc)).trans (same_accounts same) }

theorem noticeStation_of_owner {o : Station} (ho : r.owner = .station o) : noticeStation d r = some o := by
  unfold noticeStation
  rw [ho]

/-- The retired entry of a plan's INTERNAL record goes to the plan's ONLINE owner (R186). -/
theorem retireRecord_internalEntry (ht : TableOk d) (hr : lookup d h = some r) (hf : r.fn = .rest dr) (low : h.slot < 46)
    (w : RetireReason) {how : Report} (hh : how ≠ .silent) {o : Station} (ho : r.owner = .station o) {g : Nat} {i : Record}
    (hi : d.table.slots[internalSlot dr]? = some ⟨g, some i⟩) (on : (d.link.stations.get o).link = .online) :
    Reported (.retired ⟨internalSlot dr, g⟩ i.fn .planEnded) ((retireRecord h w how d).link.stations.get o) := by
  have apart : (⟨internalSlot dr, g⟩ : Handle) ≠ h := fun c => by
    have := internalSlot_ge dr
    rw [← c] at low
    exact absurd low (by simpa using this)
  have live : lookup d ⟨internalSlot dr, g⟩ = some i := lookup_of_slot hi (internalSlot_le dr) (gen_ne_zero ht hi)
  obtain ⟨x, hx, t⟩ : ∃ x, lookup (planDropped h r w how d) ⟨internalSlot dr, g⟩ = some x ∧ Touched i x :=
    lookup_recompute ((lookup_dropRecord (d := leavingMark h (noticeStation d r) d) hr _ w how _).trans
      ((if_neg apart).trans live))
  have online : ((planDropped h r w how d).link.stations.get o).link = .online := by
    have s : Steady (leavingMark h (noticeStation d r) d) (planDropped h r w how d) :=
      (steady _).recompute ((steady _).dropRecord _ _ _ _ (.refl _))
    rw [s.online]
    exact on
  have same := same_rested dr (planDropped h r w how d)
  have hx' : lookup (rested dr (planDropped h r w how d)) ⟨internalSlot dr, g⟩ = some x := by
    rw [lookup_congr (congrArg Table.slots (same_table same))]
    exact hx
  rw [retireRecord_rest hr hf, endPlan_eq, noticeStation_of_owner ho]
  show Reported _ ((unwound dr (some o) how (planDropped h r w how d)).link.stations.get o)
  rw [unwound_of_some hh (some o) (slot_of_lookup hx)]
  refine station_of_dropped hx' (some o) .planEnded .entered o (flagFree_reported _) (fun _ _ _ => reported_mark) ?_
  rw [← t.fn]
  refine .inl ?_
  rw [show (reportRetired (some o) ⟨internalSlot dr, g⟩ x.fn .planEnded .entered
      (rested dr (planDropped h r w how d))).link.stations.get o = _ from PerStation_get_set _ _ _]
  refine mem_retireEntry ?_
  rw [same_link same]
  exact online

/-! ## RETIRE (R18) -/

/-- A RETIRE that its checks accept. -/
theorem retire_accepted {st : Station} {w : Word16} {win : Window} (hh : handleOfWord w = h) (hr : lookup d h = some r)
    (hw : windowOf d st r.fn = some win)
    (may : win.rights.retireAny = true ∨ (win.rights.retireOwn = true ∧ r.owner = .station st)) (own : r.owner ≠ .internal) :
    retire (some w) st d = answerAfter d st 0x14#8 .ok (.bytes (handleBytes h))
      (retireRecord h .request (if isOwn st r then .own else .entered) d) := by
  subst hh
  unfold retire
  dsimp only
  rw [resolve_ok hr hw]
  dsimp only
  rw [if_neg, if_neg own]
  rw [← isOwn_iff (r := r)] at may
  rcases may with a | ⟨a, b⟩
  · simp [a]
  · simp [a, b]

theorem retire_refused {st : Station} {w : Word16} {win : Window} (hr : lookup d (handleOfWord w) = some r)
    (hw : windowOf d st r.fn = some win)
    (no : ¬ (win.rights.retireAny = true ∨ (win.rights.retireOwn = true ∧ r.owner = .station st)) ∨ r.owner = .internal) :
    retire (some w) st d = refuse st 0x14#8 .noRight d := by
  unfold retire
  dsimp only
  rw [resolve_ok hr hw]
  dsimp only
  split
  · rfl
  · rename_i may
    rw [if_pos]
    refine no.resolve_left (not_not.mpr ?_)
    rw [← isOwn_iff (r := r)]
    exact Decidable.or_iff_not_imp_left.mpr (by simpa using may)

theorem retire_unresolved {st : Station} {w : Word16} {c : AnswerCode} (h : resolve d st w = .error c) :
    retire (some w) st d = refuse st 0x14#8 c d := by
  unfold retire
  dsimp only
  rw [h]

/-- A retirement leaves the heater's wait for the store. -/
theorem retireRecord_waiting (h : Handle) (w : RetireReason) (how : Report) (d : Device) :
    (retireRecord h w how d).heater.waiting = d.heater.waiting := ((steady d).retireRecord h w how (.refl d)).waiting

/-- The retirement of a plain record takes its live entry out of the set of the owner that asks for it. -/
theorem retireRecord_own_entry (hr : lookup d h = some r) (hd : restDriver r.fn = none) {st : Station}
    (ho : r.owner = .station st) : .live h ∉ ((retireRecord h .request .own d).link.stations.get st).entries := by
  rw [retireRecord_plain hr hd, noticeStation_of_owner ho]
  refine station_of_dropped hr (some st) .request .own st (flagFree_unnamed h) (fun _ _ => unnamed_mark) ?_
  rw [show (reportRetired (some st) h r.fn .request .own d).link.stations.get st = _ from PerStation_get_set _ _ _]
  exact unnamed_dropEntry h _

/-- The retirement of another station's plain record stands in the set of its ONLINE owner. -/
theorem retireRecord_entry (hr : lookup d h = some r) (hd : restDriver r.fn = none) {o : Station} (w : RetireReason)
    (ho : r.owner = .station o) (on : (d.link.stations.get o).link = .online) :
    Reported (.retired h r.fn w) ((retireRecord h w .entered d).link.stations.get o) := by
  rw [retireRecord_plain hr hd, noticeStation_of_owner ho]
  refine station_of_dropped hr (some o) w .entered o (flagFree_reported _) (fun _ _ _ => reported_mark) (.inl ?_)
  rw [show (reportRetired (some o) h r.fn w .entered d).link.stations.get o = _ from PerStation_get_set _ _ _]
  exact mem_retireEntry on

/-- Every other slot keeps its generation and its occupancy. -/
theorem retireRecord_others (hr : lookup d h = some r) (hd : restDriver r.fn = none) (w : RetireReason) (how : Report) {i : Nat}
    (hi : i ≠ h.slot) :
    ((retireRecord h w how d).table.slots[i]?).map (fun x => (x.gen, x.rcd.isSome)) =
      (d.table.slots[i]?).map fun x => (x.gen, x.rcd.isSome) := by
  rw [← occupancy_getElem?, ← occupancy_getElem?, retireRecord_plain hr hd, occupancy_recompute, occupancy_getElem?,
    dropRecord_slots hr, List.getElem?_set_ne (Ne.symm hi), occupancy_getElem?]

theorem opened_online (st o : Station) (d : Device) :
    ((opened st d).link.stations.get o).link = ((afterReply st d).get o).link := rfl

theorem afterReply_ne (d : Device) {st o : Station} (h : o ≠ st) : (afterReply st d).get o = d.link.stations.get o :=
  PerStation_get_set_ne _ _ h

/-- Settles O18: the retirement's own rules, carried over the opening of the poll and the answer. -/
theorem retireFreesTheSlot : Obligations.RetireFreesTheSlot := by
  unfold Obligations.RetireFreesTheSlot
  refine ⟨?_, ?_, ?_⟩
  · intro s st w r win h hp hr hd hw
    refine ⟨fun own may => ?_, fun own => refused_served rfl hp (retire_refused (d := opened st s.dev) hr hw (.inr own))⟩
    refine answers_acted rfl hp (retire_accepted (d := opened st s.dev) (h := h) rfl hr hw may own)
      (retireRecord_waiting h _ _ _) fun d stations same replied => ?_
    have all := same_then (same_trans (same_mono (same_opened st s.dev)) (same_retireRecord_plain (d := opened st s.dev)
      hr hd .request (if isOwn st r then .own else .entered))) same
    obtain ⟨slot, gone, queue, -⟩ := retireRecord_gone (d := opened st s.dev) hr hd .request
      (if isOwn st r then .own else .entered)
    rw [lookup_of_same same, same_table same, stations]
    refine ⟨slot, gone, queue, fun i hi => retireRecord_others (d := opened st s.dev) hr hd .request _ hi, fun ho => ?_,
      fun o ho hne on => ?_, replied, same_settings all, same_store all, same_bank all, same_accounts all, same_plans all,
      same_vehicle all, same_clock all⟩
    · rw [if_pos (isOwn_iff.mpr ho)]
      exact retireRecord_own_entry (d := opened st s.dev) hr hd ho
    · rw [if_neg (fun c => hne (Owner.station.inj (ho.symm.trans (isOwn_iff.mp c))))]
      refine retireRecord_entry (d := opened st s.dev) hr hd .request ho ?_
      rw [opened_online, afterReply_ne _ hne]
      exact on
  · intro s st w r win dr h slot hp ht hr hf low own hw may
    refine answers_acted rfl hp (retire_accepted (d := opened st s.dev) (h := h) rfl hr hw may own)
      (retireRecord_waiting h _ _ _) fun d stations same replied => ?_
    have loud : (if isOwn st r then Report.own else .entered) ≠ .silent := by split <;> nofun
    have hslot : slot = internalSlot dr := by cases dr <;> rfl
    have all := same_then (same_trans (same_mono (same_opened st s.dev)) (same_retireRecord h .request
      (if isOwn st r then .own else .entered) (opened st s.dev))) same
    have g := retireRecord_planGone (d := opened st s.dev) ht hr hf low .request loud
    rw [hslot, lookup_of_same same, same_table same, stations, same_plans same, same_lamps same, same_accounts same]
    exact ⟨g.slot, g.gone, g.free, g.unit,
      fun o gen i ho hi on => retireRecord_internalEntry (d := opened st s.dev) ht hr hf low .request loud ho hi on,
      g.plans, g.ramp, g.bunk, g.accounts, replied, same_mono all⟩
  · intro s st w hp
    refine ⟨fun hr => ?_, fun r hr => ⟨fun hw => ?_, fun win hw no => ?_⟩⟩
    · exact refused_served rfl hp (retire_unresolved (resolve_stale (d := opened st s.dev) hr))
    · exact refused_served rfl hp (retire_unresolved (resolve_unmapped (d := opened st s.dev) hr hw))
    · exact refused_served rfl hp (retire_refused (d := opened st s.dev) hr hw no)

end Sys2Proof.Machine
end

section
/-! PROOF. Power-on (R191, R193): with an empty table nothing but budget, permissions, the heater's mark and lockout and the
causes moves, and the first recomputation advances from position 0 in a projection mode (R80). -/

namespace Sys2Proof.Machine
open Sys2Proof

/-! ## The part as its blocks start -/

/-- The states in which power-on leaves the heater (R131). -/
def Dormant (H : HeaterState) : Prop := H = .off ∨ H = .lockout ∨ H = .purge

/-- What the blocks' start leaves, and the first recomputation does not change: an empty table, no station ONLINE, no lamp
lit, the fridge in GUARD, the heater dormant in `H`, and the scheduler in slot 0 of frame 0. -/
structure Bare (c : Settings) (H : HeaterState) (d : Device) : Prop where
  slots : d.table.slots = List.replicate 48 ⟨1, none⟩
  counter : d.table.counter = 0
  queue : d.table.queue = []
  link : d.link = (startDevice c blankStore quietLeads).link
  lamps : d.lamps = (startDevice c blankStore quietLeads).lamps
  fridge : d.fridge = (startDevice c blankStore quietLeads).fridge
  heater : d.heater = { startHeater with state := H }
  sched : ∃ p g, d.sched = { (startDevice c blankStore quietLeads).sched with perm := p, glowStart := g }

theorem recordsFrom_replicate (g : Nat) : ∀ (n k : Nat), recordsFrom k (List.replicate n ⟨g, none⟩) = []
  | 0, _ => rfl
  | n + 1, k => recordsFrom_replicate g n (k + 1)

namespace Bare

variable {c : Settings} {H : HeaterState} {d : Device} (b : Bare c H d)
include b

theorem records : records d = [] := by
  unfold Machine.records
  rw [b.slots]
  exact recordsFrom_replicate 1 48 0

theorem lookup (k : Handle) : lookup d k = none := by
  unfold Machine.lookup
  split
  · rw [b.slots]
    split
    · rename_i s hs
      obtain rfl := (List.mem_replicate.mp (List.mem_of_getElem? hs)).2
      exact ite_self none
    · rfl
  · rfl

theorem revise (h : Handle) (f : Record → Record) : revise h f d = d := revise_of_none f (b.lookup h)

theorem granted (fn : Fn) : grantedOf d fn = [] := by
  unfold grantedOf
  rw [b.records]
  rfl

/-- Bare in all but budget, causes and the blocks that a recomputation cannot reach. -/
theorem congr {e : Device} (ht : e.table = { d.table with causes := e.table.causes }) (hl : e.link = d.link)
    (hm : e.lamps = d.lamps) (hf : e.fridge = d.fridge) (hh : e.heater = d.heater)
    (hs : ∃ p g, e.sched = { d.sched with perm := p, glowStart := g }) : Bare c H e where
  slots := by rw [ht]; exact b.slots
  counter := by rw [ht]; exact b.counter
  queue := by rw [ht]; exact b.queue
  link := hl.trans b.link
  lamps := hm.trans b.lamps
  fridge := hf.trans b.fridge
  heater := hh.trans b.heater
  sched := by
    obtain ⟨p, g, hp⟩ := hs
    obtain ⟨q, f, hq⟩ := b.sched
    exact ⟨p, g, by rw [hp, hq]⟩

theorem causes (x : CauseMap) : Bare c H { d with table := { d.table with causes := x } } :=
  b.congr rfl rfl rfl rfl rfl ⟨d.sched.perm, d.sched.glowStart, rfl⟩

theorem setBudget (f : Budget → Budget) : Bare c H (setBudget f d) := b.congr rfl rfl rfl rfl rfl ⟨d.sched.perm, d.sched.glowStart, rfl⟩

theorem pushValue (l : Lane) : pushValue (laneFn l) d = d := by
  cases l with
  | heat =>
    have hv : heatValue d = none := congrArg (greatest setpointOf) (b.granted .heater)
    have hd : d.heater.demand = none := by rw [b.heater]; rfl
    have he : { d.heater with demand := none } = d.heater := by rw [← hd]
    show pushHeat d = d
    unfold pushHeat
    dsimp only
    rw [hv, hd]
    dsimp only
    rw [he]
  | cool =>
    have hv : coolValue d = none :=
      congrArg (fun l => (greatest (fun r => (targetOf r).map Neg.neg) l).map Neg.neg) (b.granted .fridge)
    have hd : d.fridge.target = none := by rw [b.fridge]; rfl
    have he : { d.fridge with target := none } = d.fridge := by rw [← hd]
    show pushCool d = d
    unfold pushCool
    dsimp only
    rw [hv, hd]
    dsimp only
    rw [he]
  | aux =>
    have hv : outletValue d = false := congrArg (fun l => !List.isEmpty l) (b.granted .outlet)
    obtain ⟨p, g, hp⟩ := b.sched
    have he : { d.sched with outletOn := false, outletClosed := d.sched.perm.aux && false } = d.sched := by
      rw [hp, Bool.and_false]
      rfl
    show handOutlet (outletValue d) d = d
    rw [hv]
    unfold handOutlet setOutlet
    dsimp only
    rw [he]

/-- A cause change reaches no record. -/
theorem setCause (l : Lane) (f : CauseSet → CauseSet) :
    setCause (laneFn l) f d = { d with table := { d.table with
      causes := setCauses d.table.causes (f (causesOf d.table.causes (laneFn l))) (laneFn l) } } := by
  by_cases same : f (causesOf d.table.causes (laneFn l)) = causesOf d.table.causes (laneFn l)
  · rw [setCause_of_same same, same]
    cases l <;> rfl
  · rw [setCause_of_change same]
    unfold applyMap
    dsimp only
    rw [(b.causes _).records]
    exact (b.causes _).pushValue l

theorem keeps_setCause (l : Lane) (f : CauseSet → CauseSet) : Bare c H (Machine.setCause (laneFn l) f d) := by
  rw [b.setCause]
  exact b.causes _

/-- Forming the permissions moves the permissions alone. -/
theorem formPermissions (quiet : Dormant H) :
    formPermissions d = { d with sched := { d.sched with perm := ⟨formed d .heat, formed d .cool, formed d .aux⟩ } } := by
  obtain ⟨p, g, hp⟩ := b.sched
  have off : d.sched.outletOn = false := by rw [hp]; rfl
  have closed : d.sched.outletClosed = false := by rw [hp]; rfl
  have state : d.heater.state ≠ .run := by
    rw [b.heater]
    rintro (rfl : H = .run)
    rcases quiet with h | h | h <;> cases h
  have guard : d.fridge.state = .guard := by rw [b.fridge]; rfl
  have drop : ∀ x : Sched, dropStep { d with sched := x } = { d with sched := x } := fun x => if_neg fun k => state k.1
  have force : ∀ x : Sched, forceStop { d with sched := x } = { d with sched := x } := fun x =>
    if_neg (show d.fridge.state ≠ .running by rw [guard]; nofun)
  have grant : ∀ x : Sched, grantCool { d with sched := x } = { d with sched := x } := fun x =>
    if_neg (show d.fridge.state ≠ .waiting by rw [guard]; nofun)
  have gone : ∀ new : PerLane Bool, withdraw new d = { d with sched := { d.sched with
      perm := ⟨d.sched.perm.heat && new.heat, d.sched.perm.cool && new.cool, d.sched.perm.aux && new.aux⟩ } } := fun new => by
    unfold withdraw
    dsimp only
    rw [drop, ite_self, force, ite_self]
    unfold setOutlet
    dsimp only
    rw [off, Bool.and_false, ← closed]
  have begun : ∀ (x : Sched) (new : PerLane Bool), x.outletOn = false → x.outletClosed = false →
      bestow new { d with sched := x } = { d with sched := { x with perm := new } } := fun x new ho hc => by
    unfold bestow
    dsimp only
    rw [grant, ite_self]
    unfold setOutlet
    dsimp only
    rw [ho, Bool.and_false, ← hc]
  unfold Machine.formPermissions
  dsimp only
  rw [gone]
  exact begun _ _ off closed

theorem keeps_formPermissions (quiet : Dormant H) : Bare c H (Machine.formPermissions d) := by
  rw [b.formPermissions quiet]
  exact b.congr rfl rfl rfl rfl rfl ⟨_, d.sched.glowStart, rfl⟩

theorem sendStop (quiet : Dormant H) : sendStop d = d := by
  have free : d.heater.waiting = false := by rw [b.heater]; rfl
  have state : d.heater.state = H := by rw [b.heater]
  unfold Machine.sendStop stopHeater
  rw [if_neg (by rw [free]; decide), state]
  rcases quiet with rfl | rfl | rfl <;> rfl

theorem applyCap : applyCap d = d := by
  have hl : d.lamps.imap (fun _ l => capLamp d.budget.cap l) = d.lamps := by
    rw [b.lamps]
    have one : capLamp d.budget.cap startLamp = startLamp := by
      unfold capLamp formLamp targetBefore startLamp
      simp
    show (⟨_, _, _, _, _, _⟩ : PerChannel Lamp) = ⟨_, _, _, _, _, _⟩
    simp only [startDevice, one]
  unfold Machine.applyCap
  rw [hl]

/-- No station is ONLINE, so that no flag is raised. -/
theorem raiseFlag (f : Flags → Flags) : raiseFlag f d = d := by
  have none : ∀ x : StationSettings, flagStation f (startStation x) = startStation x := by
    intro x
    have off : (startStation x).link ≠ .online := by
      unfold startStation
      dsimp only
      split <;> nofun
    exact if_neg off
  have hs : d.link.stations.map (flagStation f) = d.link.stations := by
    rw [b.link]
    simp only [startDevice, PerStation.map, none]
  unfold Machine.raiseFlag
  rw [hs]

end Bare

theorem settled_bare (c : Settings) {H : HeaterState} (quiet : Dormant H) : Settled (Bare c H) where
  cause _ l f b := b.keeps_setCause l f
  atRisk _ h k b := by rwa [b.revise]
  budget _ _ b := b.setBudget fun _ => _
  cap _ b := by rwa [b.applyCap]
  form _ b := b.keeps_formPermissions quiet
  stop _ b := by rwa [b.sendStop quiet]
  budgetFlag _ b := by rwa [b.raiseFlag]

/-! ## The first recomputation -/

/-- A computation reads settings, bank, clock, lamps, the lanes that are engaged and the plans (R73 to R78). -/
theorem project_congr {d e : Device} (hs : e.settings = d.settings) (hb : e.bank = d.bank) (hc : e.clock = d.clock)
    (hl : e.lamps = d.lamps) (he : ∀ l, engaged e l none = engaged d l none) (hp : planRecords e = planRecords d)
    (modes : PerLane LaneMode) (cap : Nat) (extra : Option Lane) : project e modes cap extra = project d modes cap extra := by
  have term : ∀ l, laneTerm e modes extra l = laneTerm d modes extra l := fun l => by
    unfold laneTerm laneCost laneCount activeTable
    rw [he, hs]
  unfold project usableCharge lampTerm horizonOf reserveOf
  simp only [term, hs, hb, hc, hl, hp]

theorem project_of_same {bs : List Block} {d e : Device} (h : sameExcept bs d e) (hr : records e = records d)
    (modes : PerLane LaneMode) (cap : Nat) (extra : Option Lane) (hs : Block.settings ∉ bs := by decide)
    (hb : Block.bank ∉ bs := by decide) (hc : Block.clock ∉ bs := by decide) (hl : Block.lamps ∉ bs := by decide) :
    project e modes cap extra = project d modes cap extra :=
  project_congr (h _ hs) (h _ hb) (h _ hc) (h _ hl) (fun l => by unfold engaged; rw [hr]) (by unfold planRecords; rw [hr])
    modes cap extra

/-- An advance takes the steps that it must: up to the first position whose margin is not below 0, or to the last (R80). -/
theorem advancePosition_spec (d : Device) : ∀ (fuel pos : Nat), pos ≤ d.budget.ladder.length →
    let x := advancePosition d fuel pos
    pos ≤ x ∧ x ≤ d.budget.ladder.length ∧ (∀ n, pos ≤ n → n < x → (projectAt d n none).m < 0) ∧
      (d.budget.ladder.length ≤ fuel + pos → 0 ≤ (projectAt d x none).m ∨ x = d.budget.ladder.length)
  | 0, pos, h => ⟨Nat.le_refl _, h, fun n a b => absurd b (by unfold advancePosition; omega), fun f => .inr (by
      unfold advancePosition
      omega)⟩
  | fuel + 1, pos, h => by
    unfold advancePosition
    by_cases c : (projectAt d pos none).m < 0 ∧ pos < d.budget.ladder.length
    · simp only [if_pos c]
      obtain ⟨a, b, short, enough⟩ := advancePosition_spec d fuel (pos + 1) c.2
      refine ⟨by omega, b, fun n h1 h2 => ?_, fun f => enough (by omega)⟩
      by_cases hn : n = pos
      · rw [hn]
        exact c.1
      · exact short n (by omega) h2
    · simp only [if_neg c]
      refine ⟨Nat.le_refl _, h, fun n a b => absurd b (by omega), fun _ => ?_⟩
      by_cases m : (projectAt d pos none).m < 0
      · exact .inr (by omega)
      · exact .inl (by omega)

theorem handModes_budget_eq (m : PerLane LaneMode) (d : Device) : (handModes m d).budget = { d.budget with modes := m } := by
  unfold handModes
  dsimp only
  split
  · rename_i h
    rw [← h]
  · split
    · rw [same_budget (same_sendStop _), same_budget (same_formPermissions _)]
      rfl
    · rw [same_budget (same_formPermissions _)]
      rfl

theorem handCap_budget_eq (n : Nat) (d : Device) : (handCap n d).budget = { d.budget with cap := n } := by
  unfold handCap
  split
  · rename_i h
    rw [← h]
  · rfl

theorem projectionMode_ne_cutoff (m : Int) (pos : Nat) : projectionMode m pos ≠ .cutoff := by
  unfold projectionMode
  split
  · nofun
  · split <;> nofun

/-- What a recomputation ends with that stands in no regime and takes the steps that it must. -/
def projected (d : Device) : Budget :=
  let pos := advancePosition d d.budget.ladder.length d.budget.position
  let p := projectAt d pos none
  { ladder := d.budget.ladder
    position := pos
    modes := modesAt d.budget.ladder pos
    cap := capAt d.budget.ladder pos
    mode := projectionMode p.m pos
    proj := p
    tminBelow := decide (p.tmin < 60) }

theorem recomputeCore_bare {c : Settings} {H : HeaterState} {d : Device} (b : Bare c H d) (regime : regimeOf d = none)
    (mode : d.budget.mode = .nominal) : (recomputeCore d).budget = projected d ∧
      (recomputeCore d).table.causes.heater.lockout = d.table.causes.heater.lockout := by
  have stay : takeRegime none d = d := by
    unfold takeRegime
    dsimp only
    rw [if_neg (show d.budget.mode ≠ .cutoff by rw [mode]; nofun), if_neg (fun h => nomatch h.1)]
    unfold setBudget regimePosition
    dsimp only [Option.getD]
    rw [← mode]
  have risk : ∀ e : Device, Bare c H e → setAtRisk e = e := fun e be => by
    unfold setAtRisk
    rw [be.records]
    rfl
  have adv : advance none d = setBudget (fun x => { x with
      position := (projected d).position
      mode := (projected d).mode }) d := rfl
  have be := b.setBudget fun x => { x with position := (projected d).position, mode := (projected d).mode }
  have hand : ∀ e : Device, e.budget.mode ≠ .cutoff → handOn e = syncBudgetCause (modesAt e.budget.ladder e.budget.position)
      (handCap (capAt e.budget.ladder e.budget.position) (handModes (modesAt e.budget.ladder e.budget.position) e)) :=
    fun e he => by
      unfold handOn
      rw [if_neg he]
  have here : ∀ e : Device, e.budget.mode ≠ .cutoff → projectHere e = projectAt e e.budget.position none := fun e he => by
    unfold projectHere
    rw [if_neg he]
  have notCut : (projected d).mode ≠ .cutoff := projectionMode_ne_cutoff _ _
  unfold recomputeCore
  dsimp only
  rw [regime, stay, adv, risk _ be, hand _ notCut, here _ notCut]
  constructor
  · unfold storeProjection setBudget syncBudgetCause
    rw [budget_onLanes, handCap_budget_eq, handModes_budget_eq]
    rfl
  · unfold storeProjection setBudget syncBudgetCause
    have h := congrArg CauseSet.lockout (causesOf_onLanes
      (fun l => causeBudget ((modesAt d.budget.ladder (projected d).position).get l == .off))
      (handCap (capAt d.budget.ladder (projected d).position) (handModes (modesAt d.budget.ladder (projected d).position)
        (Machine.setBudget (fun x => { x with position := (projected d).position, mode := (projected d).mode }) d))) .heat)
    rw [(handCap_budget _ _).1, handModes_table] at h
    exact h

/-! ## The heater's mark and lockout (R131) -/

/-- The state in which power-on leaves the heater. -/
def startState (c : Settings) : HeaterState :=
  if c.combustionMark then .purge else if c.lockout = .none then .off else .lockout

theorem dormant_startState (c : Settings) : Dormant (startState c) := by
  unfold startState
  split
  · exact .inr (.inr rfl)
  · split
    · exact .inl rfl
    · exact .inr (.inl rfl)

theorem bare_start (c : Settings) (x : Store) (l : Leads) : Bare c .off (rebuildLadder (startDevice c x l)) :=
  ⟨rfl, rfl, rfl, rfl, rfl, rfl, rfl, ⟨_, _, rfl⟩⟩

/-- The heater in its start state, with LOCKOUT where a lockout is stored. -/
def woken (c : Settings) (d : Device) : Device :=
  let d := { d with heater := { d.heater with state := startState c } }
  if c.lockout = .none then d
  else { d with table := { d.table with causes := { d.table.causes with heater := causeLockout true d.table.causes.heater } } }

theorem bare_woken {c : Settings} {d : Device} (b : Bare c .off d) : Bare c (startState c) (woken c d) := by
  have s : Bare c (startState c) { d with heater := { d.heater with state := startState c } } :=
    ⟨b.slots, b.counter, b.queue, b.link, b.lamps, b.fridge, by rw [b.heater], b.sched⟩
  unfold woken
  dsimp only
  split
  · exact s
  · exact s.causes _

theorem startHeaterFrom_eq {c : Settings} {d : Device} (b : Bare c .off d) (hs : d.settings = c) :
    startHeaterFrom d = match c.combustionMark, c.lockout with
      | false, .pending r => askWrite (.lockout (.inForce r)) .nothing (woken c d)
      | _, _ => woken c d := by
  have state : (if c.combustionMark then setHeat (fun h => { h with state := .purge }) d
      else if c.lockout = .none then d else setHeat (fun h => { h with state := .lockout }) d) =
      { d with heater := { d.heater with state := startState c } } := by
    unfold startState setHeat
    split
    · rfl
    · split
      · rw [show { d.heater with state := HeaterState.off } = d.heater by rw [b.heater]]
      · rfl
  have s : Bare c (startState c) { d with heater := { d.heater with state := startState c } } :=
    ⟨b.slots, b.counter, b.queue, b.link, b.lamps, b.fridge, by rw [b.heater], b.sched⟩
  have cause : (if c.lockout = .none then { d with heater := { d.heater with state := startState c } }
      else setCause .heater (causeLockout true) { d with heater := { d.heater with state := startState c } }) = woken c d := by
    unfold woken
    dsimp only
    split
    · rfl
    · exact s.setCause .heat _
  unfold startHeaterFrom
  dsimp only
  rw [hs, state, cause] <;> rfl

/-- The heater's start leaves what it does not ask to write. -/
theorem woken_facts (c : Settings) (d : Device) : (woken c d).settings = d.settings ∧ (woken c d).budget = d.budget ∧
    (woken c d).store = d.store ∧ (woken c d).bank = d.bank ∧ (woken c d).vehicle = d.vehicle ∧ (woken c d).clock = d.clock ∧
    sameExcept [.heater, .table] d (woken c d) := by
  unfold woken
  dsimp only
  split
  · refine ⟨rfl, rfl, rfl, rfl, rfl, rfl, fun b hb => ?_⟩
    cases b <;> first | rfl | exact absurd (by decide) hb
  · refine ⟨rfl, rfl, rfl, rfl, rfl, rfl, fun b hb => ?_⟩
    cases b <;> first | rfl | exact absurd (by decide) hb

end Sys2Proof.Machine
end

section
/-! PROOF. Power-on starts every block (O4). -/

namespace Sys2Proof.Machine
open Sys2Proof

theorem Bare.store {c : Settings} {H : HeaterState} {d : Device} (b : Bare c H d) (x : Store) : Bare c H { d with store := x } :=
  ⟨b.slots, b.counter, b.queue, b.link, b.lamps, b.fridge, b.heater, b.sched⟩

/-- The part before its first recomputation, as power-on has it from a loaded set. -/
structure Started (c : Settings) (x : Store) (l : Leads) (d : Device) : Prop where
  bare : Bare c (startState c) d
  same : sameExcept [.heater, .table, .store] (rebuildLadder (startDevice c x l)) d
  lockout : d.table.causes.heater.lockout = decide (c.lockout ≠ .none)
  defaulted : d.store.defaulted = x.defaulted
  pending : ∀ r, c.combustionMark = false → c.lockout = .pending r →
    d.store.jobs = [⟨.lockout (.inForce r), .nothing⟩] ∧ d.store.writing ≠ none
  idle : (c.combustionMark = true ∨ ∀ r, c.lockout ≠ .pending r) → d.store.jobs = [] ∧ d.store.writing = none

theorem defaulted_beginWrite (d : Device) : (beginWrite d).store.defaulted = d.store.defaulted := by
  unfold beginWrite
  split
  · cases targetImage d.store <;> rfl
  · rfl

theorem started_startHeaterFrom (c : Settings) (x : Store) (l : Leads) (hj : x.jobs = []) (hw : x.writing = none) :
    Started c x l (startHeaterFrom (rebuildLadder (startDevice c x l))) := by
  have b := bare_start c x l
  obtain ⟨hs, hb, hx, -, -, -, same⟩ := woken_facts c (rebuildLadder (startDevice c x l))
  have lock : (woken c (rebuildLadder (startDevice c x l))).table.causes.heater.lockout = decide (c.lockout ≠ .none) := by
    unfold woken
    dsimp only
    split
    · rename_i h
      simp only [h, ne_eq, not_true_eq_false, decide_false]
      rfl
    · rename_i h
      simp only [h, ne_eq, not_false_eq_true, decide_true]
      rfl
  rw [startHeaterFrom_eq b rfl]
  split
  · rename_i r hm hl
    have askd : (askWrite (.lockout (.inForce r)) .nothing (woken c (rebuildLadder (startDevice c x l)))).store.jobs =
        [⟨.lockout (.inForce r), .nothing⟩] := by
      rw [askWrite_jobs, hx]
      show x.jobs ++ _ = _
      rw [hj]
      rfl
    have sure : ∀ q, c.lockout = .pending q → q = r := fun q hq => StoredLockout.pending.inj (hq.symm.trans hl)
    refine ⟨?_, ?_, ?_, ?_, fun q _ hq => ?_, fun no => ?_⟩
    · rw [askWrite_eq]
      exact (bare_woken b).store _
    · exact same_then (same_mono same) (same_askWrite _ _ _)
    · rw [same_table (same_askWrite _ _ _)]
      exact lock
    · refine (defaulted_beginWrite _).trans ?_
      show (woken c (rebuildLadder (startDevice c x l))).store.defaulted = x.defaulted
      rw [hx]
      rfl
    · obtain ⟨i, hi, -⟩ := askWrite_idle (d := woken c (rebuildLadder (startDevice c x l)))
        ⟨by rw [hx]; exact hw, by rw [hx]; exact hj⟩ (.lockout (.inForce r)) .nothing
      rw [sure q hq]
      exact ⟨askd, by rw [hi]; nofun⟩
    · rcases no with h | h
      · rw [hm] at h
        cases h
      · exact absurd hl (h r)
  · rename_i other
    refine ⟨bare_woken b, same_mono same, lock, by rw [hx]; rfl, fun r hm hl => absurd hl (other r hm), fun _ => ?_⟩
    rw [hx]
    exact ⟨hj, hw⟩

/-! ## The whole of power-on -/

theorem recompute_bare {c : Settings} {H : HeaterState} {d : Device} (b : Bare c H d) (quiet : Dormant H) :
    recompute d = recomputeCore d := by
  unfold recompute withBudgetNotice
  dsimp only
  rw [((settled_bare c quiet).recomputeCore b).raiseFlag, ite_self]

theorem buildLadder_eq (o : ShedOrder) (prot : PerLane Bool) : buildLadder o prot = ladderOf o prot := by
  obtain ⟨x, y, z⟩ := o
  unfold buildLadder ladderOf ShedOrder.toList
  cases hx : prot.get x <;> cases hy : prot.get y <;> cases hz : prot.get z <;> simp [hx, hy, hz]

theorem loadContent_eq (s : Store) (okA okB : Bool) :
    let holdsA := s.a.valid && okA
    let holdsB := s.b.valid && okB
    (loadContent (checkImages okA okB s)).getD Config.factory =
        (if holdsA && holdsB then (if s.a.count ≥ s.b.count then s.a.content else s.b.content)
          else if holdsA then s.a.content else if holdsB then s.b.content else Config.factory) ∧
      (loadContent (checkImages okA okB s)).isNone = (!holdsA && !holdsB) := by
  unfold loadContent checkImages
  dsimp only
  cases s.a.valid && okA <;> cases s.b.valid && okB <;> exact ⟨rfl, rfl⟩

/-- The permissions of slot 0 of frame 0 with no claim, in NORMAL (R102). -/
theorem formed_first {d : Device} (ha : d.sched.waiting = false) (hi : d.sched.slotIndex = 0) (hf : d.sched.frame = 0)
    (hc : d.sched.claim = false) (hv : d.bank.vstate = .normal) (l : Lane) :
    formed d l = (bears ((activeTable d).entries.getD 0 LaneSet.none) l && decide (d.budget.modes.get l = .full)) := by
  have entry : currentEntry d = (activeTable d).entries.getD 0 LaneSet.none := by
    unfold currentEntry
    rw [ha, hi]
    rfl
  have allows : modeAllows d l = decide (d.budget.modes.get l = .full) := by
    unfold modeAllows oddFrame
    rw [hf]
    cases d.budget.modes.get l <;> rfl
  have held : withheld d l = false := by
    cases l <;> simp [withheld, hc, hv]
  unfold formed keptIdle
  rw [entry, allows, held, ha]
  simp

theorem glowStartOf_first {d : Device} (ha : d.sched.waiting = false) (hi : d.sched.slotIndex = 0)
    (hv : d.bank.vstate = .normal) :
    glowStartOf d = (((activeTable d).entries.getD 0 LaneSet.none).glow && decide (d.budget.modes.heat ≠ .off)) := by
  unfold glowStartOf currentEntry
  rw [ha, hi, hv]
  cases d.budget.modes.heat <;> simp

/-- The permissions of slot 0 of frame 0 at the lane modes given. -/
def firstPermissions (c : Settings) (m : PerLane LaneMode) : PerLane Bool :=
  let e := (c.tables.get c.active).entries.getD 0 LaneSet.none
  ⟨e.heat && decide (m.heat = .full), e.cool && decide (m.cool = .full), e.aux && decide (m.aux = .full)⟩

/-- Opening slot 0 of frame 0 moves its permissions and its glow start alone. -/
theorem openSlot_bare {c : Settings} {H : HeaterState} {d : Device} (b : Bare c H d) (quiet : Dormant H) (hs : d.settings = c)
    (hv : d.bank.vstate = .normal) :
    openSlot d = { d with sched := { d.sched with
      glowStart := ((c.tables.get c.active).entries.getD 0 LaneSet.none).glow && decide (d.budget.modes.heat ≠ .off)
      perm := firstPermissions c d.budget.modes } } := by
  obtain ⟨p, g, sched⟩ := b.sched
  have table : activeTable d = c.tables.get c.active := by
    unfold activeTable
    rw [hs]
  have glow := glowStartOf_first (d := d) (by rw [sched]; rfl) (by rw [sched]; rfl) hv
  have b' : Bare c H (setSched (fun s => { s with glowStart := glowStartOf d }) d) :=
    b.congr rfl rfl rfl rfl rfl ⟨d.sched.perm, glowStartOf d, rfl⟩
  have perm := fun l => formed_first (d := setSched (fun s => { s with glowStart := glowStartOf d }) d)
    (show d.sched.waiting = false by rw [sched]; rfl) (show d.sched.slotIndex = 0 by rw [sched]; rfl)
    (show d.sched.frame = 0 by rw [sched]; rfl) (show d.sched.claim = false by rw [sched]; rfl) hv l
  unfold openSlot
  rw [b'.formPermissions quiet, perm, perm, perm, glow, table]
  rw [show activeTable (setSched (fun s => { s with glowStart :=
    ((c.tables.get c.active).entries.getD 0 LaneSet.none).glow && decide (d.budget.modes.heat ≠ .off) }) d) =
    c.tables.get c.active from table]
  rfl

theorem Bare.openSlot {c : Settings} {H : HeaterState} {d : Device} (b : Bare c H d) (g : Bool) (p : PerLane Bool) :
    Bare c H { d with sched := { d.sched with glowStart := g, perm := p } } := b.congr rfl rfl rfl rfl rfl ⟨p, g, rfl⟩

/-- The part as power-on leaves it from a loaded set. -/
def poweredUp (c : Settings) (x : Store) (l : Leads) : Device :=
  openSlot (recompute (startHeaterFrom (rebuildLadder (startDevice c x l))))

/-- The blocks that the heater's start, the first recomputation and the opening of slot 0 can reach. -/
abbrev startBlocks : List Block := [.heater, .table, .store, .link, .sched, .fridge, .lamps, .budget]

/-- What the first recomputation and the opening of slot 0 do to a part that has started. -/
theorem poweredUp_spec {c : Settings} {x : Store} {l : Leads} (hj : x.jobs = []) (hw : x.writing = none) :
    Bare c (startState c) (poweredUp c x l) ∧
      sameExcept startBlocks (startDevice c x l) (poweredUp c x l) ∧
      (poweredUp c x l).store = (startHeaterFrom (rebuildLadder (startDevice c x l))).store ∧
      (poweredUp c x l).table.causes.heater.lockout = decide (c.lockout ≠ .none) ∧
      (poweredUp c x l).budget = projected (startHeaterFrom (rebuildLadder (startDevice c x l))) ∧
      (poweredUp c x l).sched.perm = firstPermissions c (poweredUp c x l).budget.modes ∧
      (poweredUp c x l).sched.glowStart =
        (((c.tables.get c.active).entries.getD 0 LaneSet.none).glow && decide ((poweredUp c x l).budget.modes.heat ≠ .off)) := by
  have st := started_startHeaterFrom c x l hj hw
  have quiet := dormant_startState c
  obtain ⟨budget, lockout⟩ := recomputeCore_bare st.bare
    (by unfold regimeOf; rw [same_bank st.same, same_vehicle st.same]; rfl) (by rw [same_budget st.same]; rfl)
  have bare : Bare c (startState c) (recompute (startHeaterFrom (rebuildLadder (startDevice c x l)))) := by
    rw [recompute_bare st.bare quiet]
    exact (settled_bare c quiet).recomputeCore st.bare
  have same : sameExcept startBlocks (startDevice c x l) (poweredUp c x l) :=
    same_trans (same_trans (same_trans (same_mono (same_rebuildLadder _)) (same_mono st.same)) (same_mono (same_recompute _)))
      (same_mono (same_openSlot _))
  have store : (recompute (startHeaterFrom (rebuildLadder (startDevice c x l)))).store =
      (startHeaterFrom (rebuildLadder (startDevice c x l))).store := same_store (same_recompute _)
  rw [← recompute_bare st.bare quiet] at budget lockout
  have eq := openSlot_bare bare quiet ((same_settings (same_recompute _)).trans (same_settings st.same))
    (by rw [same_bank (same_recompute _), same_bank st.same]; rfl)
  refine ⟨?_, same, ?_, ?_, ?_, ?_, ?_⟩ <;> unfold poweredUp <;> rw [eq]
  · exact bare.openSlot _ _
  · exact store
  · exact lockout.trans st.lockout
  · exact budget

theorem powerUp_eq (okA okB : Bool) (d : Device) :
    powerUp okA okB d = poweredUp ((loadContent (checkImages okA okB d.store)).getD Config.factory)
      { checkImages okA okB d.store with defaulted := (loadContent (checkImages okA okB d.store)).isNone } d.leads := rfl

/-- The budget unit after its first recomputation, in the terms of the state that it leaves (R80). -/
theorem poweredUp_budget {c : Settings} {x : Store} {l : Leads} (hj : x.jobs = []) (hw : x.writing = none) :
    let g := (poweredUp c x l).budget
    let at' := fun n : Nat => projectAt (poweredUp c x l) n none
    g.ladder = ladderOf c.shedOrder c.protectedSet ∧ g.position ≤ g.ladder.length ∧
      (∀ n, n < g.position → (at' n).m < 0) ∧ (0 ≤ (at' g.position).m ∨ g.position = g.ladder.length) ∧
      g.modes = modesAt g.ladder g.position ∧ g.cap = capAt g.ladder g.position ∧ g.proj = at' g.position ∧
      g.mode = (if (at' g.position).m < 0 then .short else if g.position = 0 then .nominal else .curtailed) ∧
      g.tminBelow = decide (g.proj.tmin < 60) := by
  obtain ⟨bare, same, -, -, budget, -, -⟩ := poweredUp_spec (c := c) (l := l) hj hw
  have st := started_startHeaterFrom c x l hj hw
  have first : (startHeaterFrom (rebuildLadder (startDevice c x l))).budget = (rebuildLadder (startDevice c x l)).budget :=
    same_budget st.same
  have ladder : (startHeaterFrom (rebuildLadder (startDevice c x l))).budget.ladder = ladderOf c.shedOrder c.protectedSet := by
    rw [first]
    exact buildLadder_eq _ _
  have position : (startHeaterFrom (rebuildLadder (startDevice c x l))).budget.position = 0 := by
    rw [first]
    exact Nat.zero_min _
  have at_eq : ∀ n, projectAt (poweredUp c x l) n none =
      projectAt (startHeaterFrom (rebuildLadder (startDevice c x l))) n none := fun n => by
    have empty : records (poweredUp c x l) = records (startHeaterFrom (rebuildLadder (startDevice c x l))) :=
      bare.records.trans st.bare.records.symm
    unfold projectAt
    rw [show (poweredUp c x l).budget.ladder = (startHeaterFrom (rebuildLadder (startDevice c x l))).budget.ladder by
      rw [budget]; rfl]
    exact project_congr ((same_settings same).trans (same_settings st.same).symm)
      ((same_bank same).trans (same_bank st.same).symm) ((same_clock same).trans (same_clock st.same).symm)
      (bare.lamps.trans st.bare.lamps.symm) (fun k => by unfold engaged; rw [empty]) (by unfold planRecords; rw [empty]) _ _ _
  obtain ⟨-, most, short, enough⟩ := advancePosition_spec (startHeaterFrom (rebuildLadder (startDevice c x l)))
    (startHeaterFrom (rebuildLadder (startDevice c x l))).budget.ladder.length 0 (Nat.zero_le _)
  intro g at'
  have hg : g = projected (startHeaterFrom (rebuildLadder (startDevice c x l))) := budget
  have hat : at' = fun n => projectAt (startHeaterFrom (rebuildLadder (startDevice c x l))) n none := funext at_eq
  rw [hg, hat]
  unfold projected
  rw [position]
  exact ⟨ladder, most, fun n hn => short n (Nat.zero_le n) hn, enough (Nat.le_refl _), rfl, rfl, rfl, rfl, rfl⟩

/-- Settles O4: the blocks start bare, and the first recomputation moves the budget unit alone. -/
theorem powerOnStartsEveryBlock : Obligations.PowerOnStartsEveryBlock := by
  unfold Obligations.PowerOnStartsEveryBlock
  intro okA okB s
  refine ⟨{ s with dev := powerUp okA okB s.dev }, rfl, rfl, ?_⟩
  obtain ⟨hc, hd⟩ := loadContent_eq s.dev.store okA okB
  have hj : ({ checkImages okA okB s.dev.store with
    defaulted := (loadContent (checkImages okA okB s.dev.store)).isNone } : Store).jobs = [] := rfl
  have hw : ({ checkImages okA okB s.dev.store with
    defaulted := (loadContent (checkImages okA okB s.dev.store)).isNone } : Store).writing = none := rfl
  dsimp only
  rw [powerUp_eq, ← hc, ← hd]
  generalize (loadContent (checkImages okA okB s.dev.store)).getD Config.factory = c at *
  generalize hx : ({ checkImages okA okB s.dev.store with
    defaulted := (loadContent (checkImages okA okB s.dev.store)).isNone } : Store) = x at *
  obtain ⟨bare, same, store, lockout, -, perm, glow⟩ := poweredUp_spec (c := c) (l := s.dev.leads) hj hw
  have st := started_startHeaterFrom c x s.dev.leads hj hw
  obtain ⟨p, f, sched⟩ := bare.sched
  have bank := same_bank same
  obtain ⟨gl, gp, short, enough, modes, cap, proj, mode, below⟩ := poweredUp_budget (c := c) (l := s.dev.leads) hj hw
  have stations : ∀ st, (poweredUp c x s.dev.leads).link.stations.get st = startStation (c.stations.get st) := fun st => by
    rw [bare.link]
    exact PerStation_get_map _ _ _
  refine ⟨same_inReset same, same_settings same, ?_, same_clock same, same_leads (d := startDevice c x s.dev.leads) same,
    stations, by rw [bare.link]; rfl, by rw [bare.link]; rfl, bare.slots, bare.counter, bare.queue, lockout,
    by rw [bank]; rfl, by rw [bank]; rfl, by rw [bank]; rfl, by rw [bank]; rfl, by rw [bank]; rfl, by rw [bank]; rfl,
    by rw [bank]; rfl, by rw [sched]; rfl, by rw [sched]; rfl, by rw [sched]; rfl, by rw [sched]; rfl, by rw [sched]; rfl,
    by rw [sched]; rfl, by rw [bare.heater]; rfl, by rw [bare.heater]; rfl, by rw [bare.heater]; rfl, by rw [bare.heater]; rfl,
    by rw [bare.heater]; rfl, ?_, ?_, ?_, by rw [bare.fridge]; rfl, ?_, ?_, ?_, by rw [same_vehicle same]; rfl⟩
  · rw [store, st.defaulted, ← hx]
  · rw [store]
    exact st.pending
  · rw [store]
    exact st.idle
  · intro _ _ _
    exact ⟨gl, gp, short, enough, modes, cap, proj, mode, below, perm, glow⟩
  · intro ch
    rw [bare.lamps]
    cases ch <;> rfl
  · intro dr
    rw [same_accounts same]
    cases dr <;> rfl
  · intro dr
    rw [same_plans same]
    cases dr <;> rfl

end Sys2Proof.Machine
end

section
/-! PROOF. The values that CREATE and AMEND apply, with their bits in the clamp mask (R3 to R5, R8, R39, R198), and CREATE as
one answer after the creation. -/

namespace Sys2Proof.Machine
open Sys2Proof

/-! ## Clamped values and their bits -/

theorem applyNat_value (lo hi n : Nat) : (applyNat lo hi n).value = max lo (min n hi) := rfl

theorem applyNat_clamped {lo hi : Nat} (h : lo ≤ hi) (n : Nat) :
    (applyNat lo hi n).clamped = true ↔ n < lo ∨ hi < n := by
  show (clampNat lo hi n != n) = true ↔ _
  rw [bne_iff_ne]
  unfold clampNat
  omega

theorem applyInt_clamped {lo hi : Int} (h : lo ≤ hi) (n : Int) :
    (applyInt lo hi n).clamped = true ↔ n < lo ∨ hi < n := by
  show (clampInt lo hi n != n) = true ↔ _
  rw [bne_iff_ne]
  unfold clampInt
  omega

theorem applyClass_value (control : Bool) (c : Machine.Class) :
    (applyClass control c).value = if c = .essential ∧ control = false then .comfort else c := by
  unfold applyClass
  cases control <;> by_cases h : c = .essential <;> simp [h]

theorem applyClass_clamped (control : Bool) (c : Machine.Class) :
    (applyClass control c).clamped = true ↔ c = .essential ∧ control = false := by
  unfold applyClass
  cases control <;> by_cases h : c = .essential <;> simp [h]

/-- The weight of a bit that stands where a proposition holds. -/
theorem bit_eq {b : Bool} {p : Prop} [Decidable p] (h : b = true ↔ p) (n : Nat) :
    (if b then n else 0) = if p then n else 0 := by
  by_cases hp : p
  · rw [if_pos (h.mpr hp), if_pos hp]
  · rw [if_neg (fun c => hp (h.mp c)), if_neg hp]

theorem maskOf_four (a b c d : Bool) (fl : List Bool) : maskOf ([a, b, c, d] ++ fl) =
    (if a then 1 else 0) + (if b then 2 else 0) + (if c then 4 else 0) + (if d then 8 else 0) + 16 * maskOf fl := by
  simp only [maskOf, List.cons_append, List.nil_append, flagsByte]
  cases a <;> cases b <;> cases c <;> cases d <;> simp <;> omega

theorem okCode_mask (n : Nat) : okCode (n != 0) = if n = 0 then .ok else .okClamped := by
  by_cases h : n = 0
  · rw [if_pos h, h]
    rfl
  · rw [if_neg h, bne_iff_ne.mpr h]
    rfl

/-- The clamp bits of the parameters of a kind that is no plan. -/
theorem maskOf_createParams {k : Kind} {f : KindFields} {p : Params} {fl : List Bool} (hk : k ≠ .restPlan)
    (h : createParams k f = some (p, fl)) : 16 * maskOf fl = if fieldPast k f = true then 16 else 0 := by
  have one : ∀ b : Bool, 16 * maskOf [b] = if b = true then 16 else 0 := fun b => by cases b <;> rfl
  cases k with
  | restPlan => exact absurd rfl hk
  | auxOn =>
    cases f with
    | nothing =>
      obtain ⟨-, rfl⟩ := Prod.mk.inj (Option.some.inj h)
      rfl
    | temp w => cases h
    | level l => cases h
    | plan q => cases h
  | lamp =>
    cases f with
    | level l =>
      by_cases hl : l = byteAbsent
      · rw [createParams_lamp_absent hl] at h
        cases h
      · obtain ⟨-, rfl⟩ := Prod.mk.inj (Option.some.inj ((createParams_lamp hl).symm.trans h))
        rw [one]
        refine bit_eq ?_ 16
        rw [applyNat_clamped (by decide)]
        unfold fieldPast
        simp only [Bool.and_eq_true, bne_iff_ne, ne_eq, decide_eq_true_eq]
        exact ⟨fun c => ⟨hl, c.resolve_left (by omega)⟩, fun c => .inr c.2⟩
    | temp w => cases h
    | nothing => cases h
    | plan q => cases h
  | heatHold =>
    cases f with
    | temp w =>
      obtain ⟨t, ht, he⟩ := Option.map_eq_some_iff.mp h
      obtain ⟨-, rfl⟩ := Prod.mk.inj he
      rw [one]
      refine bit_eq ?_ 16
      unfold tempOfWord at ht
      split at ht
      · cases ht
      · rename_i hw
        cases ht
        rw [setpointRange, applyInt_clamped (by decide)]
        simp [fieldPast, hw]
    | level l => cases h
    | nothing => cases h
    | plan q => cases h
  | coolHold =>
    cases f with
    | temp w =>
      obtain ⟨t, ht, he⟩ := Option.map_eq_some_iff.mp h
      obtain ⟨-, rfl⟩ := Prod.mk.inj he
      rw [one]
      refine bit_eq ?_ 16
      unfold tempOfWord at ht
      split at ht
      · cases ht
      · rename_i hw
        cases ht
        rw [targetRange, applyInt_clamped (by decide)]
        simp [fieldPast, hw]
    | level l => cases h
    | nothing => cases h
    | plan q => cases h

/-! ## The record of a CREATE -/

/-- The class that is applied at a station's level of rights (R3). -/
def classFor (d : Device) (st : Station) (cls : Machine.Class) : Machine.Class :=
  if cls = .essential ∧ (d.settings.stations.get st).control = false then .comfort else cls

/-- The deferral limit that is applied (R5). -/
def limitFor (d : Device) (b : CreateBody) : Nat :=
  if b.limit = 0#8 then d.settings.deferralLimit else max 1 (min b.limit.toNat 240)

/-- The end of a duration that counts from second `t`. -/
def endFrom (b : CreateBody) (t : Nat) : Option Nat :=
  if b.duration = 0xFFFF#16 then none else some (t + 60 * max 1 (min b.duration.toNat 1440))

/-- The bits of class, duration and limit in a CREATE's clamp mask. -/
def timeMask (d : Device) (st : Station) (b : CreateBody) (cls : Machine.Class) : Nat :=
  (if cls = .essential ∧ (d.settings.stations.get st).control = false then 1 else 0) +
    (if b.duration ≠ 0xFFFF#16 ∧ (b.duration = 0#16 ∨ 1440 < b.duration.toNat) then 4 else 0) +
    (if 240 < b.limit.toNat then 8 else 0)

theorem toNat_eq_zero_iff {n : Nat} (b : BitVec n) : b.toNat = 0 ↔ b = 0#n := by
  constructor
  · intro h
    exact BitVec.eq_of_toNat_eq (by rw [h]; exact (BitVec.toNat_zero).symm)
  · rintro rfl
    exact BitVec.toNat_zero

section
variable (d : Device) (st : Station) (fn : Fn) (b : CreateBody) (cls : Machine.Class) (params : Params) (flags : List Bool)
  (seq : Nat)

theorem newRecord_limit : (newRecord d st fn b cls params flags seq).1.limit = limitFor d b := by
  unfold newRecord limitFor
  dsimp only
  split <;> rfl

theorem newRecord_endAt : (newRecord d st fn b cls params flags seq).1.endAt =
    endFrom b ((newRecord d st fn b cls params flags seq).1.start.getD d.clock.sec) := by
  unfold newRecord endFrom minutesOfWord
  dsimp only
  rw [show (0xFFFF#16 : Word16) = minutesAbsent from rfl]
  by_cases h : b.duration = minutesAbsent
  · rw [if_pos h, if_pos h]
    rfl
  · rw [if_neg h, if_neg h]
    rfl

theorem newRecord_start_delayed (h1 : b.delay ≠ 0xFFFF#16) (h0 : b.delay ≠ 0#16) :
    (newRecord d st fn b cls params flags seq).1.start = some (d.clock.sec + 60 * min 1440 b.delay.toNat) := by
  have pos : b.delay.toNat ≠ 0 := fun c => h0 ((toNat_eq_zero_iff _).mp c)
  have held : (minutesOfWord b.delay).getD 0 = b.delay.toNat := by
    unfold minutesOfWord
    rw [if_neg (show b.delay ≠ minutesAbsent from h1)]
    rfl
  unfold newRecord
  dsimp only
  rw [held, applyNat_value, if_neg (by omega)]
  congr 3
  omega

theorem newRecord_start_now (h : b.delay = 0xFFFF#16 ∨ b.delay = 0#16) :
    (newRecord d st fn b cls params flags seq).1.start = none := by
  unfold newRecord
  dsimp only
  rcases h with h | h <;> rw [h] <;> rfl

/-- The record of a CREATE in its own terms. -/
theorem newRecord_eq : (newRecord d st fn b cls params flags seq).1 =
    { kind := fnKind fn
      fn := fn
      owner := .station st
      cls := classFor d st cls
      state := .scheduled
      reason := .awaitStart
      seq := seq
      start := (newRecord d st fn b cls params flags seq).1.start
      endAt := endFrom b ((newRecord d st fn b cls params flags seq).1.start.getD d.clock.sec)
      limit := limitFor d b
      deadline := none
      params := params } := by
  rw [← newRecord_endAt d st fn b cls params flags seq, ← newRecord_limit d st fn b cls params flags seq, classFor,
    ← applyClass_value]
  rfl

theorem delay_clamped : (applyNat 0 1440 ((minutesOfWord b.delay).getD 0)).clamped = true ↔
    b.delay ≠ 0xFFFF#16 ∧ 1440 < b.delay.toNat := by
  rw [applyNat_clamped (by decide)]
  unfold minutesOfWord
  by_cases h : b.delay = minutesAbsent
  · rw [if_pos h]
    simp [show b.delay = 0xFFFF#16 from h]
  · rw [if_neg h]
    have h' : b.delay ≠ 0xFFFF#16 := h
    simp [h']

theorem duration_clamped (w : Word16) : (((minutesOfWord w).map (applyNat 1 1440)).map Applied.clamped).getD false = true ↔
    w ≠ 0xFFFF#16 ∧ (w = 0#16 ∨ 1440 < w.toNat) := by
  unfold minutesOfWord
  by_cases h : w = minutesAbsent
  · rw [if_pos h]
    simp [show w = 0xFFFF#16 from h]
  · rw [if_neg h]
    have h' : w ≠ 0xFFFF#16 := h
    rw [Option.map_some, Option.map_some, Option.getD_some, applyNat_clamped (by decide), ← toNat_eq_zero_iff]
    simp only [h', ne_eq, not_false_eq_true, true_and]
    omega

theorem limit_clamped : (if b.limit = 0#8 then ⟨d.settings.deferralLimit, false⟩
    else applyNat 1 240 b.limit.toNat : Applied Nat).clamped = true ↔ 240 < b.limit.toNat := by
  split
  · rename_i h
    rw [h]
    exact ⟨nofun, fun c => absurd c (by decide)⟩
  · rename_i h
    have := mt (toNat_eq_zero_iff b.limit).mp h
    rw [applyNat_clamped (by decide)]
    omega

theorem newRecord_mask : (newRecord d st fn b cls params flags seq).2 =
    timeMask d st b cls + (if b.delay ≠ 0xFFFF#16 ∧ 1440 < b.delay.toNat then 2 else 0) + 16 * maskOf flags := by
  show maskOf ([(applyClass (d.settings.stations.get st).control cls).clamped,
    (applyNat 0 1440 ((minutesOfWord b.delay).getD 0)).clamped,
    (((minutesOfWord b.duration).map (applyNat 1 1440)).map Applied.clamped).getD false,
    (if b.limit = 0#8 then ⟨d.settings.deferralLimit, false⟩ else applyNat 1 240 b.limit.toNat : Applied Nat).clamped] ++ flags) = _
  rw [maskOf_four, bit_eq (applyClass_clamped _ _), bit_eq (delay_clamped b), bit_eq (duration_clamped _), bit_eq (limit_clamped d b)]
  unfold timeMask
  omega

end

/-! ## CREATE as one answer -/

theorem eq_withLink {d e : Device} (h : sameExcept [.link] d e) : e = { d with link := e.link } := by
  cases d
  cases e
  simp only [Device.mk.injEq]
  exact ⟨same_inReset h, same_clock h, same_settings h, same_store h, trivial, same_table h, same_bank h, same_budget h,
    same_sched h, same_heater h, same_fridge h, same_lamps h, same_accounts h, same_plans h, same_vehicle h, same_leads h⟩

theorem answerBlock_of_same {d e : Device} (h : sameExcept [.link] d e) (st : Station) (k : Handle) (mask : Nat) :
    answerBlock e st k mask = answerBlock d st k mask := by
  rw [eq_withLink h]
  rfl

/-- A request that answers with a record's block: what it carries is the block in the state that it leaves. -/
theorem answers_block {i : Instr} {s : State} {st : Station} {f : Station → Device → Device} {post : Device → Prop}
    {old e : Device} {ty : Byte} {h : Handle} {mask : Nat} (he : exec i s = onPart (serve f) s) (hp : Polled st s.dev)
    (hf : f st (opened st s.dev) = answerAfter old st ty (okCode (mask != 0)) (.block h mask (answerBlock e st h mask)) e)
    (hw : e.heater.waiting = s.dev.heater.waiting)
    (post_of : ∀ d, d.link.stations = e.link.stations → sameExcept [.link] e d →
      Replied st ty (if mask = 0 then .ok else .okClamped) (blockOf d st h mask) s.dev d → post d) : Answers i s post := by
  refine answers_acted he hp hf hw fun d stations same replied => post_of d stations same ?_
  rw [okCode_mask] at replied
  unfold blockOf
  rwa [answerBlock_of_same same]

section
variable {d : Device} {st : Station} {b : CreateBody} {fn : Fn} {win : Window} {cls : Machine.Class} {params : Params}
  {flags : List Bool} {h : Handle}

/-- The clamp mask of a CREATE. -/
def createMask (d : Device) (st : Station) (b : CreateBody) (cls : Machine.Class) (flags : List Bool) : Nat :=
  timeMask d st b cls + (if b.delay ≠ 0xFFFF#16 ∧ 1440 < b.delay.toNat then 2 else 0) + 16 * maskOf flags

theorem timeMask_congr {e : Device} (hs : e.settings = d.settings) : timeMask e st b cls = timeMask d st b cls := by
  unfold timeMask
  rw [hs]

theorem same_clearFault (fn : Fn) (d : Device) : sameExcept budgetBlocks d (clearFault fn d) := by
  unfold clearFault
  split
  · exact same_ite (same_then (same_mono (same_changeLamp _ _ d)) (same_setCauseAndRecompute _ _ _)) (same_refl _ d)
  · exact same_refl _ d

/-- A CREATE that passes every check: the creation, then the answer. -/
theorem create_accepted (hfit : fieldsFit (kindOfCode b.kind) b.fields = true)
    (ht : translate d st b.fn.toNat = some (fnNumber fn, win))
    (hr : win.rights.changeOwn = true ∨ win.rights.changeAny = true) (hk : kindOfCode b.kind = some (fnKind fn))
    (hc : createClass b.cls = some cls) (hpar : createParams (fnKind fn) b.fields = some (params, flags))
    (htime : timesFit (fnKind fn) b = true)
    (quota : (stationRecords d st).length < (d.settings.stations.get st).quota)
    (room : (fnStationRecords d fn).length < fnLimit fn) (free : freeStationSlot d = some h) :
    create (some b) st d = answerAfter d st 0x12#8 (okCode (createMask d st b cls flags != 0))
      (.block h (createMask d st b cls flags)
        (answerBlock (created st fn h b cls params flags d) st h (createMask d st b cls flags)))
      (created st fn h b cls params flags d) := by
  have mask : (newRecord (takeSequence (clearFault fn d)) st fn b cls params flags
      (takeSequence (clearFault fn d)).table.counter).2 = createMask d st b cls flags := by
    rw [newRecord_mask]
    unfold createMask
    rw [timeMask_congr ((same_settings (same_takeSequence _)).trans (same_settings (same_clearFault fn d)))]
  rw [create_mapped hfit ht hr hk, createChecked_fit hc hpar htime, if_neg (by omega), if_neg (by omega), free]
  dsimp only
  unfold createRecord
  dsimp only
  rw [mask]
  rfl

end

end Sys2Proof.Machine
end

section
/-! PROOF. A LAMP creation: the fault's clear with its marks, the new record's grant, and the level of its channel (R9, R12,
R13, R22, R42, R150, R156). -/

namespace Sys2Proof.Machine
open Sys2Proof

/-! ## An entry that no mark drives out -/

/-- The handles of a set have slots below 48, no two the same. -/
def Slotted (T : Handle → Prop) : Prop := (∀ a, T a → a.slot < 48) ∧ ∀ a b, T a → T b → a.slot = b.slot → a = b

theorem slotted_live (d : Device) : Slotted fun k => (lookup d k).isSome = true := by
  refine ⟨fun a ha => ?_, fun a b ha hb hs => ?_⟩
  · obtain ⟨r, hr⟩ := Option.isSome_iff_exists.mp ha
    have := (lookup_eq_some_iff.mp hr).1
    omega
  · obtain ⟨r, hr⟩ := Option.isSome_iff_exists.mp ha
    obtain ⟨x, hx⟩ := Option.isSome_iff_exists.mp hb
    exact handle_eq_of_slot hr hx hs

theorem length_le_of_slotted {T : Handle → Prop} (t : Slotted T) {l : List Handle} (hn : l.Nodup) (ht : ∀ a ∈ l, T a) :
    l.length ≤ 48 := by
  have hm : (l.map Handle.slot).Nodup := List.Nodup.map_on (fun a ha b hb => t.2 a b (ht a ha) (ht b hb)) hn
  have hs : (l.map Handle.slot).toFinset ⊆ Finset.range 48 := fun n hn => by
    obtain ⟨a, ha, rfl⟩ := List.mem_map.mp (List.mem_toFinset.mp hn)
    exact Finset.mem_range.mpr (t.1 a (ht a ha))
  have := Finset.card_le_card hs
  rwa [List.toFinset_card_of_nodup hm, List.length_map, Finset.card_range] at this

/-- The handle of a live entry. -/
def Entry.handle : Entry → Handle
  | .live h => h
  | .retired h _ _ => h

/-- A set of live entries, none twice, that name slotted handles is not full. -/
theorem any_retired_of_full {T : Handle → Prop} (t : Slotted T) {es : List Entry} (h : SetNames T es) (full : 64 ≤ es.length) :
    es.any Entry.isRetired = true := by
  by_contra hn
  have all : ∀ e ∈ es, e.isRetired = false := fun e he => by
    by_contra c
    exact hn (List.any_eq_true.mpr ⟨e, he, by simpa using c⟩)
  have eq : es.filter (fun e => !e.isRetired) = es := List.filter_eq_self.mpr fun e he => by rw [all e he]; rfl
  have nodup : es.Nodup := eq ▸ h.1
  have live : ∀ e ∈ es, e = .live (Entry.handle e) := fun e he => by
    have := all e he
    cases e with
    | live k => rfl
    | retired k fn w => cases this
  have handles : (es.map Entry.handle).Nodup := List.Nodup.map_on (fun a ha b hb hab => by
    rw [live a ha, live b hb, hab]) nodup
  have := length_le_of_slotted t handles fun a ha => by
    obtain ⟨e, he, rfl⟩ := List.mem_map.mp ha
    exact h.2 _ (live e he ▸ he)
  rw [List.length_map] at this
  omega

theorem mem_dropOldestRetired {k : Handle} : ∀ {es : List Entry}, .live k ∈ es → .live k ∈ dropOldestRetired es
  | x :: xs, m => by
    unfold dropOldestRetired
    split
    · rename_i hx
      refine (List.mem_cons.mp m).resolve_left fun c => ?_
      rw [← c] at hx
      cases hx
    · rcases List.mem_cons.mp m with c | c
      · rw [← c]
        exact List.mem_cons_self
      · exact List.mem_cons_of_mem x (mem_dropOldestRetired c)

/-- The set names slotted handles alone, none twice, and one of them is `k`. -/
def Keeps (T : Handle → Prop) (k : Handle) (p : StationLink) : Prop := SetNames T p.entries ∧ .live k ∈ p.entries

theorem keeps_mark {T : Handle → Prop} (t : Slotted T) (k : Handle) (p : StationLink) (x : Handle) (hx : T x)
    (h : Keeps T k p) : Keeps T k (markEntry x p) := by
  refine ⟨h.1.mark hx, ?_⟩
  unfold markEntry
  split
  · exact h.2
  · split
    · exact h.2
    · unfold joinEntry
      split
      · rename_i full
        refine List.mem_append_left _ ?_
        unfold makeRoom
        rw [if_pos (any_retired_of_full t h.1 full)]
        exact mem_dropOldestRetired h.2
      · exact List.mem_append_left _ h.2

theorem mem_markEntry {k : Handle} {p : StationLink} (on : p.link = .online) : .live k ∈ (markEntry k p).entries := by
  unfold markEntry
  rw [if_neg (not_not.mpr on)]
  split
  · rename_i m
    exact List.contains_iff_mem.mp m
  · exact mem_join_self _ p

theorem keeps_of_mark {T : Handle → Prop} {k : Handle} {p : StationLink} (on : p.link = .online) (hk : T k)
    (h : SetNames T p.entries) : Keeps T k (markEntry k p) := ⟨h.mark hk, mem_markEntry on⟩

theorem flagFree_keeps (T : Handle → Prop) (k : Handle) : FlagFree (Keeps T k) := fun _ _ _ h => h

theorem mapRecord_owner (s : CauseSet) (r : Record) : (mapRecord s r).owner = r.owner := by
  unfold mapRecord
  split <;> rfl

/-- A change marks the record in its owner's set. -/
theorem keeps_revise {T : Handle → Prop} {o : Station} {d : Device} {k : Handle} {r : Record} {f : Record → Record}
    (hr : lookup d k = some r) (hf : f r ≠ r) (ho : (f r).owner = .station o) (hq : d.table.quiet ≠ some k)
    (on : (d.link.stations.get o).link = .online) (h : Standing T o (fun p => SetNames T p.entries) d) :
    Standing T o (Keeps T k) (revise k f d) := by
  refine ⟨fun x hx => h.1 x (by rwa [isSome_revise] at hx), ?_⟩
  have hk : T k := h.1 k (by rw [hr]; rfl)
  rw [revise_of_some f hr, if_neg hf]
  unfold mark
  rw [if_neg (show (putRecord k (f r) d).table.quiet ≠ some k from hq), lookup_putRecord hr, if_pos rfl]
  dsimp only
  rw [noticeStation_of_owner ho]
  dsimp only
  rw [show (updateStation o (markEntry k) (putRecord k (f r) d)).link.stations.get o = _ from PerStation_get_set _ _ _]
  exact keeps_of_mark on hk h.2

/-- The map marks each record of a function that it changes. -/
theorem keeps_foldl_remap {T : Handle → Prop} (t : Slotted T) {o : Station} {k : Handle} {r : Record} {fn : Fn} {l : List Handle}
    {d : Device} (ho : r.owner = .station o) (m : k ∈ l) (hr : lookup d k = some r)
    (hf : mapRecord (causesOf d.table.causes fn) r ≠ r) (hq : d.table.quiet ≠ some k)
    (on : (d.link.stations.get o).link = .online) (h : Standing T o (fun p => SetNames T p.entries) d) :
    Standing T o (Keeps T k) (l.foldl (remap fn) d) := by
  induction l generalizing d with
  | nil => exact absurd m List.not_mem_nil
  | cons x l ih =>
    rw [List.foldl_cons]
    by_cases hx : x = k
    · have first : Standing T o (Keeps T k) (remap fn d x) := by
        rw [hx]
        exact keeps_revise hr hf (by rw [mapRecord_owner]; exact ho) hq on h
      exact foldl_kept (P := Standing T o (Keeps T k)) (fun e y he => he.revise (keeps_mark t k) y _) l _ first
    · have later : ((remap fn d x).link.stations.get o).link = .online := by
        rcases revise_station x (mapRecord (causesOf d.table.causes fn)) d o with e | ⟨-, e⟩
        · rw [remap_eq, e]
          exact on
        · rw [remap_eq, e, markEntry_link]
          exact on
      exact ih ((List.mem_cons.mp m).resolve_left (Ne.symm hx)) ((lookup_revise_ne _ d (Ne.symm hx)).trans hr)
        (by rw [remap_eq, revise_causes]; exact hf) (by rw [remap_eq, revise_quiet]; exact hq) later
        (h.revise (fun p y hy hp => hp.mark hy) x _)

/-! ## What a cause change leaves -/

theorem pushValue_fault (fn : Fn) (d : Device) (c : Channel) :
    ((pushValue fn d).lamps.get c).fault = (d.lamps.get c).fault ∧ ((pushValue fn d).lamps.get c).trip = (d.lamps.get c).trip := by
  cases fn with
  | heater => exact ((level_pushValue .heat d).lamps c).2.2
  | fridge => exact ((level_pushValue .cool d).lamps c).2.2
  | outlet => exact ((level_pushValue .aux d).lamps c).2.2
  | rest dr => exact ⟨rfl, rfl⟩
  | lamp k =>
    show ((d.lamps.set _ k).get c).fault = _ ∧ ((d.lamps.set _ k).get c).trip = _
    rw [get_set_channel]
    split
    · rename_i hc
      rw [hc]
      exact ⟨rfl, rfl⟩
    · exact ⟨rfl, rfl⟩

theorem foldl_remap_lamps (fn : Fn) (l : List Handle) (d : Device) : (l.foldl (remap fn) d).lamps = d.lamps :=
  foldl_kept (P := fun e => e.lamps = d.lamps) (fun _ _ he => (same_lamps (same_revise _ _ _)).trans he) l d rfl

theorem setCause_fault (fn : Fn) (f : CauseSet → CauseSet) (d : Device) (c : Channel) :
    ((setCause fn f d).lamps.get c).fault = (d.lamps.get c).fault ∧
      ((setCause fn f d).lamps.get c).trip = (d.lamps.get c).trip := by
  unfold setCause
  dsimp only
  split
  · exact ⟨rfl, rfl⟩
  · unfold applyMap
    dsimp only
    rw [(pushValue_fault _ _ c).1, (pushValue_fault _ _ c).2, foldl_remap_lamps]
    exact ⟨rfl, rfl⟩

theorem setCause_rest (fn : Fn) (f : CauseSet → CauseSet) (d : Device) :
    (setCause fn f d).table.queue = d.table.queue ∧ (setCause fn f d).table.counter = d.table.counter ∧
      (setCause fn f d).table.quiet = d.table.quiet := by
  unfold setCause
  refine kept_ite (P := fun e : Device => e.table.queue = d.table.queue ∧ e.table.counter = d.table.counter ∧
    e.table.quiet = d.table.quiet) ⟨rfl, rfl, rfl⟩ ?_
  unfold applyMap
  dsimp only
  rw [pushValue_table]
  exact foldl_kept (P := fun e : Device => e.table.queue = d.table.queue ∧ e.table.counter = d.table.counter ∧
    e.table.quiet = d.table.quiet) (fun e h ⟨a, b, c⟩ => ⟨(revise_queue _ _ _).trans a, (revise_counter _ _ _).trans b,
      (revise_quiet _ _ _).trans c⟩) _ _ ⟨rfl, rfl, rfl⟩

theorem touchedAll_setCauseAndRecompute (fn : Fn) (f : CauseSet → CauseSet) (d : Device) :
    TouchedAll (setCause fn f d) (setCauseAndRecompute fn f d) ∧ Level (setCause fn f d) (setCauseAndRecompute fn f d) := by
  unfold setCauseAndRecompute
  dsimp only
  split
  · exact ⟨touchedAll_refl _, .refl _⟩
  · exact ⟨touchedAll_recompute _, level_recompute _⟩

/-! ## The clear of a channel's fault (R156) -/

section
variable {d : Device} {c : Channel}

theorem clearFault_sound {fn : Fn} (h : ∀ c, fn = .lamp c → (d.lamps.get c).fault = false) : clearFault fn d = d := by
  cases fn with
  | lamp c =>
    unfold clearFault
    dsimp only
    rw [if_neg (by rw [h c rfl]; decide)]
  | heater => rfl
  | fridge => rfl
  | outlet => rfl
  | rest dr => rfl

/-- The part with the fault flag and the trip count of a channel clear, before the cause's clear. -/
def unfaulted (c : Channel) (d : Device) : Device := changeLamp c (fun l => { l with fault := false, trip := 0 }) d

theorem clearFault_faulted (h : (d.lamps.get c).fault = true) :
    clearFault (.lamp c) d = setCauseAndRecompute (.lamp c) (causeChannelFault false) (unfaulted c d) := by
  unfold clearFault
  dsimp only
  rw [if_pos h]
  rfl

/-- What the clear of a channel's fault leaves of table and lamps. -/
structure FaultClear (c : Channel) (d e : Device) : Prop where
  fault : (e.lamps.get c).fault = false
  trip : (d.lamps.get c).fault = true → (e.lamps.get c).trip = 0
  causes : causesOf d.table.causes (.lamp c) = { CauseSet.none with channelFault := (d.lamps.get c).fault } →
    causesOf e.table.causes (.lamp c) = CauseSet.none
  queue : e.table.queue = d.table.queue
  counter : e.table.counter = d.table.counter
  quiet : e.table.quiet = d.table.quiet

theorem faultClear_clearFault (c : Channel) (d : Device) : FaultClear c d (clearFault (.lamp c) d) := by
  by_cases h : (d.lamps.get c).fault = true
  · rw [clearFault_faulted h]
    obtain ⟨-, level⟩ := touchedAll_setCauseAndRecompute (.lamp c) (causeChannelFault false) (unfaulted c d)
    obtain ⟨queue, counter, quiet⟩ := setCause_rest (.lamp c) (causeChannelFault false) (unfaulted c d)
    obtain ⟨-, -, fault, trip⟩ := level.lamps c
    obtain ⟨fault', trip'⟩ := setCause_fault (.lamp c) (causeChannelFault false) (unfaulted c d) c
    have lamp : (unfaulted c d).lamps.get c = _ := PerChannel_get_set _ _ _
    exact {
      fault := by rw [fault, fault', lamp]; rfl
      trip := fun _ => by rw [trip, trip', lamp]; rfl
      causes := fun hc => by
        rw [level.causes _ rfl, setCause_causes_self]
        show causeChannelFault false (causesOf d.table.causes (.lamp c)) = _
        rw [hc]
        rfl
      queue := level.queue.trans queue
      counter := level.counter.trans counter
      quiet := level.quiet.trans quiet }
  · have off : (d.lamps.get c).fault = false := by simpa using h
    rw [clearFault_sound (fun k hk => by cases hk; exact off)]
    exact ⟨off, fun hc => absurd hc h, fun hc => by rw [hc, off]; rfl, rfl, rfl, rfl⟩

/-- What a faulted channel's clear makes of a record: one that the fault has suspended resumes. -/
def refitted (c : Channel) (faulted : Bool) (r : Record) : Record :=
  if faulted = true ∧ r.fn = .lamp c ∧ r.state = .suspended then { r with state := .granted, reason := .resumed } else r

theorem mapRecord_clear (r : Record) : mapRecord CauseSet.none r =
    if r.state = .suspended then { r with state := .granted, reason := .resumed } else r := by
  unfold mapRecord
  cases h : r.state <;> simp [firstCause, CauseSet.none, h]

theorem lookup_clearFault (hc : causesOf d.table.causes (.lamp c) = { CauseSet.none with channelFault := (d.lamps.get c).fault })
    {k : Handle} {r : Record} (hr : lookup d k = some r) :
    ∃ x, lookup (clearFault (.lamp c) d) k = some x ∧ Touched (refitted c (d.lamps.get c).fault r) x := by
  by_cases h : (d.lamps.get c).fault = true
  · have changes : causeChannelFault false (causesOf (unfaulted c d).table.causes (.lamp c)) ≠
        causesOf (unfaulted c d).table.causes (.lamp c) := by
      show causeChannelFault false (causesOf d.table.causes (.lamp c)) ≠ causesOf d.table.causes (.lamp c)
      rw [hc, h]
      decide
    have none' : causeChannelFault false (causesOf (unfaulted c d).table.causes (.lamp c)) = CauseSet.none := by
      show causeChannelFault false (causesOf d.table.causes (.lamp c)) = _
      rw [hc, h]
      rfl
    rw [clearFault_faulted h]
    refine (touchedAll_setCauseAndRecompute (.lamp c) (causeChannelFault false) (unfaulted c d)).1.2 k _ ?_
    rw [lookup_setCause_of_change changes, none', show lookup (unfaulted c d) k = some r from hr, Option.map_some,
      mapRecord_clear]
    unfold refitted
    rw [h]
    by_cases hf : r.fn = .lamp c <;> by_cases hs : r.state = .suspended <;> simp [hf, hs]
  · have off : (d.lamps.get c).fault = false := by simpa using h
    rw [clearFault_sound (fun k hk => by cases hk; exact off)]
    refine ⟨r, hr, ?_⟩
    unfold refitted
    rw [if_neg (fun hx => h hx.1)]
    exact .refl r

theorem lookup_clearFault_none (fn : Fn) {k : Handle} (h : lookup d k = none) : lookup (clearFault fn d) k = none := by
  have := lookup_isSome_of_occupancy (occupancy_clearFault fn d) k
  rw [h] at this
  exact Option.not_isSome_iff_eq_none.mp (by rw [this]; decide)

end

end Sys2Proof.Machine
end

section
/-! PROOF. CREATE of a LAMP with no delay (O15). -/

namespace Sys2Proof.Machine
open Sys2Proof

/-! ## The creation, step by step -/

/-- The part with the record whose changes an answer reports. -/
def withQuiet (q : Option Handle) (d : Device) : Device := { d with table := { d.table with quiet := q } }

theorem same_withQuiet (q : Option Handle) (d : Device) : sameExcept [.table] d (withQuiet q d) := by
  intro b hb; cases b <;> first | rfl | exact absurd (by decide) hb

@[simp] theorem lookup_withQuiet (q : Option Handle) (d : Device) (k : Handle) : lookup (withQuiet q d) k = lookup d k := rfl

/-- The record that a CREATE puts into its slot. -/
def newIn (d : Device) (st : Station) (fn : Fn) (b : CreateBody) (cls : Machine.Class) (params : Params) (flags : List Bool) :
    Record :=
  (newRecord (takeSequence (clearFault fn d)) st fn b cls params flags (takeSequence (clearFault fn d)).table.counter).1

/-- The part with the new record in its slot. -/
def inserted (st : Station) (fn : Fn) (h : Handle) (b : CreateBody) (cls : Machine.Class) (params : Params) (flags : List Bool)
    (d : Device) : Device :=
  putRecord h (newIn d st fn b cls params flags) (withQuiet (some h) (takeSequence (clearFault fn d)))

section
variable {d : Device} {st : Station} {b : CreateBody} {fn : Fn} {cls : Machine.Class} {params : Params} {flags : List Bool}
  {h : Handle}

theorem created_now (hd : b.delay = 0xFFFF#16 ∨ b.delay = 0#16) :
    created st fn h b cls params flags d = withQuiet none (beginRecord h (inserted st fn h b cls params flags d)) := by
  unfold created quietly inserted newIn
  dsimp only
  rw [newRecord_start_now _ _ _ _ _ _ _ _ hd]
  rfl

theorem created_later (h1 : b.delay ≠ 0xFFFF#16) (h0 : b.delay ≠ 0#16) :
    created st fn h b cls params flags d = withQuiet none (inserted st fn h b cls params flags d) := by
  unfold created quietly inserted newIn
  dsimp only
  rw [newRecord_start_delayed _ _ _ _ _ _ _ _ h1 h0]
  rfl

theorem same_takeSequence_clearFault (fn : Fn) (d : Device) : sameExcept budgetBlocks d (takeSequence (clearFault fn d)) :=
  same_then (same_clearFault fn d) (same_takeSequence _)

theorem same_inserted : sameExcept budgetBlocks d (inserted st fn h b cls params flags d) :=
  same_then (same_then (same_takeSequence_clearFault fn d) (same_withQuiet _ _)) (same_putRecord _ _ _)

theorem classFor_congr {e : Device} (hs : e.settings = d.settings) : classFor e st cls = classFor d st cls := by
  unfold classFor
  rw [hs]

theorem limitFor_congr {e : Device} (hs : e.settings = d.settings) : limitFor e b = limitFor d b := by
  unfold limitFor
  rw [hs]

/-- The new record with no delay, in the terms of the state before the request. -/
theorem newIn_now (hd : b.delay = 0xFFFF#16 ∨ b.delay = 0#16) : newIn d st fn b cls params flags =
    { kind := fnKind fn
      fn := fn
      owner := .station st
      cls := classFor d st cls
      state := .scheduled
      reason := .awaitStart
      seq := (takeSequence (clearFault fn d)).table.counter
      start := none
      endAt := endFrom b d.clock.sec
      limit := limitFor d b
      deadline := none
      params := params } := by
  have same := same_takeSequence_clearFault fn d
  unfold newIn
  rw [newRecord_eq, newRecord_start_now _ _ _ _ _ _ _ _ hd, classFor_congr (same_settings same),
    limitFor_congr (same_settings same), same_clock same]
  rfl

/-- The new record with a delay. -/
theorem newIn_later (h1 : b.delay ≠ 0xFFFF#16) (h0 : b.delay ≠ 0#16) : newIn d st fn b cls params flags =
    { kind := fnKind fn
      fn := fn
      owner := .station st
      cls := classFor d st cls
      state := .scheduled
      reason := .awaitStart
      seq := (takeSequence (clearFault fn d)).table.counter
      start := some (d.clock.sec + 60 * min 1440 b.delay.toNat)
      endAt := endFrom b (d.clock.sec + 60 * min 1440 b.delay.toNat)
      limit := limitFor d b
      deadline := none
      params := params } := by
  have same := same_takeSequence_clearFault fn d
  unfold newIn
  rw [newRecord_eq, newRecord_start_delayed _ _ _ _ _ _ _ _ h1 h0, classFor_congr (same_settings same),
    limitFor_congr (same_settings same), same_clock same]
  rfl

theorem occupancy_ready (fn : Fn) (h : Handle) (d : Device) :
    occupancy (withQuiet (some h) (takeSequence (clearFault fn d))) = occupancy d :=
  (occupancy_takeSequence _).trans (occupancy_clearFault fn d)

/-- The slot that the new record takes is free until it does. -/
theorem slot_of_ready (free : freeStationSlot d = some h) :
    (withQuiet (some h) (takeSequence (clearFault fn d))).table.slots[h.slot]? = some ⟨h.gen, none⟩ :=
  free_of_occupancy (occupancy_ready fn h d) (slot_of_freeStationSlot free).1

theorem tableOk_ready (ht : TableOk d) : TableOk (withQuiet (some h) (takeSequence (clearFault fn d))) := by
  refine tableOk_congr (occupancy_ready fn h d) ?_ ht
  rw [show (withQuiet (some h) (takeSequence (clearFault fn d))).table.queue = (clearFault fn d).table.queue from
    takeSequence_queue _]
  cases fn with
  | lamp c =>
    rw [(faultClear_clearFault c d).queue]
    exact ht.2.2
  | heater => exact ht.2.2
  | fridge => exact ht.2.2
  | outlet => exact ht.2.2
  | rest dr => exact ht.2.2

/-- The records with the new one among them. -/
theorem lookup_inserted (ht : TableOk d) (free : freeStationSlot d = some h) (k : Handle) :
    lookup (inserted st fn h b cls params flags d) k =
      if k = h then some (newIn d st fn b cls params flags) else lookup (takeSequence (clearFault fn d)) k :=
  lookup_insert (tableOk_ready ht) (slot_of_ready free) _ k

theorem tableOk_inserted (ht : TableOk d) (free : freeStationSlot d = some h) :
    TableOk (inserted st fn h b cls params flags d) :=
  tableOk_putRecord _ (slot_of_ready free) (tableOk_ready ht)

theorem lookup_takeSequence_lt {e : Device} (hc : e.table.counter < 4294967295) (k : Handle) :
    lookup (takeSequence e) k = lookup e k := by
  rw [takeSequence_of_lt hc]
  rfl

theorem takeSequence_counter_lt {e : Device} (hc : e.table.counter < 4294967295) :
    (takeSequence e).table.counter = e.table.counter + 1 := by
  rw [takeSequence_of_lt hc]

end

/-! ## An immediate LAMP -/

section
variable {d : Device} {st : Station} {b : CreateBody} {c : Channel} {cls : Machine.Class} {n : Nat} {flags : List Bool} {h : Handle}

/-- The new LAMP as the latest record of its channel gives the level (R22, R150). -/
theorem effective_of_grant {e : Device} {r : Record} (ht : TableOk e) (hr : lookup e h = some r) (hf : r.fn = .lamp c)
    (hp : r.params = .lamp n) (hc : causesOf e.table.causes (.lamp c) = CauseSet.none)
    (top : ∀ k x, lookup e k = some x → k ≠ h → x.seq < r.seq) :
    (((grant h .immediate e).lamps.get c).effective) = n := by
  have look := lookup_grant hr .immediate
  have mine := look h
  rw [if_pos rfl, show causesOf e.table.causes r.fn = CauseSet.none by rw [hf, hc], grantAs_none] at mine
  unfold grant at look mine ⊢
  rw [hr] at look mine ⊢
  dsimp only at look mine ⊢
  rw [hf] at look mine ⊢
  generalize hy : revise h _ (leaveQueue h e) = y at look mine ⊢
  have table : TableOk y := hy ▸ tableOk_revise h _ (tableOk_leaveQueue h ht)
  rw [lookup_pushValue] at mine
  show ((handLevel c (lampValue y c) y).lamps.get c).effective = n
  rw [show (handLevel c (lampValue y c) y).lamps.get c = _ from PerChannel_get_set _ _ _]
  refine lampValue_latest ((grantedOn_iff_lookup table).mpr ⟨h, mine, rfl, rfl⟩) hp fun x hx hne => ?_
  obtain ⟨k, hk, -, -⟩ := (grantedOn_iff_lookup table).mp hx
  have hkh : k ≠ h := fun hkh => hne (Option.some.inj (by rw [← hk, hkh, mine]))
  have old := look k
  rw [lookup_pushValue, if_neg hkh, hk] at old
  exact top k x old.symm hkh

theorem grant_rest (w : Reason) {e : Device} : (grant h w e).table.causes = e.table.causes ∧
    (grant h w e).table.quiet = e.table.quiet := by
  unfold grant
  split
  · rw [pushValue_table, revise_causes, revise_quiet]
    exact ⟨rfl, rfl⟩
  · exact ⟨rfl, rfl⟩

theorem grant_fault (w : Reason) (e : Device) (k : Channel) : ((grant h w e).lamps.get k).fault = (e.lamps.get k).fault ∧
    ((grant h w e).lamps.get k).trip = (e.lamps.get k).trip := by
  unfold grant
  split
  · rw [(pushValue_fault _ _ k).1, (pushValue_fault _ _ k).2, same_lamps (same_revise _ _ _)]
    exact ⟨rfl, rfl⟩
  · exact ⟨rfl, rfl⟩

/-! ### The resumed records' marks -/

/-- The handles that a set may name while the record at `h` comes into being. -/
def liveOr (d : Device) (h k : Handle) : Prop := (lookup d k).isSome = true ∨ k = h

theorem slotted_liveOr (ht : TableOk d) (free : freeStationSlot d = some h) : Slotted (liveOr d h) := by
  have hs := slot_of_freeStationSlot free
  have low : h.slot < 48 := by
    have := (List.getElem?_eq_some_iff.mp hs.1).1
    rwa [ht.1] at this
  have apart : ∀ k, (lookup d k).isSome = true → k.slot ≠ h.slot := fun k hk c => by
    obtain ⟨r, hr⟩ := Option.isSome_iff_exists.mp hk
    have := slot_of_lookup hr
    rw [c, hs.1] at this
    exact absurd this (by simp)
  refine ⟨fun a ha => ha.elim ((slotted_live d).1 a) (fun e => e ▸ low), fun a b ha hb hab => ?_⟩
  rcases ha with ha | ha <;> rcases hb with hb | hb
  · exact (slotted_live d).2 a b ha hb hab
  · exact absurd (hb ▸ hab) (apart a ha)
  · exact absurd (ha ▸ hab.symm) (apart b hb)
  · exact ha.trans hb.symm

/-- A record that resumes by the clear of its channel's fault marks its owner's set, and the creation keeps the mark. -/
theorem created_keeps {k : Handle} {r : Record} {o : Station} {params : Params} (ht : TableOk d) (sets : SetsOk d)
    (hc : causesOf d.table.causes (.lamp c) = { CauseSet.none with channelFault := (d.lamps.get c).fault })
    (hf : (d.lamps.get c).fault = true) (hn : d.table.counter < 4294967295) (free : freeStationSlot d = some h)
    (hd : b.delay = 0xFFFF#16 ∨ b.delay = 0#16)
    (hr : lookup d k = some r) (hfn : r.fn = .lamp c) (hs : r.state = .suspended) (ho : r.owner = .station o)
    (on : (d.link.stations.get o).link = .online) :
    .live k ∈ ((created st (.lamp c) h b cls params flags d).link.stations.get o).entries := by
  have t := slotted_liveOr ht free
  have calm := calm_standing (T := liveOr d h) (st := o) (flagFree_keeps (liveOr d h) k) (keeps_mark t k)
  have push := fun (fn : Fn) (e : Device) (he : Standing (liveOr d h) o (Keeps (liveOr d h) k) e) =>
    standing_pushValue (flagFree_keeps _ k) (keeps_mark t k) fn he
  have marked : Standing (liveOr d h) o (Keeps (liveOr d h) k) (setCause (.lamp c) (causeChannelFault false) (unfaulted c d)) := by
    have hc' : causesOf (unfaulted c d).table.causes (.lamp c) = { CauseSet.none with channelFault := true } := hf ▸ hc
    rw [setCause_of_change (by rw [hc']; decide)]
    refine push _ _ (keeps_foldl_remap (r := r) t ho ?_ hr ?_ ?_ on ?_)
    · exact List.mem_map.mpr ⟨(k, r), List.mem_filter.mpr ⟨mem_records_of_lookup hr, by simpa using hfn⟩, rfl⟩
    · rw [causesOf_setCauses, hc']
      show mapRecord CauseSet.none r ≠ r
      rw [mapRecord_clear, if_pos hs]
      intro e
      have := congrArg Record.state e
      rw [hs] at this
      cases this
    · show d.table.quiet ≠ some k
      rw [sets.2.1]
      nofun
    · refine ⟨fun x hx => .inl hx, (sets.1 o).1, fun x hx => .inl ?_⟩
      obtain ⟨y, hy, -⟩ := (sets.1 o).2 x hx
      rw [hy]
      rfl
  have cleared : Standing (liveOr d h) o (Keeps (liveOr d h) k) (clearFault (.lamp c) d) := by
    rw [clearFault_faulted hf]
    exact kept_ite marked (calm.settled.recompute marked)
  have counter : (clearFault (.lamp c) d).table.counter < 4294967295 := by
    rw [(faultClear_clearFault c d).counter]
    exact hn
  have slots := lookup_inserted (st := st) (fn := .lamp c) (b := b) (cls := cls) (params := params) (flags := flags) ht free
  have put : Standing (liveOr d h) o (Keeps (liveOr d h) k) (inserted st (.lamp c) h b cls params flags d) := by
    refine ⟨fun x hx => ?_, ?_⟩
    · rw [slots] at hx
      by_cases e : x = h
      · exact .inr e
      · rw [if_neg e, lookup_takeSequence_lt counter] at hx
        exact cleared.1 x hx
    · show Keeps (liveOr d h) k ((takeSequence (clearFault (.lamp c) d)).link.stations.get o)
      rw [takeSequence_of_lt counter]
      exact cleared.2
  rw [created_now hd, beginRecord_lamp ((slots h).trans (if_pos rfl)) (by rw [newIn_now hd])]
  refine (calm.settled.recompute ?_).2.2
  unfold grant
  rw [slots, if_pos rfl]
  exact push _ _ ((put.congr (f := leaveQueue h (inserted st (.lamp c) h b cls params flags d)) rfl rfl).revise (keeps_mark t k) h _)

/-! ### The records, the lamps and the causes -/

/-- What the creation of an immediate LAMP leaves. -/
structure LampLit (c : Channel) (st : Station) (h : Handle) (n : Nat) (d e : Device) : Prop where
  fault : (e.lamps.get c).fault = false
  trip : (d.lamps.get c).fault = true → (e.lamps.get c).trip = 0
  causes : causesOf e.table.causes (.lamp c) = CauseSet.none
  level : (e.lamps.get c).effective = n
  record : ∃ r, lookup e h = some r ∧ r.state = .granted ∧ r.reason = .immediate ∧ r.owner = .station st ∧
    r.fn = .lamp c ∧ r.seq = d.table.counter + 1 ∧ r.start = none ∧ r.params = .lamp n
  resumed : (d.lamps.get c).fault = true → ∀ k r, lookup d k = some r → r.fn = .lamp c → r.state = .suspended →
    lookup e k = some { r with state := .granted, reason := .resumed }

theorem LampLit.quiet {d e : Device} (l : LampLit c st h n d e) (q : Option Handle) : LampLit c st h n d (withQuiet q e) :=
  ⟨l.fault, l.trip, l.causes, l.level, l.record, l.resumed⟩

theorem created_lamp (ht : TableOk d) (kinds : KindsOk d)
    (hc : causesOf d.table.causes (.lamp c) = { CauseSet.none with channelFault := (d.lamps.get c).fault })
    (hn : d.table.counter < 4294967295) (seqs : ∀ hr ∈ records d, hr.2.seq ≤ d.table.counter)
    (free : freeStationSlot d = some h) (hd : b.delay = 0xFFFF#16 ∨ b.delay = 0#16) :
    LampLit c st h n d (created st (.lamp c) h b cls (.lamp n) flags d) := by
  have clear := faultClear_clearFault c d
  have counter : (clearFault (.lamp c) d).table.counter < 4294967295 := clear.counter ▸ hn
  have slots := lookup_inserted (st := st) (fn := .lamp c) (b := b) (cls := cls) (params := .lamp n) (flags := flags) ht free
  have mine := (slots h).trans (if_pos rfl)
  have table := tableOk_inserted (st := st) (fn := .lamp c) (b := b) (cls := cls) (params := .lamp n) (flags := flags) ht free
  have new := newIn_now (d := d) (st := st) (fn := .lamp c) (cls := cls) (params := .lamp n) (flags := flags) hd
  rw [takeSequence_counter_lt counter, clear.counter] at new
  have causes : causesOf (inserted st (.lamp c) h b cls (.lamp n) flags d).table.causes (.lamp c) = CauseSet.none := by
    rw [← clear.causes hc]
    show causesOf (takeSequence (clearFault (.lamp c) d)).table.causes (.lamp c) = _
    rw [takeSequence_of_lt counter]
  have lamps : (inserted st (.lamp c) h b cls (.lamp n) flags d).lamps = (clearFault (.lamp c) d).lamps :=
    same_lamps (same_then (bs := [.table]) (same_then (bs := [.table]) (same_takeSequence _) (same_withQuiet _ _))
      (same_putRecord _ _ _))
  have others : ∀ k, k ≠ h → lookup (inserted st (.lamp c) h b cls (.lamp n) flags d) k = lookup (clearFault (.lamp c) d) k :=
    fun k hk => by rw [slots, if_neg hk, lookup_takeSequence_lt counter]
  have top : ∀ k x, lookup (inserted st (.lamp c) h b cls (.lamp n) flags d) k = some x → k ≠ h →
      x.seq < (newIn d st (.lamp c) b cls (.lamp n) flags).seq := fun k x hx hk => by
    rw [others k hk] at hx
    obtain ⟨r, hr⟩ : ∃ r, lookup d k = some r := Option.ne_none_iff_exists'.mp fun c =>
      absurd (lookup_clearFault_none _ c) (by rw [hx]; nofun)
    obtain ⟨y, hy, touched⟩ := lookup_clearFault hc hr
    have := seqs _ (mem_records_of_lookup hr)
    rw [hx] at hy
    rw [Option.some.inj hy, touched.seq, show (refitted c (d.lamps.get c).fault r).seq = r.seq by
      unfold refitted; split <;> rfl, new]
    dsimp only at this ⊢
    omega
  rw [created_now hd, beginRecord_lamp mine (by rw [new])]
  refine LampLit.quiet ?_ none
  generalize inserted st (.lamp c) h b cls (.lamp n) flags d = y at mine table causes lamps others top ⊢
  have level := level_recompute (grant h .immediate y)
  obtain ⟨effective, -, fault, trip⟩ := level.lamps c
  obtain ⟨fault', trip'⟩ := grant_fault .immediate y c
  have granted := lookup_grant mine .immediate
  exact {
    fault := by
      rw [fault, fault', lamps, clear.fault]
    trip := fun hf => by
      rw [trip, trip', lamps, clear.trip hf]
    causes := by
      rw [level.causes _ rfl, (grant_table h .immediate y).2, causes]
    level := by
      rw [effective]
      exact effective_of_grant table mine (by rw [new]) (by rw [new]) causes top
    record := by
      have gr := granted h
      rw [if_pos rfl, show causesOf y.table.causes (newIn d st (.lamp c) b cls (.lamp n) flags).fn = CauseSet.none by
        rw [new]; exact causes, grantAs_none, new] at gr
      exact ⟨_, lookup_recompute_other gr rfl (fun _ => nofun), rfl, rfl, rfl, rfl, rfl, rfl, rfl⟩
    resumed := fun hf k r hr hfn hs => by
      have hk : k ≠ h := fun e => by
        have := slot_of_lookup hr
        rw [e, (slot_of_freeStationSlot free).1] at this
        exact absurd this (by simp)
      obtain ⟨x, hx, touched⟩ := lookup_clearFault hc hr
      unfold refitted at touched
      rw [if_pos ⟨hf, hfn, hs⟩] at touched
      have plain : ∀ p, r.params ≠ .plan p := fun p hp => by
        have := (kinds k r hr).2
        rw [hp, hfn] at this
        cases this
      have same := touched.eq_of_other (by show fnLane r.fn = none; rw [hfn]; rfl) plain
      refine lookup_recompute_other ((granted k).trans ?_) (by show fnLane r.fn = none; rw [hfn]; rfl) plain
      rw [if_neg hk, others k hk, hx, same] }

end

theorem same_created_lamp {d : Device} {st : Station} {b : CreateBody} {c : Channel} {cls : Machine.Class} {params : Params}
    {flags : List Bool} {h : Handle} (ht : TableOk d) (free : freeStationSlot d = some h)
    (hd : b.delay = 0xFFFF#16 ∨ b.delay = 0#16) : sameExcept budgetReach d (created st (.lamp c) h b cls params flags d) := by
  have mine := (lookup_inserted (st := st) (fn := .lamp c) (b := b) (cls := cls) (params := params) (flags := flags) ht free h).trans
    (if_pos rfl)
  rw [created_now hd, beginRecord_lamp mine (by rw [newIn_now hd])]
  exact same_then (same_then (bs := budgetReach) (same_mono same_inserted) (same_recompute_grant h .immediate _)) (same_withQuiet _ _)

theorem setsOk_opened {d : Device} (st : Station) (h : SetsOk d) : SetsOk (opened st d) := by
  obtain ⟨sets, rest⟩ := h
  have entries : ∀ o, ((opened st d).link.stations.get o).entries = (d.link.stations.get o).entries := fun o => by
    by_cases ho : o = st
    · rw [ho, opened_stations, afterReply, PerStation_get_set, goodReply_entries]
    · rw [opened_stations, afterReply_ne d ho]
  exact ⟨fun o => by rw [entries]; exact sets o, rest⟩

/-- Settles O15: the fault is cleared first (`lookup_clearFault`), and then the new record governs its channel (`created_lamp`). -/
theorem createLightsALamp : Obligations.CreateLightsALamp := by
  unfold Obligations.CreateLightsALamp
  intro s st b c win cls l h hp ht kinds tr may hk hcls hf hl hd quota room free hc hn seqs
  have params : createParams (fnKind (.lamp c)) b.fields =
      some (.lamp (min l.toNat 100), [(applyNat 0 100 l.toNat).clamped]) := by
    rw [hf]
    refine (createParams_lamp hl).trans ?_
    rw [applyNat_value, Nat.zero_max]
  have mask : createMask s.dev st b cls [(applyNat 0 100 l.toNat).clamped] =
      timeMask s.dev st b cls + (if 100 < l.toNat then 16 else 0) := by
    have now : ¬ (b.delay ≠ 0xFFFF#16 ∧ 1440 < b.delay.toNat) := fun ⟨h1, h2⟩ => by
      rw [hd.resolve_left h1] at h2
      exact absurd h2 (by decide)
    have past : fieldPast (fnKind (.lamp c)) b.fields = decide (100 < l.toNat) := by
      rw [hf]
      unfold fieldPast
      simp [hl]
    unfold createMask
    rw [if_neg now, maskOf_createParams (by nofun) params, past]
    simp only [decide_eq_true_eq]
    rfl
  have lit := created_lamp (d := opened st s.dev) (st := st) (b := b) (cls := cls) (n := min l.toNat 100)
    (flags := [(applyNat 0 100 l.toNat).clamped]) ht kinds hc hn seqs free hd
  have accepted := create_accepted (d := opened st s.dev) (fn := .lamp c) (h := h) (by rw [hk, hf]; rfl) tr may (by rw [hk]; rfl) hcls params rfl
    quota room free
  have still := (acts_still (d := opened st s.dev) (.create (st := st) (.lamp c) h b cls _ _ free room params rfl)).waiting
  have created := same_created_lamp (d := opened st s.dev) (st := st) (c := c) (cls := cls) (params := .lamp (min l.toNat 100))
    (flags := [(applyNat 0 100 l.toNat).clamped]) ht free hd
  have keeps := fun (sets : SetsOk s.dev) (hf' : (s.dev.lamps.get c).fault = true) k r o =>
    created_keeps (d := opened st s.dev) (st := st) (b := b) (h := h) (c := c) (cls := cls)
      (params := .lamp (min l.toNat 100)) (flags := [(applyNat 0 100 l.toNat).clamped]) (k := k) (r := r) (o := o) ht (setsOk_opened st sets) hc
      hf' hn free hd
  rw [show createMask (opened st s.dev) st b cls [(applyNat 0 100 l.toNat).clamped] = _ from mask] at accepted
  generalize Machine.created st (.lamp c) h b cls _ _ (opened st s.dev) = e at lit accepted still created keeps
  refine answers_block rfl hp accepted still fun d stations same replied => ?_
  have all := same_then (bs := budgetReach) (same_mono (same_opened st s.dev)) (same_then (bs := budgetReach) created
    same)
  rw [lookup_of_same same, same_table same, same_lamps same]
  refine ⟨lit.fault, lit.causes, fun hf' => ⟨lit.trip hf', fun hr m hfn hs => ⟨(lookup_of_same same _).trans ?_, fun sets o ho on => ?_⟩⟩, lit.record, lit.level,
    replied, same_settings all, same_store all, same_bank all, same_accounts all, same_plans all, same_vehicle all, same_clock all⟩
  · exact lit.resumed hf' hr.1 hr.2 (lookup_of_mem_records ht m) hfn hs
  · rw [stations]
    exact keeps sets hf' _ _ o (lookup_of_mem_records ht m) hfn hs ho on

end Sys2Proof.Machine
end

section
/-! PROOF. A plan's record and its driver's unit through the operations of the plan unit: sub-states, preheat, ramp and call
(R26, R180 to R183). -/

namespace Sys2Proof.Machine
open Sys2Proof

/-! ## A plan's record -/

/-- The record at `h` is `r` with the plan `q`, WAKE_AT_RISK as the budget unit has set it. -/
def PlanIs (h : Handle) (r : Record) (q : PlanRec) (d : Device) : Prop :=
  ∃ b, lookup d h = some { r with params := .plan { q with atRisk := b } }

namespace PlanIs

variable {h : Handle} {r : Record} {q : PlanRec} {d e : Device}

theorem of_lookup (hr : lookup d h = some r) (hp : r.params = .plan q) : PlanIs h r q d :=
  ⟨q.atRisk, by rw [hr, ← hp]⟩

theorem congr (p : PlanIs h r q d) (hl : lookup e h = lookup d h) : PlanIs h r q e := by
  obtain ⟨b, hb⟩ := p
  exact ⟨b, hl.trans hb⟩

theorem same (p : PlanIs h r q d) {bs : List Block} (s : sameExcept bs d e) (ht : Block.table ∉ bs := by decide) : PlanIs h r q e :=
  p.congr (lookup_congr (congrArg Table.slots (same_table s ht)) h)

theorem touched (p : PlanIs h r q d) (ho : fnLane r.fn = none) (t : TouchedAll d e) : PlanIs h r q e := by
  obtain ⟨b, hb⟩ := p
  obtain ⟨x, hx, touch⟩ := t.2 h _ hb
  obtain ⟨hs, hw⟩ := touch.other ho
  obtain ⟨a, ha⟩ := touch.plan rfl
  refine ⟨a, hx.trans ?_⟩
  rw [touch.fields, ha, hs, hw]

theorem recompute (p : PlanIs h r q d) (ho : fnLane r.fn = none) : PlanIs h r q (recompute d) :=
  p.touched ho (touchedAll_recompute d)

theorem onPlan (p : PlanIs h r q d) {f : PlanRec → PlanRec} {q' : PlanRec}
    (hf : ∀ b, f { q with atRisk := b } = { q' with atRisk := b }) : PlanIs h r q' (revise h (Machine.onPlan f) d) := by
  obtain ⟨b, hb⟩ := p
  refine ⟨b, ?_⟩
  rw [lookup_revise_self, hb]
  show some { r with params := .plan (f { q with atRisk := b }) } = _
  rw [hf]

theorem enterSub (p : PlanIs h r q d) (ho : fnLane r.fn = none) (s : SubState) :
    PlanIs h r { q with sub := s } (enterSub h s d) :=
  (p.onPlan (q' := { q with sub := s }) fun _ => rfl).recompute ho

theorem takeSequence (p : PlanIs h r q d) :
    ∃ n, (d.table.counter < 4294967295 → n = r.seq) ∧ PlanIs h { r with seq := n } q (takeSequence d) := by
  obtain ⟨b, hb⟩ := p
  rcases Nat.lt_or_ge d.table.counter 4294967295 with hc | hc
  · exact ⟨r.seq, fun _ => rfl, b, (lookup_takeSequence_lt hc h).trans hb⟩
  · refine ⟨seqRank d r.seq, fun c => absurd c (by omega), b, ?_⟩
    rw [takeSequence_of_le hc]
    exact (lookup_renumber d h).trans (by rw [hb]; rfl)

/-- The driver's live plan is read from its record. -/
theorem live (p : PlanIs h r q d) {dr : Driver} (hu : (d.plans.get dr).plan = some h) :
    ∃ b, livePlan d dr = some (h, { r with params := .plan { q with atRisk := b } }, { q with atRisk := b }) := by
  obtain ⟨b, hb⟩ := p
  refine ⟨b, ?_⟩
  unfold livePlan
  rw [hu]
  dsimp only
  rw [hb]
  rfl

theorem plan (p : PlanIs h r q d) : ∃ x b, lookup d h = some x ∧ x.params = .plan { q with atRisk := b } := by
  obtain ⟨b, hb⟩ := p
  exact ⟨_, b, hb, rfl⟩

end PlanIs

theorem livePlan_iff {d : Device} {dr : Driver} {h : Handle} {r : Record} {p : PlanRec} :
    livePlan d dr = some (h, r, p) ↔ (d.plans.get dr).plan = some h ∧ lookup d h = some r ∧ r.params = .plan p := by
  unfold livePlan planOf
  constructor
  · intro e
    split at e
    · rename_i k hk
      split at e
      · rename_i x hx
        obtain ⟨q, hq, he⟩ := Option.map_eq_some_iff.mp e
        cases he
        split at hq
        · rename_i y hy
          cases hq
          exact ⟨hk, hx, hy⟩
        · cases hq
      · cases e
    · cases e
  · rintro ⟨hk, hr, hp⟩
    rw [hk]
    dsimp only
    rw [hr]
    dsimp only
    rw [hp]
    rfl

/-! ## The INTERNAL record (R26) -/

/-- An INTERNAL heat record stands at `k` for the plan `ph` with setpoint `t`. -/
def InternalIs (k ph : Handle) (t : Int) (d : Device) : Prop :=
  ∃ i, lookup d k = some i ∧ i.owner = .internal ∧ i.fn = .heater ∧ i.cls = .essential ∧ i.params = .heat t (some ph) ∧
    (i.state = .granted ∨ i.state = .suspended)

theorem InternalIs.touched {k ph : Handle} {t : Int} {d e : Device} (i : InternalIs k ph t d) (h : TouchedAll d e) :
    InternalIs k ph t e := by
  obtain ⟨r, hr, owner, fn, cls, params, state⟩ := i
  obtain ⟨x, hx, touch⟩ := h.2 k r hr
  exact ⟨x, hx, touch.owner.trans owner, touch.fn.trans fn, touch.cls.trans cls,
    (touch.params_eq (by rw [params]; exact fun _ => nofun)).trans params, touch.stands state⟩

theorem InternalIs.congr {k ph : Handle} {t : Int} {d e : Device} (i : InternalIs k ph t d) (h : lookup e k = lookup d k) :
    InternalIs k ph t e := by
  unfold InternalIs
  rw [h]
  exact i

theorem InternalIs.enterSub {k ph h : Handle} {t : Int} {d : Device} (i : InternalIs k ph t d) (hk : k ≠ h) (s : SubState) :
    InternalIs k ph t (enterSub h s d) :=
  (i.congr (e := revise h (onPlan (setSub s)) d) (lookup_revise_ne _ d hk)).touched (touchedAll_recompute _)

/-- What an amended preheat makes of the record that stands in the reserved slot. -/
def Reheated (x : Record) (k ph : Handle) (t : Int) (n : Nat) (d : Device) : Prop :=
  ∃ i, lookup d k = some i ∧ i.owner = x.owner ∧ i.fn = x.fn ∧ i.cls = x.cls ∧ i.params = .heat t (some ph) ∧ i.seq = n

theorem Reheated.congr {x : Record} {k ph : Handle} {t : Int} {n : Nat} {d e : Device} (i : Reheated x k ph t n d)
    (h : lookup e k = lookup d k) : Reheated x k ph t n e := by
  unfold Reheated
  rw [h]
  exact i

/-- The reserved slot of the driver has a generation that a handle can name. -/
def Reserved (dr : Driver) (d : Device) : Prop := ∀ s, d.table.slots[internalSlot dr]? = some s → s.gen ≠ 0

theorem reserved_of_tableOk (dr : Driver) {d : Device} (ht : TableOk d) : Reserved dr d := fun _ hs => gen_ne_zero ht hs

theorem Reserved.congr {dr : Driver} {d e : Device} (h : Reserved dr d) (ho : occupancy e = occupancy d) : Reserved dr e := by
  intro s hs
  have := congrArg (·[internalSlot dr]?) ho
  simp only [occupancy_getElem?, hs, Option.map_some] at this
  obtain ⟨x, hx, hg⟩ := Option.map_eq_some_iff.mp this.symm
  rw [← (Prod.mk.inj hg).1]
  exact h x hx

/-! ## The preheat -/

section
variable {dr : Driver} {h : Handle} {t : Int} {d : Device}

theorem lookup_storeInternal {k : Handle} (hk : k ≠ h) (o : Option Handle) : lookup (storeInternal h o d) k = lookup d k := by
  unfold storeInternal
  split
  · rename_i r hr
    exact lookup_putRecord_ne (slot_of_lookup hr) hk
  · rfl

theorem planIs_storeInternal {r : Record} {q : PlanRec} (p : PlanIs h r q d) (o : Option Handle) :
    PlanIs h r { q with internal := o } (storeInternal h o d) := by
  obtain ⟨b, hb⟩ := p
  refine ⟨b, ?_⟩
  unfold storeInternal
  rw [hb]
  exact (lookup_putRecord hb h).trans (if_pos rfl)

theorem storeInternal_lamps (o : Option Handle) : (storeInternal h o d).lamps = d.lamps :=
  same_lamps (same_storeInternal h o d)

theorem preheat_free {g : Nat} (hs : d.table.slots[internalSlot dr]? = some ⟨g, none⟩) :
    preheat dr h t d = admission ⟨internalSlot dr, g⟩ .heat .essential (storeInternal h (some ⟨internalSlot dr, g⟩)
      (putRecord ⟨internalSlot dr, g⟩ (internalRecord h t (takeSequence d).table.counter (takeSequence d).settings.deferralLimit)
        (takeSequence d))) := by
  unfold preheat
  dsimp only
  rw [hs]

theorem preheat_taken {g : Nat} {x : Record} (hs : d.table.slots[internalSlot dr]? = some ⟨g, some x⟩) :
    preheat dr h t d = recompute (pushValue .heater (revise ⟨internalSlot dr, g⟩
      (fun r => { r with seq := (takeSequence d).table.counter, params := .heat t (some h) }) (takeSequence d))) := by
  unfold preheat
  dsimp only
  rw [hs]

/-- What a preheat makes of the plan `h`, whose record was `r` with the plan `q`, and of the reserved slot. -/
structure Preheated (dr : Driver) (h : Handle) (t : Int) (r : Record) (q : PlanRec) (d e : Device) : Prop where
  plan : ∃ n i, (d.table.counter < 4294967295 → n = r.seq) ∧ PlanIs h { r with seq := n } { q with internal := i } e ∧
    ∀ g, d.table.slots[internalSlot dr]? = some ⟨g, none⟩ → i = some ⟨internalSlot dr, g⟩
  created : ∀ g, d.table.slots[internalSlot dr]? = some ⟨g, none⟩ → InternalIs ⟨internalSlot dr, g⟩ h t e
  amended : ∀ g x, d.table.slots[internalSlot dr]? = some ⟨g, some x⟩ → d.table.counter < 4294967295 →
    Reheated x ⟨internalSlot dr, g⟩ h t (d.table.counter + 1) e
  lamps : LampsKept d.lamps e.lamps

theorem preheated_free {r : Record} {q : PlanRec} {g : Nat} (p : PlanIs h r q d) (ho : fnLane r.fn = none) (low : h.slot < 46)
    (hg : g ≠ 0) (hs : d.table.slots[internalSlot dr]? = some ⟨g, none⟩) : Preheated dr h t r q d (preheat dr h t d) := by
  have apart : h ≠ ⟨internalSlot dr, g⟩ := fun c => by
    have := internalSlot_ge dr
    rw [c] at low
    exact absurd low (by show ¬ internalSlot dr < 46; omega)
  obtain ⟨n, hn, p1⟩ := p.takeSequence
  have hs1 := free_of_occupancy (occupancy_takeSequence d) hs
  have lamps1 : (takeSequence d).lamps = d.lamps := same_lamps (same_takeSequence d)
  rw [preheat_free hs]
  generalize hi : internalRecord h t (takeSequence d).table.counter (takeSequence d).settings.deferralLimit = i
  have p2 : PlanIs h { r with seq := n } q (putRecord ⟨internalSlot dr, g⟩ i (takeSequence d)) :=
    p1.congr (lookup_putRecord_ne hs1 apart)
  have i2 : lookup (putRecord ⟨internalSlot dr, g⟩ i (takeSequence d)) ⟨internalSlot dr, g⟩ = some i :=
    lookup_putRecord_own (internalSlot_le dr) hg hs1
  have p3 := planIs_storeInternal p2 (some ⟨internalSlot dr, g⟩)
  have i3 := (lookup_storeInternal (Ne.symm apart) (some ⟨internalSlot dr, g⟩)).trans i2
  have lamps3 : (storeInternal h (some ⟨internalSlot dr, g⟩) (putRecord ⟨internalSlot dr, g⟩ i (takeSequence d))).lamps = d.lamps :=
    (storeInternal_lamps _).trans lamps1
  generalize storeInternal h (some ⟨internalSlot dr, g⟩) (putRecord ⟨internalSlot dr, g⟩ i (takeSequence d)) = y at p3 i3 lamps3
  rw [admission_granted admits_essential]
  have granted := lookup_grant i3 .admitted
  exact {
    plan := ⟨n, _, hn, (p3.congr ((granted h).trans (if_neg apart))).recompute ho, fun g' hs' => by
      rw [hs] at hs'
      cases hs'
      rfl⟩
    created := fun g' hs' => by
      rw [hs] at hs'
      cases hs'
      obtain ⟨x, hx, state, fields, params⟩ := lookup_admitted i3
      rw [← hi] at fields params
      exact ⟨x, hx, by rw [fields]; rfl, by rw [fields]; rfl, by rw [fields]; rfl, params (fun _ => nofun), state⟩
    amended := fun g' x hs' => by
      rw [hs] at hs'
      cases hs'
    lamps := by
      rw [← lamps3]
      exact (grant_lamps (l := .heat) i3 (by rw [← hi]; rfl) .admitted).trans (level_recompute _).lamps }

theorem preheated_taken {r : Record} {q : PlanRec} {g : Nat} {x : Record} (p : PlanIs h r q d) (ho : fnLane r.fn = none)
    (low : h.slot < 46) (hg : g ≠ 0) (hs : d.table.slots[internalSlot dr]? = some ⟨g, some x⟩) :
    Preheated dr h t r q d (preheat dr h t d) := by
  have apart : h ≠ ⟨internalSlot dr, g⟩ := fun c => by
    have := internalSlot_ge dr
    rw [c] at low
    exact absurd low (by show ¬ internalSlot dr < 46; omega)
  obtain ⟨n, hn, p1⟩ := p.takeSequence
  have lamps1 : (takeSequence d).lamps = d.lamps := same_lamps (same_takeSequence d)
  rw [preheat_taken hs]
  have p2 : PlanIs h { r with seq := n } q (pushValue .heater (revise ⟨internalSlot dr, g⟩
      (fun r => { r with seq := (takeSequence d).table.counter, params := .heat t (some h) }) (takeSequence d))) :=
    p1.congr (by rw [lookup_pushValue, lookup_revise_ne _ _ apart])
  exact {
    plan := ⟨n, q.internal, hn, p2.recompute ho, fun g' hs' => by
      rw [hs] at hs'
      cases hs'⟩
    created := fun g' hs' => by
      rw [hs] at hs'
      cases hs'
    amended := fun g' x' hs' hc => by
      rw [hs] at hs'
      cases hs'
      have old : lookup d ⟨internalSlot dr, g⟩ = some x := lookup_of_slot hs (internalSlot_le dr) hg
      have new : lookup (pushValue .heater (revise ⟨internalSlot dr, g⟩
          (fun r => { r with seq := (takeSequence d).table.counter, params := .heat t (some h) }) (takeSequence d)))
          ⟨internalSlot dr, g⟩ = some { x with seq := d.table.counter + 1, params := .heat t (some h) } := by
        rw [lookup_pushValue, lookup_revise_self, lookup_takeSequence_lt hc, old, takeSequence_counter_lt hc]
        rfl
      obtain ⟨i, hi, touch⟩ := lookup_recompute new
      exact ⟨i, hi, touch.owner, touch.fn, touch.cls, touch.params_eq (fun _ => nofun), touch.seq⟩
    lamps := by
      rw [← lamps1]
      exact (((Level.revise _ _ _).trans (level_pushValue .heat _)).trans (level_recompute _)).lamps }

theorem preheated {r : Record} {q : PlanRec} (p : PlanIs h r q d) (ho : fnLane r.fn = none) (low : h.slot < 46)
    (hg : Reserved dr d) : Preheated dr h t r q d (preheat dr h t d) := by
  cases hs : d.table.slots[internalSlot dr]? with
  | none =>
    have idle : preheat dr h t d = d := by
      unfold preheat
      dsimp only
      rw [hs]
    rw [idle]
    exact ⟨⟨r.seq, q.internal, fun _ => rfl, p, fun g h => absurd (hs.symm.trans h) nofun⟩,
      fun g h => absurd (hs.symm.trans h) nofun, fun g x h => absurd (hs.symm.trans h) nofun, lampsKept_refl _⟩
  | some s =>
    have gen := hg s hs
    obtain ⟨g, o⟩ := s
    cases o with
    | none => exact preheated_free p ho low gen hs
    | some x => exact preheated_taken p ho low gen hs

end

/-! ## Unit, ramp and call -/

section
variable {dr : Driver} {d : Device}

theorem get_set_driver {α : Type} (x : PerDriver α) (a : α) (i k : Driver) :
    (x.set a i).get k = if k = i then a else x.get k := by
  cases i <;> cases k <;> rfl

theorem setUnit_get (dr : Driver) (f : PlanUnit → PlanUnit) (d : Device) :
    (setUnit dr f d).plans.get dr = f (d.plans.get dr) := PerDriver_get_set _ _ _

theorem setUnit_units (dr : Driver) (f : PlanUnit → PlanUnit) (d : Device) (x : Driver) :
    (setUnit dr f d).plans.get x = if x = dr then f (d.plans.get dr) else d.plans.get x := get_set_driver _ _ _ _

theorem setUnit_get_ne {x : Driver} (hx : x ≠ dr) (f : PlanUnit → PlanUnit) (d : Device) :
    (setUnit dr f d).plans.get x = d.plans.get x := PerDriver_get_set_ne _ _ hx

/-- A ramp's level on one channel for one driver. -/
def rampAt (dr : Driver) (c : Channel) (d : Device) : Option Nat := (d.lamps.get c).ramp.get dr

theorem rampAt_kept {e : Device} (h : LampsKept d.lamps e.lamps) (c : Channel) : rampAt dr c e = rampAt dr c d := by
  unfold rampAt
  rw [(h c).2.1]

theorem rampAt_rampStart (chans : PerChannel Bool) (n : Nat) (c : Channel) :
    rampAt dr c (rampStart dr chans n d) = if chans.get c = true then some n else rampAt dr c d := by
  unfold rampAt rampStart
  dsimp only
  rw [get_imap]
  split
  · exact PerDriver_get_set _ _ _
  · rfl

theorem rampAt_rampLevel (n : Nat) (c : Channel) :
    rampAt dr c (rampLevel dr n d) = (rampAt dr c d).map fun _ => n := by
  unfold rampAt rampLevel
  dsimp only
  rw [get_imap]
  split
  · rename_i h
    obtain ⟨m, hm⟩ := Option.isSome_iff_exists.mp h
    rw [hm]
    exact PerDriver_get_set _ _ _
  · rename_i h
    rw [Option.not_isSome_iff_eq_none.mp h]
    rfl

theorem rampLevel_out (n : Nat) (c : Channel) : ((rampLevel dr n d).lamps.get c).out = (d.lamps.get c).out := by
  unfold rampLevel
  dsimp only
  rw [get_imap]
  split <;> rfl

section
variable {p : PlanRec} {w : WakeLight}

theorem rampAt_handRamp (c : Channel) :
    rampAt dr c (handRamp dr p w d) = (rampAt dr c d).map fun _ => rampLevelOf (rampFor d.clock.sec p w) := by
  unfold handRamp
  exact rampAt_rampLevel _ c

theorem rampAt_beginRamp (c : Channel) : rampAt dr c (beginRamp dr p w d) =
    if w.channels.get c = true then some (rampLevelOf (rampFor d.clock.sec p w))
    else (rampAt dr c d).map fun _ => rampLevelOf (rampFor d.clock.sec p w) := by
  unfold beginRamp
  rw [rampAt_handRamp, rampAt_rampStart]
  split <;> rfl

theorem handRamp_plans : (handRamp dr p w d).plans = (setUnit dr (fun u => { u with ramp := rampFor d.clock.sec p w }) d).plans := rfl

theorem beginRamp_plans : (beginRamp dr p w d).plans = (setUnit dr (fun u => { u with ramp := rampFor d.clock.sec p w }) d).plans := rfl

theorem rampFor_ne (n : Nat) : rampFor n p w ≠ .none := by
  unfold rampFor
  dsimp only
  split <;> nofun

/-- The level that a second gives to a rising ramp (R182). -/
theorem rampFor_eq {n e : Nat} (he : p.plannedEnd = some e) : rampFor n p w =
    if p.sub = .due ∨ p.lead = 0 then .held w.level
    else .rising (if n + p.lead * 60 < e then 0 else min w.level (w.level * (n + p.lead * 60 - e) / (p.lead * 60))) := by
  unfold rampFor
  by_cases hd : p.sub = .due ∨ p.lead = 0
  · rw [if_pos hd, if_pos hd]
  · rw [if_neg hd, if_neg hd, he]
    dsimp only [Option.getD_some]
    congr 1
    split
    · rename_i early
      have neg : (w.level : Int) * ((n : Int) + ((p.lead * 60 : Nat) : Int) - (e : Int)) / ((p.lead * 60 : Nat) : Int) ≤ 0 := by
        refine Int.ediv_nonpos_of_nonpos_of_neg ?_ (by omega)
        exact Int.mul_nonpos_of_nonneg_of_nonpos (Int.natCast_nonneg _) (by omega)
      rw [Int.toNat_of_nonpos neg, Nat.min_zero]
    · rename_i late
      have since : (n : Int) + ((p.lead * 60 : Nat) : Int) - (e : Int) = ((n + p.lead * 60 - e : Nat) : Int) := by omega
      rw [since, ← Int.natCast_mul, ← Int.natCast_ediv, Int.toNat_natCast]

end

end

/-! ## Preheat where one is called for -/

section
variable {dr : Driver} {h : Handle} {r : Record} {q : PlanRec} {d : Device} {o : Option Int}

/-- The preheat to a setpoint, where one is given. -/
def heated (dr : Driver) (h : Handle) (o : Option Int) (d : Device) : Device :=
  match o with
  | some t => preheat dr h t d
  | none => d

theorem same_heated (dr : Driver) (h : Handle) (o : Option Int) (d : Device) : sameExcept budgetBlocks d (heated dr h o d) := by
  cases o with
  | none => exact same_refl _ d
  | some t => exact same_preheat dr h t d

/-- What a preheat, where one is called for, makes of the plan, of the reserved slot and of the lamps. -/
structure Heated (dr : Driver) (h : Handle) (o : Option Int) (r : Record) (q : PlanRec) (d e : Device) : Prop where
  plan : ∃ n i, (d.table.counter < 4294967295 → n = r.seq) ∧ PlanIs h { r with seq := n } { q with internal := i } e ∧
    (o = none → i = q.internal) ∧
    ∀ t g, o = some t → d.table.slots[internalSlot dr]? = some ⟨g, none⟩ →
      i = some ⟨internalSlot dr, g⟩ ∧ InternalIs ⟨internalSlot dr, g⟩ h t e
  amended : ∀ t g x, o = some t → d.table.slots[internalSlot dr]? = some ⟨g, some x⟩ → d.table.counter < 4294967295 →
    Reheated x ⟨internalSlot dr, g⟩ h t (d.table.counter + 1) e
  lamps : LampsKept d.lamps e.lamps

theorem heated_spec (p : PlanIs h r q d) (ho : fnLane r.fn = none) (low : h.slot < 46) (hg : Reserved dr d) :
    Heated dr h o r q d (heated dr h o d) := by
  cases o with
  | none => exact ⟨⟨r.seq, q.internal, fun _ => rfl, p, fun _ => rfl, fun _ _ c => (nomatch c)⟩, fun _ _ _ c => (nomatch c),
      lampsKept_refl _⟩
  | some t =>
    obtain ⟨⟨n, i, hn, plan, hi⟩, created, amended, lamps⟩ := preheated (t := t) p ho low hg
    refine ⟨⟨n, i, hn, plan, nofun, fun t' g ht hs => ?_⟩, fun t' g x ht => ?_, lamps⟩
    · cases ht
      exact ⟨hi g hs, created g hs⟩
    · cases ht
      exact amended g x

end

/-! ## Entry to WAKING and to DUE (R180 to R183) -/

section
variable {dr : Driver} {h : Handle} {r : Record} {q : PlanRec} {d : Device}

/-- The ramp that a plan's light starts, where it has one. -/
def lit (dr : Driver) (q : PlanRec) (d : Device) : Device :=
  match q.light with
  | some w => beginRamp dr q w d
  | none => d

/-- The ramp of a driver whose plan has a light, and of one whose plan has none. -/
def rampOf (n : Nat) (q : PlanRec) (old : Ramp) : Ramp :=
  match q.light with
  | some w => rampFor n q w
  | none => old

theorem same_lit (dr : Driver) (q : PlanRec) (d : Device) : sameExcept [.plans, .lamps] d (lit dr q d) := by
  unfold lit
  split
  · exact same_beginRamp _ _ _ _
  · exact same_refl _ d

theorem lit_plans (dr : Driver) (q : PlanRec) (d : Device) (x : Driver) : (lit dr q d).plans.get x =
    if x = dr then { d.plans.get dr with ramp := rampOf d.clock.sec q (d.plans.get dr).ramp } else d.plans.get x := by
  unfold lit rampOf
  split
  · rw [beginRamp_plans]
    exact get_set_driver _ _ _ _
  · split
    · rename_i hx
      rw [hx]
    · rfl

theorem enterWaking_eq {b : Bool} {x : Record} (hl : livePlan d dr = some (h, x, { q with atRisk := b })) :
    enterWaking dr d = lit dr { q with sub := .waking } (heated dr h q.preheat (enterSub h .waking d)) := by
  unfold enterWaking
  rw [hl]
  dsimp only
  unfold lit heated
  cases q.light <;> cases q.preheat <;> rfl

/-- What the entry to WAKING makes of the plan and its driver's unit. -/
structure Woken (dr : Driver) (h : Handle) (r : Record) (q : PlanRec) (d e : Device) : Prop where
  plan : ∃ n i, (d.table.counter < 4294967295 → n = r.seq) ∧ PlanIs h { r with seq := n } { q with sub := .waking, internal := i } e ∧
    (q.preheat = none → i = q.internal) ∧
    ∀ t g, q.preheat = some t → d.table.slots[internalSlot dr]? = some ⟨g, none⟩ →
      i = some ⟨internalSlot dr, g⟩ ∧ InternalIs ⟨internalSlot dr, g⟩ h t e
  units : ∀ x, e.plans.get x = if x = dr then
    { d.plans.get dr with ramp := rampOf d.clock.sec { q with sub := .waking } (d.plans.get dr).ramp } else d.plans.get x
  ramps : ∀ w, q.light = some w → ∀ c, w.channels.get c = true →
    rampAt dr c e = some (rampLevelOf (rampFor d.clock.sec { q with sub := .waking } w))
  same : sameExcept (.plans :: budgetBlocks) d e

theorem occupancy_enterSub (h : Handle) (s : SubState) (d : Device) : occupancy (enterSub h s d) = occupancy d := by
  unfold enterSub
  rw [occupancy_recompute, occupancy_revise]

theorem enterSub_counter (h : Handle) (s : SubState) (d : Device) : (enterSub h s d).table.counter = d.table.counter := by
  unfold enterSub
  rw [(level_recompute _).counter, revise_counter]

theorem enterWaking_woken (p : PlanIs h r q d) (hu : (d.plans.get dr).plan = some h) (ho : fnLane r.fn = none)
    (low : h.slot < 46) (hg : Reserved dr d) : Woken dr h r q d (enterWaking dr d) := by
  obtain ⟨b, hb⟩ := p.live hu
  rw [enterWaking_eq hb]
  have p1 := p.enterSub ho .waking
  have occ := occupancy_enterSub h .waking d
  have s1 := same_enterSub h .waking d
  have counter := enterSub_counter h .waking d
  generalize enterSub h .waking d = d1 at p1 occ s1 counter
  obtain ⟨⟨n, i, hn, p2, hi, hs⟩, -, -⟩ := heated_spec (o := q.preheat) p1 ho low (hg.congr occ)
  have s2 := same_then s1 (same_heated dr h q.preheat d1)
  generalize heated dr h q.preheat d1 = d2 at p2 hs s2
  have s3 := same_lit dr { q with sub := .waking } d2
  have units := lit_plans dr { q with sub := .waking } d2
  have clock := same_clock s2
  rw [same_plans s2, clock] at units
  refine ⟨⟨n, i, fun c => hn (counter ▸ c), p2.same s3, hi, fun t g ht hf => ?_⟩, units, fun w hw c hc => ?_,
    same_then (bs := .plans :: budgetBlocks) (same_mono s2) s3⟩
  · obtain ⟨h1, h2⟩ := hs t g ht (free_of_occupancy occ hf)
    exact ⟨h1, h2.congr (lookup_congr (congrArg Table.slots (same_table s3)) _)⟩
  · rw [← clock]
    unfold lit
    rw [hw]
    exact (rampAt_beginRamp c).trans (if_pos hc)

/-- The call that a plan's buzzer starts, where it is set. -/
def called (dr : Driver) (q : PlanRec) (d : Device) : Device := if q.buzzer = true then beginCall dr d else d

/-- The ramp level of the second, for a plan with a light. -/
def handed (dr : Driver) (q : PlanRec) (d : Device) : Device :=
  match q.light with
  | some w => handRamp dr q w d
  | none => d

theorem enterDue_eq {b : Bool} {x : Record} (hl : livePlan d dr = some (h, x, { q with atRisk := b })) :
    enterDue dr d = called dr q (setUnit dr (fun u => { u with dueTimer := 0 })
      (handed dr { q with sub := .due } (enterSub h .due d))) := by
  unfold enterDue
  rw [hl]
  dsimp only
  unfold called handed
  cases q.light <;> rfl

/-- The unit of a driver whose call begins at second `n`. -/
def PlanUnit.calls (n : Nat) (u : PlanUnit) : PlanUnit := { u with call := .calling, nextCall := n + 30 }

/-- The account of a driver whose call sounds at second `n`. -/
def Account.sounds (n : Nat) (a : Account) : Account := { a with lastOnset := some n, bunkUntil := some (n + 3) }

theorem beginCall_plans (x : Driver) : (beginCall dr d).plans.get x =
    if x = dr then PlanUnit.calls d.clock.sec (d.plans.get dr) else d.plans.get x := by
  show ((d.plans.set _ dr).set _ dr).get x = _
  rw [get_set_driver, get_set_driver]
  split
  · rw [setUnit_get]
    rfl
  · rfl

theorem beginCall_accounts : (beginCall dr d).accounts = d.accounts.set (Account.sounds d.clock.sec (d.accounts.get dr)) dr := rfl

theorem same_handed (dr : Driver) (q : PlanRec) (d : Device) : sameExcept [.plans, .lamps] d (handed dr q d) := by
  unfold handed
  split
  · exact same_handRamp _ _ _ _
  · exact same_refl _ d

theorem handed_plans (dr : Driver) (q : PlanRec) (d : Device) (x : Driver) : (handed dr q d).plans.get x =
    if x = dr then { d.plans.get dr with ramp := rampOf d.clock.sec q (d.plans.get dr).ramp } else d.plans.get x := by
  unfold handed rampOf
  split
  · rw [handRamp_plans]
    exact get_set_driver _ _ _ _
  · split
    · rename_i hx
      rw [hx]
    · rfl

theorem same_called (dr : Driver) (q : PlanRec) (d : Device) : sameExcept [.plans, .accounts] d (called dr q d) :=
  same_ite (same_beginCall dr d) (same_refl _ d)

theorem called_plans (x : Driver) : (called dr q d).plans.get x =
    if x = dr then (if q.buzzer = true then PlanUnit.calls d.clock.sec (d.plans.get dr) else d.plans.get dr)
    else d.plans.get x := by
  unfold called
  split
  · exact beginCall_plans x
  · split
    · rename_i hx
      rw [hx]
    · rfl

theorem called_accounts : (called dr q d).accounts =
    if q.buzzer = true then d.accounts.set (Account.sounds d.clock.sec (d.accounts.get dr)) dr else d.accounts := by
  unfold called
  split <;> rfl

/-- What the entry to DUE makes of the plan and its driver's unit. -/
structure Due (dr : Driver) (h : Handle) (r : Record) (q : PlanRec) (d e : Device) : Prop where
  plan : PlanIs h r { q with sub := .due } e
  internal : ∀ k ph t, k ≠ h → InternalIs k ph t d → InternalIs k ph t e
  units : ∀ x, e.plans.get x = if x = dr then
      let u := { d.plans.get dr with ramp := rampOf d.clock.sec { q with sub := .due } (d.plans.get dr).ramp, dueTimer := 0 }
      if q.buzzer = true then PlanUnit.calls d.clock.sec u else u
    else d.plans.get x
  accounts : e.accounts = if q.buzzer = true then d.accounts.set (Account.sounds d.clock.sec (d.accounts.get dr)) dr
    else d.accounts
  same : sameExcept (.accounts :: .plans :: budgetBlocks) d e

theorem enterDue_due (p : PlanIs h r q d) (hu : (d.plans.get dr).plan = some h) (ho : fnLane r.fn = none) :
    Due dr h r q d (enterDue dr d) := by
  obtain ⟨b, hb⟩ := p.live hu
  rw [enterDue_eq hb]
  have p1 := p.enterSub ho .due
  have i1 := fun k ph t (hk : k ≠ h) (i : InternalIs k ph t d) => i.enterSub hk .due
  have s1 := same_enterSub h .due d
  generalize enterSub h .due d = d1 at p1 s1 i1
  have s2 := same_handed dr { q with sub := .due } d1
  have u2 := handed_plans dr { q with sub := .due } d1
  rw [same_plans s1, same_clock s1] at u2
  generalize handed dr { q with sub := .due } d1 = d2 at s2 u2
  have s3 := same_setUnit dr (fun u => { u with dueTimer := 0 }) d2
  have u3 := setUnit_units dr (fun u => { u with dueTimer := 0 }) d2
  generalize setUnit dr (fun u => { u with dueTimer := 0 }) d2 = d3 at s3 u3
  have s4 := same_called dr q d3
  have s : sameExcept (.plans :: budgetBlocks) d d3 := same_then (same_then (same_mono s1) s2) s3
  have table : (called dr q d3).table = d1.table := (same_table s4).trans ((same_table s3).trans (same_table s2))
  have look := fun k => lookup_congr (congrArg Table.slots table) k
  refine ⟨p1.congr (look h), fun k ph t hk i => (i1 k ph t hk i).congr (look k), fun x => ?_, ?_,
    same_then (bs := .accounts :: .plans :: budgetBlocks) (same_mono s) s4⟩
  · rw [called_plans, u3, u3, u2, u2, if_pos rfl, if_pos rfl, same_clock s]
    by_cases hx : x = dr
    · rw [if_pos hx, if_pos hx]
    · rw [if_neg hx, if_neg hx, if_neg hx, if_neg hx]
  · rw [called_accounts, same_accounts s, same_clock s]

end

end Sys2Proof.Machine
end

section
/-! PROOF. AMEND: the fields that it replaces with their bits in the clamp mask, its refusals, and its answer (R3 to R5, R19,
R37, R39, R198). -/

namespace Sys2Proof.Machine
open Sys2Proof

/-! ## The bits of kind parameters -/

theorem maskOf_one (b : Bool) : 16 * maskOf [b] = if b = true then 16 else 0 := by cases b <;> rfl

theorem maskOf_six (a b c d e : Bool) : 16 * maskOf [a, b, c, d, e, false] =
    (if a then 16 else 0) + (if b then 32 else 0) + (if c then 64 else 0) + (if d then 128 else 0) + (if e then 256 else 0) := by
  simp only [maskOf, flagsByte]
  cases a <;> cases b <;> cases c <;> cases d <;> cases e <;> rfl

theorem noChannels_iff (b : Byte) : channelSetOfByte b = noChannels ↔ ∀ i : Fin 6, b.getLsbD i = false := by
  unfold channelSetOfByte noChannels
  simp only [PerChannel.mk.injEq]
  constructor
  · rintro ⟨h0, h1, h2, h3, h4, h5⟩ i
    fin_cases i
    · exact h0
    · exact h1
    · exact h2
    · exact h3
    · exact h4
    · exact h5
  · intro h
    exact ⟨h 0, h 1, h 2, h 3, h 4, h 5⟩

theorem applyLight_eq (channels level : Byte) : applyLight channels level =
    if ∀ i : Fin 6, channels.getLsbD i = false then (none, true, false)
    else (some ⟨channelSetOfByte channels, min level.toNat 100⟩, false, (applyNat 0 100 level.toNat).clamped) := by
  unfold applyLight
  dsimp only
  by_cases h : channelSetOfByte channels = noChannels
  · rw [if_pos h, if_pos ((noChannels_iff channels).mp h)]
  · rw [if_neg h, if_neg (fun c => h ((noChannels_iff channels).mpr c)), applyNat_value, Nat.zero_max]

theorem temp_clamped (w : Word16) : (((tempOfWord w).map setpointRange).map Applied.clamped).getD false = true ↔
    w ≠ 0x7FFF#16 ∧ (w.toInt < 10 ∨ 60 < w.toInt) := by
  unfold tempOfWord
  by_cases h : w = 0x7FFF#16
  · rw [if_pos h]
    simp [h]
  · rw [if_neg h]
    show (applyInt 10 60 w.toInt).clamped = true ↔ _
    rw [applyInt_clamped (by decide)]
    simp [h]

/-- The bits of a plan's parameters, where the length's and the lead's stand as they should. -/
theorem planMask {f : PlanFields} {len lead : Bool} (hlen : len = true ↔ f.len ≠ 0xFFFF#16 ∧ (f.len.toNat < 30 ∨ 1440 < f.len.toNat))
    (hlead : lead = true ↔ f.lead ≠ 0xFF#8 ∧ 90 < f.lead.toNat) (none' : Option WakeLight) :
    16 * maskOf [len, lead, (((tempOfWord f.preheat).map setpointRange).map Applied.clamped).getD false,
      (if f.level = byteAbsent then (none', false, false) else applyLight f.channels f.level).2.1,
      (if f.level = byteAbsent then (none', false, false) else applyLight f.channels f.level).2.2, false] = planPast f := by
  rw [maskOf_six, bit_eq hlen, bit_eq hlead, bit_eq (temp_clamped _)]
  unfold planPast
  dsimp only
  have level : (f.level = byteAbsent) = (f.level = 0xFF#8) := rfl
  by_cases hl : f.level = 0xFF#8
  · rw [if_pos (level.mpr hl)]
    simp [hl]
  · rw [if_neg (fun c => hl (level.mp c)), applyLight_eq]
    by_cases he : ∀ i : Fin 6, f.channels.getLsbD i = false
    · rw [if_pos he]
      simp only [if_pos he, hl, he, ne_eq, not_false_eq_true, true_and, not_true_eq_false, false_and, if_true, if_false]
      rfl
    · rw [if_neg he]
      have past : (applyNat 0 100 f.level.toNat).clamped = true ↔ f.level ≠ 0xFF#8 ∧ (¬ ∀ i : Fin 6, f.channels.getLsbD i = false) ∧
          100 < f.level.toNat := by
        rw [applyNat_clamped (by decide)]
        exact ⟨fun c => ⟨hl, he, c.resolve_left (by omega)⟩, fun c => .inr c.2.2⟩
      rw [bit_eq past, if_neg (fun c : f.level ≠ 0xFF#8 ∧ ∀ i : Fin 6, f.channels.getLsbD i = false => he c.2)]
      rfl

/-- What a CREATE makes of a plan's fields (R4). -/
theorem createParams_plan_fields {f : PlanFields} {p : PlanRec} {flags : List Bool}
    (h : createParams .restPlan (.plan f) = some (.plan p, flags)) :
    p.len = max 30 (min f.len.toNat 1440) ∧ p.lead = (if f.lead = 0xFF#8 then 0 else min f.lead.toNat 90) ∧
      p.sub = .waiting ∧ p.plannedEnd = none ∧ p.internal = none ∧ 16 * maskOf flags = planPast f := by
  by_cases hl : f.len = minutesAbsent
  · rw [createParams_plan_absent hl] at h
    cases h
  · have e := h
    unfold createParams at e
    dsimp only at e
    rw [if_neg hl] at e
    obtain ⟨hp, rfl⟩ := Prod.mk.inj (Option.some.inj e)
    cases hp
    refine ⟨rfl, ?_, rfl, rfl, rfl, planMask ?_ ?_ none⟩
    · show max 0 (min (if f.lead = byteAbsent then 0 else f.lead.toNat) 90) = _
      by_cases hd : f.lead = byteAbsent
      · rw [if_pos hd, if_pos (show f.lead = 0xFF#8 from hd)]
        rfl
      · rw [if_neg hd, if_neg (show ¬ f.lead = 0xFF#8 from hd)]
        omega
    · rw [applyNat_clamped (by decide)]
      exact ⟨fun c => ⟨hl, c⟩, fun c => c.2⟩
    · rw [applyNat_clamped (by decide)]
      by_cases hd : f.lead = byteAbsent
      · rw [if_pos hd]
        exact ⟨fun c => absurd c (by omega), fun c => absurd hd c.1⟩
      · rw [if_neg hd]
        exact ⟨fun c => ⟨hd, c.resolve_left (by omega)⟩, fun c => .inr c.2⟩

/-- A plan with the fields that an AMEND gives (R19, R185). -/
def planGiven (p : PlanRec) (f : PlanFields) : PlanRec :=
  { p with
    len := if f.len = 0xFFFF#16 then p.len else max 30 (min f.len.toNat 1440)
    lead := if f.lead = 0xFF#8 then p.lead else min f.lead.toNat 90
    preheat := if f.preheat = 0x7FFF#16 then p.preheat else some (max 10 (min f.preheat.toInt 60))
    light := if f.level = 0xFF#8 then p.light else if ∀ i : Fin 6, f.channels.getLsbD i = false then none
      else some ⟨channelSetOfByte f.channels, min f.level.toNat 100⟩
    buzzer := if f.buzzer = 0xFF#8 then p.buzzer else f.buzzer.getLsbD 0 }

theorem amendParams_plan (p : PlanRec) (f : PlanFields) :
    (amendParams (.plan p) (.plan f)).1 = .plan (planGiven p f) ∧ 16 * maskOf (amendParams (.plan p) (.plan f)).2 = planPast f := by
  unfold amendParams
  dsimp only
  constructor
  · unfold planGiven
    congr 2
    · by_cases h : f.len = minutesAbsent
      · rw [if_pos h, if_pos (show f.len = 0xFFFF#16 from h)]
      · rw [if_neg h, if_neg (show ¬ f.len = 0xFFFF#16 from h)]
        rfl
    · by_cases h : f.lead = byteAbsent
      · rw [if_pos h, if_pos (show f.lead = 0xFF#8 from h)]
      · rw [if_neg h, if_neg (show ¬ f.lead = 0xFF#8 from h)]
        exact Nat.zero_max _
    · unfold tempOfWord
      by_cases h : f.preheat = 0x7FFF#16
      · rw [if_pos h, if_pos h]
        rfl
      · rw [if_neg h, if_neg h]
        rfl
    · by_cases h : f.level = byteAbsent
      · rw [if_pos h, if_pos (show f.level = 0xFF#8 from h)]
      · rw [if_neg h, if_neg (show ¬ f.level = 0xFF#8 from h), applyLight_eq]
        split <;> rfl
  · refine planMask ?_ ?_ p.light
    · by_cases h : f.len = minutesAbsent
      · rw [if_pos h]
        exact ⟨fun c => (nomatch c), fun c => absurd h c.1⟩
      · rw [if_neg h, applyNat_clamped (by decide)]
        exact ⟨fun c => ⟨h, c⟩, fun c => c.2⟩
    · by_cases h : f.lead = byteAbsent
      · rw [if_pos h]
        exact ⟨fun c => (nomatch c), fun c => absurd h c.1⟩
      · rw [if_neg h, applyNat_clamped (by decide)]
        exact ⟨fun c => ⟨h, c.resolve_left (by omega)⟩, fun c => .inr c.2⟩

theorem amendParams_heat (t : Int) (o : Option Handle) (w : Word16) : amendParams (.heat t o) (.temp w) =
    if w = 0x7FFF#16 then (.heat t o, []) else (.heat (max 10 (min w.toInt 60)) o, [(applyInt 10 60 w.toInt).clamped]) := by
  unfold amendParams tempOfWord
  dsimp only
  by_cases hw : w = 0x7FFF#16
  · rw [if_pos hw, if_pos hw]
  · rw [if_neg hw, if_neg hw]
    rfl

theorem amendParams_cool (t : Int) (w : Word16) : amendParams (.cool t) (.temp w) =
    if w = 0x7FFF#16 then (.cool t, []) else (.cool (max (-36) (min w.toInt 16)), [(applyInt (-36) 16 w.toInt).clamped]) := by
  unfold amendParams tempOfWord
  dsimp only
  by_cases hw : w = 0x7FFF#16
  · rw [if_pos hw, if_pos hw]
  · rw [if_neg hw, if_neg hw]
    rfl

theorem amendParams_lamp (n : Nat) (l : Byte) : amendParams (.lamp n) (.level l) =
    if l = 0xFF#8 then (.lamp n, []) else (.lamp (min l.toNat 100), [(applyNat 0 100 l.toNat).clamped]) := by
  unfold amendParams
  dsimp only
  by_cases hl : l = 0xFF#8
  · rw [if_pos hl, if_pos (show l = byteAbsent from hl)]
  · rw [if_neg hl, if_neg (show ¬ l = byteAbsent from hl), applyNat_value, Nat.zero_max]

/-- The bits of the amended parameters of a kind that is no plan. -/
theorem maskOf_amendParams {p : Params} {f : KindFields} (hk : paramsKind p ≠ .restPlan) (hf : fieldsFit (some (paramsKind p)) f = true) :
    16 * maskOf (amendParams p f).2 = if fieldPast (paramsKind p) f = true then 16 else 0 := by
  cases p with
  | plan q => exact absurd rfl hk
  | aux =>
    cases f with
    | nothing => rfl
    | temp w => cases hf
    | level l => cases hf
    | plan q => cases hf
  | lamp n =>
    cases f with
    | level l =>
      rw [amendParams_lamp]
      by_cases hl : l = 0xFF#8
      · rw [if_pos hl, hl]
        rfl
      · rw [if_neg hl, maskOf_one]
        refine bit_eq ?_ 16
        rw [applyNat_clamped (by decide)]
        unfold fieldPast
        simp only [Bool.and_eq_true, bne_iff_ne, ne_eq, decide_eq_true_eq]
        exact ⟨fun c => ⟨hl, c.resolve_left (by omega)⟩, fun c => .inr c.2⟩
    | temp w => cases hf
    | nothing => cases hf
    | plan q => cases hf
  | heat t o =>
    cases f with
    | temp w =>
      rw [amendParams_heat]
      by_cases hw : w = 0x7FFF#16
      · rw [if_pos hw, hw]
        rfl
      · rw [if_neg hw, maskOf_one]
        refine bit_eq ?_ 16
        rw [applyInt_clamped (by decide)]
        simp [fieldPast, hw, paramsKind]
    | level l => cases hf
    | nothing => cases hf
    | plan q => cases hf
  | cool t =>
    cases f with
    | temp w =>
      rw [amendParams_cool]
      by_cases hw : w = 0x7FFF#16
      · rw [if_pos hw, hw]
        rfl
      · rw [if_neg hw, maskOf_one]
        refine bit_eq ?_ 16
        rw [applyInt_clamped (by decide)]
        simp [fieldPast, hw, paramsKind]
    | level l => cases hf
    | nothing => cases hf
    | plan q => cases hf

/-! ## The record of an AMEND -/

/-- The class that an AMEND asks for (R3). -/
def askedClass (b : AmendBody) (r : Record) : Machine.Class := if b.mask.getLsbD 0 then (classOfCode b.cls).getD r.cls else r.cls

/-- The class asked for is not granted to the station (R3). -/
def lowers (d : Device) (st : Station) (b : AmendBody) (r : Record) : Bool :=
  b.mask.getLsbD 0 && askedClass b r == .essential && !(d.settings.stations.get st).control

/-- An AMEND gives a duration (R197; log entry 24). -/
def givesDuration (b : AmendBody) : Bool := b.mask.getLsbD 1 && b.duration != 0xFFFF#16

/-- The end of a record after an AMEND (R5, R19). -/
def amendedEnd (now : Nat) (b : AmendBody) (r : Record) : Option Nat :=
  if b.mask.getLsbD 2 then none else if givesDuration b then
    some ((if r.state = .scheduled then r.start.getD now else now) + 60 * max 1 (min b.duration.toNat 1440)) else r.endAt

/-- The bits of class, duration and limit in an AMEND's clamp mask. -/
def amendTimes (d : Device) (st : Station) (b : AmendBody) (r : Record) : Nat :=
  (if lowers d st b r then 1 else 0) +
    (if givesDuration b = true ∧ (b.duration = 0#16 ∨ 1440 < b.duration.toNat) then 4 else 0) +
    (if b.mask.getLsbD 3 = true ∧ (b.limit = 0#8 ∨ 240 < b.limit.toNat) then 8 else 0)

section
variable (d : Device) (st : Station) (b : AmendBody) (r : Record) (seq now : Nat)

theorem amendClass_eq (hcls : b.mask.getLsbD 0 = true → (classOfCode b.cls).isSome = true) :
    amendClass (d.settings.stations.get st).control b r =
      ⟨if lowers d st b r then .comfort else askedClass b r, lowers d st b r⟩ := by
  unfold amendClass lowers askedClass amendMask
  dsimp only
  by_cases hm : b.mask.getLsbD 0 = true
  · obtain ⟨c, hc⟩ := Option.isSome_iff_exists.mp (hcls hm)
    rw [if_pos hm, if_pos hm, hm, hc]
    unfold applyClass
    by_cases he : c = .essential <;> cases (d.settings.stations.get st).control <;> simp [he]
  · rw [if_neg hm, if_neg hm, Bool.eq_false_iff.mpr hm]
    rfl

theorem amendedRecord_eq (hcls : b.mask.getLsbD 0 = true → (classOfCode b.cls).isSome = true) :
    (amendedRecord now (d.settings.stations.get st).control b seq r).1 = { r with
      cls := if lowers d st b r then .comfort else askedClass b r
      seq := seq
      endAt := amendedEnd now b r
      limit := if b.mask.getLsbD 3 then max 1 (min b.limit.toNat 240) else r.limit
      params := (amendParams r.params b.fields).1 } := by
  unfold amendedRecord
  dsimp only
  rw [amendClass_eq d st b r hcls]
  congr 1
  show (if b.mask.getLsbD 3 = true then applyNat 1 240 b.limit.toNat else ⟨r.limit, false⟩ : Applied Nat).value = _
  split <;> rfl

theorem amendedRecord_mask (hcls : b.mask.getLsbD 0 = true → (classOfCode b.cls).isSome = true) :
    (amendedRecord now (d.settings.stations.get st).control b seq r).2 =
      amendTimes d st b r + 16 * maskOf (amendParams r.params b.fields).2 := by
  show maskOf ([(amendClass (d.settings.stations.get st).control b r).clamped, false,
    (amendMask b).duration && (applyNat 1 1440 b.duration.toNat).clamped,
    (if b.mask.getLsbD 3 = true then applyNat 1 240 b.limit.toNat else ⟨r.limit, false⟩ : Applied Nat).clamped] ++ _) = _
  have duration : ((amendMask b).duration && (applyNat 1 1440 b.duration.toNat).clamped) = true ↔
      givesDuration b = true ∧ (b.duration = 0#16 ∨ 1440 < b.duration.toNat) := by
    rw [Bool.and_eq_true, applyNat_clamped (by decide), ← toNat_eq_zero_iff, Nat.lt_one_iff]
    exact Iff.rfl
  have limit : (if b.mask.getLsbD 3 = true then applyNat 1 240 b.limit.toNat else ⟨r.limit, false⟩ : Applied Nat).clamped = true ↔
      b.mask.getLsbD 3 = true ∧ (b.limit = 0#8 ∨ 240 < b.limit.toNat) := by
    by_cases hm : b.mask.getLsbD 3 = true
    · rw [if_pos hm, applyNat_clamped (by decide), ← toNat_eq_zero_iff, Nat.lt_one_iff]
      exact ⟨fun c => ⟨hm, c⟩, fun c => c.2⟩
    · rw [if_neg hm]
      exact ⟨fun c => (nomatch c), fun c => absurd c.1 hm⟩
  rw [maskOf_four, bit_eq duration, bit_eq limit, amendClass_eq d st b r hcls]
  unfold amendTimes
  simp only [Bool.false_eq_true, if_false, Nat.add_zero]

end

/-! ## AMEND as one answer -/

section
variable {d : Device} {st : Station} {b : AmendBody} {h : Handle} {r : Record} {win : Window}

/-- The clamp mask of an AMEND. -/
def amendBits (d : Device) (st : Station) (b : AmendBody) (r : Record) : Nat :=
  amendTimes d st b r + 16 * maskOf (amendParams r.params b.fields).2

theorem amendFits_iff {k : Kind} : amendFits k b = true ↔ b.mask.getLsbD 4 = false ∧ (givesDuration b && b.mask.getLsbD 2) = false ∧
    (k = .restPlan → givesDuration b = false ∧ b.mask.getLsbD 2 = false) ∧
    (b.mask.getLsbD 0 = true → (classOfCode b.cls).isSome = true) := by
  show (!b.mask.getLsbD 4 && !(givesDuration b && b.mask.getLsbD 2) && !(k == .restPlan && (givesDuration b || b.mask.getLsbD 2)) &&
    (!b.mask.getLsbD 0 || (classOfCode b.cls).isSome)) = true ↔ _
  simp only [Bool.and_eq_true, Bool.not_eq_true', Bool.or_eq_true, Bool.and_eq_false_iff, Bool.or_eq_false_iff, beq_eq_false_iff_ne]
  cases b.mask.getLsbD 0 <;> simp only [reduceCtorEq, false_or, or_false, true_imp_iff, false_imp_iff] <;> tauto

theorem amend_checked (hfit : fieldsFit (kindOfCode b.kind) b.fields = true) (hr : lookup d (handleOfWord b.handle) = some r)
    (hw : windowOf d st r.fn = some win) : amend (some b) st d =
      if !(win.rights.changeAny || (win.rights.changeOwn && isOwn st r)) then refuse st 0x13#8 .noRight d
      else if r.owner = .internal then refuse st 0x13#8 .noRight d
      else if kindOfCode b.kind ≠ some r.kind then refuse st 0x13#8 .wrongKind d
      else if !amendFits r.kind b then refuse st 0x13#8 .badValue d
      else amendRecord st (handleOfWord b.handle) r b d := by
  unfold amend
  dsimp only
  rw [hfit, resolve_ok hr hw]
  rfl

theorem amend_unresolved {c : AnswerCode} (hfit : fieldsFit (kindOfCode b.kind) b.fields = true)
    (he : resolve d st b.handle = .error c) : amend (some b) st d = refuse st 0x13#8 c d := by
  unfold amend
  dsimp only
  rw [hfit, he]
  rfl

theorem may_iff : (win.rights.changeAny || (win.rights.changeOwn && isOwn st r)) = true ↔
    (win.rights.changeAny = true ∨ (win.rights.changeOwn = true ∧ r.owner = .station st)) := by
  rw [Bool.or_eq_true, Bool.and_eq_true, isOwn_iff]

theorem same_afterAmend (h : Handle) (r : Record) (d : Device) : sameExcept planBlocks d (afterAmend h r d) := by
  unfold afterAmend
  split
  · split
    · exact same_planAmended _ _ _ _
    · have pushed : ∀ fn : Fn, sameExcept planBlocks d (recompute (pushValue fn d)) := fun fn =>
        same_then (same_mono (same_pushValue fn d)) (same_recompute _)
      dsimp only
      split
      · exact same_ite (same_then (pushed _) (same_admission _ _ _ _)) (pushed _)
      · exact pushed _
  · exact same_refl _ d

theorem same_amended : sameExcept planBlocks d (amended st h r b d) := by
  have begun : sameExcept planBlocks d (takeSequence (clearFault r.fn (withQuiet (if isOwn st r then some h else none) d))) :=
    same_then (same_mono (same_withQuiet _ d)) (same_takeSequence_clearFault _ _)
  exact same_then (same_then (same_then begun (same_revise h _ _)) (same_afterAmend _ _ _)) (same_withQuiet none _)

/-- An AMEND that passes every check: the amendment, then the answer. -/
theorem amend_accepted (hh : handleOfWord b.handle = h) (hfit : fieldsFit (kindOfCode b.kind) b.fields = true)
    (hr : lookup d h = some r) (hw : windowOf d st r.fn = some win)
    (may : win.rights.changeAny = true ∨ (win.rights.changeOwn = true ∧ r.owner = .station st)) (own : r.owner ≠ .internal)
    (hk : kindOfCode b.kind = some r.kind) (fits : amendFits r.kind b = true) :
    amend (some b) st d = answerAfter d st 0x13#8 (okCode (amendBits d st b r != 0))
      (.block h (amendBits d st b r) (answerBlock (amended st h r b d) st h (amendBits d st b r))) (amended st h r b d) := by
  subst hh
  rw [amend_checked hfit hr hw, may_iff.mpr may, if_neg (by decide), if_neg own, if_neg (not_not.mpr hk), fits, if_neg (by decide)]
  have bits : (amendedRecord (amended st (handleOfWord b.handle) r b d).clock.sec
      ((amended st (handleOfWord b.handle) r b d).settings.stations.get st).control b 0 r).2 = amendBits d st b r := by
    rw [same_settings same_amended]
    exact amendedRecord_mask d st b r 0 _ (amendFits_iff.mp fits).2.2.2
  rw [← bits]
  rfl

end

end Sys2Proof.Machine
end

section
/-! PROOF. What an AMEND of a plan has its driver's unit do (R26, R181 to R183, R185). -/

namespace Sys2Proof.Machine
open Sys2Proof

/-! ## The steps of the unit -/

/-- The plan is WAKING or DUE. -/
def wokenUp (p : PlanRec) : Bool := decide (p.sub = .waking) || decide (p.sub = .due)

/-- The setpoint that an amended plan preheats to at once. -/
def newPreheat (old p : PlanRec) : Option Int := if wokenUp old && p.preheat != old.preheat then p.preheat else none

/-- The ramp of an amended wake light. -/
def relit (dr : Driver) (old p : PlanRec) (d : Device) : Device :=
  if wokenUp old && p.light != old.light then
    match p.light with
    | some w => beginRamp dr p w (endRamp dr d)
    | none => endRamp dr d
  else d

/-- The call of an amended wake buzzer. -/
def buzzed (dr : Driver) (old p : PlanRec) (d : Device) : Device :=
  if old.sub = .due ∧ p.buzzer ≠ old.buzzer then
    if p.buzzer then (if (d.plans.get dr).call = .none then beginCall dr d else d)
    else silenceCall dr d
  else d

/-- The plan's record with its new end. -/
def timed (h : Handle) (p : PlanRec) (d : Device) : Device :=
  recompute (revise h (onPlan fun q => { q with plannedEnd := p.plannedEnd }) d)

theorem planAmended_eq {dr : Driver} {h : Handle} {old given : PlanRec} {d : Device} {x : Record} (hx : lookup d h = some x)
    (hp : x.params = .plan given) :
    planAmended dr h old d = amendedForward dr old (retimed (d.plans.get dr).binding old given)
      (buzzed dr old (retimed (d.plans.get dr).binding old given) (relit dr old (retimed (d.plans.get dr).binding old given)
        (heated dr h (newPreheat old (retimed (d.plans.get dr).binding old given))
          (timed h (retimed (d.plans.get dr).binding old given) d)))) := by
  unfold planAmended planOf
  rw [hx]
  dsimp only
  rw [hp]
  dsimp only
  generalize retimed (d.plans.get dr).binding old given = p
  have heat : (match p.preheat with
      | some t => if (decide (old.sub = .waking) || decide (old.sub = .due)) && p.preheat != old.preheat then
          preheat dr h t (timed h p d) else timed h p d
      | none => timed h p d) = heated dr h (newPreheat old p) (timed h p d) := by
    unfold heated newPreheat wokenUp
    cases hq : p.preheat with
    | none => split <;> simp_all
    | some t => dsimp only; split <;> rfl
  rw [← heat]
  rfl

section
variable {dr : Driver} {h : Handle} {r : Record} {old p q : PlanRec} {d : Device}

theorem timed_plan (hq : PlanIs h r q d) (ho : fnLane r.fn = none) :
    PlanIs h r { q with plannedEnd := p.plannedEnd } (timed h p d) :=
  (hq.onPlan fun _ => rfl).recompute ho

theorem timed_counter : (timed h p d).table.counter = d.table.counter := by
  unfold timed
  rw [(level_recompute _).counter, revise_counter]

theorem timed_occupancy : occupancy (timed h p d) = occupancy d := by
  unfold timed
  rw [occupancy_recompute, occupancy_revise]

theorem timed_lamps : LampsKept d.lamps (timed h p d).lamps :=
  ((Level.revise h _ d).trans (level_recompute _)).lamps

theorem same_timed : sameExcept budgetBlocks d (timed h p d) := same_then (same_mono (same_revise h _ d)) (same_recompute _)

/-! ### The ramp -/

theorem same_relit : sameExcept [.plans, .lamps] d (relit dr old p d) := by
  unfold relit
  split
  · split
    · exact same_trans (same_endRamp dr d) (same_beginRamp _ _ _ _)
    · exact same_endRamp dr d
  · exact same_refl _ d

theorem endRamp_units (x : Driver) : (endRamp dr d).plans.get x =
    if x = dr then { d.plans.get dr with ramp := .none } else d.plans.get x := by
  unfold endRamp
  split
  · rename_i hr
    split
    · rename_i hx
      rw [hx, ← hr]
    · rfl
  · show (setUnit dr (fun u => { u with ramp := .none }) d).plans.get x = _
    exact setUnit_units _ _ _ _

/-- The unit's ramp after an amended wake light. -/
def relitRamp (n : Nat) (old p : PlanRec) (r : Ramp) : Ramp :=
  if wokenUp old && p.light != old.light then rampOf n p .none else r

theorem relit_units (x : Driver) : (relit dr old p d).plans.get x =
    if x = dr then { d.plans.get dr with ramp := relitRamp d.clock.sec old p (d.plans.get dr).ramp } else d.plans.get x := by
  unfold relit relitRamp rampOf
  by_cases hc : (wokenUp old && p.light != old.light) = true
  · rw [if_pos hc, if_pos hc]
    cases p.light with
    | some w =>
      dsimp only
      rw [beginRamp_plans, setUnit_units, endRamp_units, endRamp_units, if_pos rfl, same_clock (same_endRamp dr d)]
      split <;> rfl
    | none => exact endRamp_units x
  · rw [if_neg hc, if_neg hc]
    split
    · rename_i hx
      rw [hx]
    · rfl

theorem relit_kept (hl : p.light = old.light) : relit dr old p d = d := by
  unfold relit
  rw [if_neg (by simp [hl])]

theorem relit_dark (hw : wokenUp old = true) (hl : p.light ≠ old.light) (hn : p.light = none)
    (on : (d.plans.get dr).ramp ≠ .none) (c : Channel) : rampAt dr c (relit dr old p d) = none := by
  unfold relit
  rw [if_pos (by simp [hw, hl]), hn]
  exact endRamp_ramp on c

theorem relit_light {w : WakeLight} (hw : wokenUp old = true) (hl : p.light ≠ old.light) (hn : p.light = some w)
    (on : (d.plans.get dr).ramp ≠ .none ∨ ∀ c, rampAt dr c d = none) (c : Channel) : rampAt dr c (relit dr old p d) =
      if w.channels.get c = true then some (rampLevelOf (rampFor d.clock.sec p w)) else none := by
  have ended : rampAt dr c (endRamp dr d) = none := by
    by_cases hr : (d.plans.get dr).ramp = .none
    · unfold endRamp
      rw [if_pos hr]
      exact (on.resolve_left (not_not.mpr hr)) c
    · exact endRamp_ramp hr c
  unfold relit
  rw [if_pos (by simp [hw, hl]), hn]
  dsimp only
  rw [rampAt_beginRamp, ended, same_clock (same_endRamp dr d)]
  rfl

/-! ### The call -/

theorem same_buzzed : sameExcept [.plans, .accounts] d (buzzed dr old p d) := by
  unfold buzzed
  exact same_ite (same_ite (same_ite (same_beginCall dr d) (same_refl _ d)) (same_silenceCall dr d)) (same_refl _ d)

/-- The unit after an amended wake buzzer. -/
def PlanUnit.buzzed (n : Nat) (old p : PlanRec) (u : PlanUnit) : PlanUnit :=
  if old.sub = .due ∧ p.buzzer ≠ old.buzzer then
    if p.buzzer then (if u.call = .none then u.calls n else u)
    else if u.call = .calling then { u with call := .silent } else u
  else u

theorem silenceCall_units (x : Driver) : (silenceCall dr d).plans.get x = if x = dr then
    (if (d.plans.get dr).call = .calling then { d.plans.get dr with call := .silent } else d.plans.get dr) else d.plans.get x := by
  unfold silenceCall
  split
  · show (setUnit dr (fun u => { u with call := .silent }) d).plans.get x = _
    exact setUnit_units _ _ _ _
  · split
    · rename_i hx
      rw [hx]
    · rfl

theorem buzzed_units (x : Driver) : (Machine.buzzed dr old p d).plans.get x =
    if x = dr then (d.plans.get dr).buzzed d.clock.sec old p else d.plans.get x := by
  have kept : d.plans.get x = if x = dr then d.plans.get dr else d.plans.get x := by
    split
    · rename_i hx
      rw [hx]
    · rfl
  unfold Machine.buzzed PlanUnit.buzzed
  split
  · split
    · split
      · exact beginCall_plans x
      · exact kept
    · exact silenceCall_units x
  · exact kept

theorem buzzed_kept (hb : old.sub ≠ .due ∨ p.buzzer = old.buzzer) : Machine.buzzed dr old p d = d := by
  unfold Machine.buzzed
  rw [if_neg (fun c => hb.elim (fun h => h c.1) (fun h => c.2 h))]

theorem buzzed_begins (hs : old.sub = .due) (ho : old.buzzer = false) (hp : p.buzzer = true) (hc : (d.plans.get dr).call = .none) :
    Machine.buzzed dr old p d = beginCall dr d := by
  unfold Machine.buzzed
  rw [if_pos ⟨hs, by rw [ho, hp]; decide⟩, if_pos hp, if_pos hc]

theorem buzzed_ends (hs : old.sub = .due) (ho : old.buzzer = true) (hp : p.buzzer = false) :
    Machine.buzzed dr old p d = silenceCall dr d := by
  unfold Machine.buzzed
  rw [if_pos ⟨hs, by rw [ho, hp]; decide⟩, if_neg (by rw [hp]; decide)]

end

/-! ## The unit's work before a move forward -/

/-- The unit's work on an amended plan, but for the move forward. -/
def worked (dr : Driver) (h : Handle) (old p : PlanRec) (d : Device) : Device :=
  Machine.buzzed dr old p (relit dr old p (heated dr h (newPreheat old p) (timed h p d)))

theorem same_worked (dr : Driver) (h : Handle) (old p : PlanRec) (d : Device) :
    sameExcept (.accounts :: .plans :: budgetBlocks) d (worked dr h old p d) :=
  same_then (same_then (same_then (same_mono same_timed) (same_heated dr h _ _)) same_relit) same_buzzed

theorem retimed_fields (b : Option Nat) (old given : PlanRec) : ∃ o, retimed b old given = { given with plannedEnd := o } := by
  unfold retimed
  split
  · split
    · exact ⟨_, rfl⟩
    · exact ⟨_, rfl⟩
  · exact ⟨_, rfl⟩

/-- What the unit's work makes of an amended plan: `r` is the plan's record with the given fields, `p` the plan with its new end. -/
structure Worked (dr : Driver) (h : Handle) (old p : PlanRec) (r : Record) (d e : Device) : Prop where
  plan : ∃ n i, (d.table.counter < 4294967295 → n = r.seq) ∧ PlanIs h { r with seq := n } { p with internal := i } e ∧
    (newPreheat old p = none → i = p.internal) ∧
    ∀ t g, newPreheat old p = some t → d.table.slots[internalSlot dr]? = some ⟨g, none⟩ →
      i = some ⟨internalSlot dr, g⟩ ∧ InternalIs ⟨internalSlot dr, g⟩ h t e
  amended : ∀ t g x, newPreheat old p = some t → d.table.slots[internalSlot dr]? = some ⟨g, some x⟩ →
    d.table.counter < 4294967295 → Reheated x ⟨internalSlot dr, g⟩ h t (d.table.counter + 1) e
  units : ∀ x, e.plans.get x = if x = dr then
      ({ d.plans.get dr with ramp := relitRamp d.clock.sec old p (d.plans.get dr).ramp } : PlanUnit).buzzed d.clock.sec old p
    else d.plans.get x
  kept : p.light = old.light → LampsKept d.lamps e.lamps
  dark : wokenUp old = true → p.light ≠ old.light → p.light = none → (d.plans.get dr).ramp ≠ .none → ∀ c, rampAt dr c e = none
  light : ∀ w, wokenUp old = true → p.light ≠ old.light → p.light = some w →
    ((d.plans.get dr).ramp ≠ .none ∨ ∀ c, rampAt dr c d = none) → ∀ c, rampAt dr c e =
      if w.channels.get c = true then some (rampLevelOf (rampFor d.clock.sec p w)) else none
  quiet : old.sub ≠ .due ∨ p.buzzer = old.buzzer → e.accounts = d.accounts
  begins : old.sub = .due → old.buzzer = false → p.buzzer = true → (d.plans.get dr).call = .none →
    e.accounts = d.accounts.set (Account.sounds d.clock.sec (d.accounts.get dr)) dr
  ends : old.sub = .due → old.buzzer = true → p.buzzer = false → (d.plans.get dr).call = .calling →
    e.accounts = d.accounts.set { d.accounts.get dr with bunkUntil := none } dr

theorem worked_spec {dr : Driver} {h : Handle} {r : Record} {old given p : PlanRec} {d : Device} {o : Option Nat}
    (hp : p = { given with plannedEnd := o }) (hq : PlanIs h r given d) (ho : fnLane r.fn = none) (low : h.slot < 46)
    (hg : Reserved dr d) : Worked dr h old p r d (worked dr h old p d) := by
  have p1 := timed_plan (p := p) hq ho
  rw [show ({ given with plannedEnd := p.plannedEnd } : PlanRec) = p by rw [hp]] at p1
  have occ := timed_occupancy (h := h) (p := p) (d := d)
  have count := timed_counter (h := h) (p := p) (d := d)
  have lamps1 := timed_lamps (h := h) (p := p) (d := d)
  have s1 := same_timed (h := h) (p := p) (d := d)
  have records1 : TouchedAll (revise h (onPlan fun q => { q with plannedEnd := p.plannedEnd }) d) (timed h p d) :=
    touchedAll_recompute _
  have taken : ∀ g x, d.table.slots[internalSlot dr]? = some ⟨g, some x⟩ →
      ∃ y, (timed h p d).table.slots[internalSlot dr]? = some ⟨g, some y⟩ ∧ y.owner = x.owner ∧ y.fn = x.fn ∧ y.cls = x.cls :=
    fun g x hs => by
      have apart : (⟨internalSlot dr, g⟩ : Handle) ≠ h := fun c => by
        have := internalSlot_ge dr
        rw [← c] at low
        exact absurd low (by show ¬ internalSlot dr < 46; omega)
      have hx := lookup_of_slot hs (internalSlot_le dr) (hg _ hs)
      obtain ⟨y, hy, t⟩ := records1.2 ⟨internalSlot dr, g⟩ x ((lookup_revise_ne _ d apart).trans hx)
      exact ⟨y, slot_of_lookup hy, t.owner, t.fn, t.cls⟩
  unfold worked
  generalize timed h p d = d1 at p1 occ count lamps1 s1 taken
  obtain ⟨⟨n, i, hn, p2, hi, hs⟩, again, lamps2⟩ := heated_spec (o := newPreheat old p) p1 ho low (hg.congr occ)
  have s2 := same_then s1 (same_heated dr h (newPreheat old p) d1)
  generalize heated dr h (newPreheat old p) d1 = d2 at p2 hs again lamps2 s2
  have lampsKept : LampsKept d.lamps d2.lamps := lamps1.trans lamps2
  have s3 := same_relit (dr := dr) (old := old) (p := p) (d := d2)
  have u3 := relit_units (dr := dr) (old := old) (p := p) (d := d2)
  have clock2 := same_clock s2
  have plans2 := same_plans s2
  have kept3 := fun hl => congrArg Device.lamps (relit_kept (dr := dr) (d := d2) (p := p) (old := old) hl)
  have dark3 := relit_dark (dr := dr) (d := d2) (p := p) (old := old)
  have light3 := fun w => relit_light (dr := dr) (d := d2) (p := p) (old := old) (w := w)
  rw [plans2, clock2] at u3
  rw [plans2] at dark3 light3
  rw [clock2] at light3
  generalize relit dr old p d2 = d3 at s3 u3 kept3 dark3 light3
  have s4 := same_buzzed (dr := dr) (old := old) (p := p) (d := d3)
  have u4 := buzzed_units (dr := dr) (old := old) (p := p) (d := d3)
  have s13 : sameExcept (.plans :: budgetBlocks) d d3 := same_then (same_mono s2) s3
  have clock3 := same_clock s13
  have table : (Machine.buzzed dr old p d3).table = d2.table := (same_table s4).trans (same_table s3)
  have look := fun k => lookup_congr (congrArg Table.slots table) k
  have lamps4 : (Machine.buzzed dr old p d3).lamps = d3.lamps := same_lamps s4
  have call3 : (d3.plans.get dr).call = (d.plans.get dr).call := by rw [u3, if_pos rfl]
  exact {
    plan := ⟨n, i, fun c => hn (count ▸ c), p2.congr (look h), hi, fun t g ht hf => by
      obtain ⟨a, b⟩ := hs t g ht (free_of_occupancy occ hf)
      exact ⟨a, b.congr (look _)⟩⟩
    amended := fun t g x ht hx hc => by
      obtain ⟨y, hy, owner, fn, cls⟩ := taken g x hx
      obtain ⟨i, hi, a, b, c, rest⟩ := again t g y ht hy (count ▸ hc)
      rw [count] at rest
      exact ⟨i, (look _).trans hi, a.trans owner, b.trans fn, c.trans cls, rest⟩
    units := fun x => by
      rw [u4, u3, u3, if_pos rfl, clock3]
      split <;> rfl
    kept := fun hl => by
      rw [lamps4, kept3 hl]
      exact lampsKept
    dark := fun hw hl hn on c => by
      unfold rampAt at dark3 ⊢
      rw [lamps4]
      exact dark3 hw hl hn on c
    light := fun w hw hl hn on c => by
      unfold rampAt
      rw [lamps4]
      exact light3 w hw hl hn (on.imp_right fun k c => (rampAt_kept lampsKept c).trans (k c)) c
    quiet := fun hb => by rw [buzzed_kept hb, same_accounts s13]
    begins := fun a b c e => by
      rw [buzzed_begins a b c (call3.trans e), beginCall_accounts, same_accounts s13, clock3]
    ends := fun a b c e => by
      rw [buzzed_ends a b c]
      unfold silenceCall
      rw [if_pos (call3.trans e)]
      show d3.accounts.set { d3.accounts.get dr with bunkUntil := none } dr = _
      rw [same_accounts s13] }

/-! ## The move forward (R178, R185) -/

/-- What a plan's entry to WAKING, and from there to DUE where that is called for, makes of its record and its driver's unit. -/
structure Entered (dr : Driver) (h : Handle) (r : Record) (q : PlanRec) (s : SubState) (d e : Device) : Prop where
  plan : ∃ n i, (d.table.counter < 4294967295 → n = r.seq) ∧ PlanIs h { r with seq := n } { q with sub := s, internal := i } e ∧
    ∀ t g, q.preheat = some t → d.table.slots[internalSlot dr]? = some ⟨g, none⟩ →
      i = some ⟨internalSlot dr, g⟩ ∧ InternalIs ⟨internalSlot dr, g⟩ h t e
  holder : (e.plans.get dr).plan = some h
  binding : (e.plans.get dr).binding = (d.plans.get dr).binding
  ramp : (e.plans.get dr).ramp ≠ .none ↔ q.light.isSome = true ∨ (d.plans.get dr).ramp ≠ .none
  call : (e.plans.get dr).call = if s = .due ∧ q.buzzer = true then .calling else (d.plans.get dr).call
  others : ∀ x, x ≠ dr → e.plans.get x = d.plans.get x

theorem rampOf_ne (n : Nat) (q : PlanRec) (old : Ramp) : rampOf n q old ≠ .none ↔ q.light.isSome = true ∨ old ≠ .none := by
  unfold rampOf
  split
  · rename_i w hw
    exact ⟨fun _ => .inl (by rw [hw]; rfl), fun _ => rampFor_ne _⟩
  · rename_i hw
    rw [hw]
    exact ⟨.inr, fun c => c.resolve_left (by decide)⟩

section
variable {dr : Driver} {h : Handle} {r : Record} {q : PlanRec} {d : Device}

theorem Woken.entered {e : Device} (w : Woken dr h r q d e) (hu : (d.plans.get dr).plan = some h) :
    Entered dr h r q .waking d e := by
  obtain ⟨n, i, hn, p, -, hi⟩ := w.plan
  have unit := w.units dr
  rw [if_pos rfl] at unit
  refine ⟨⟨n, i, hn, p, hi⟩, by rw [unit]; exact hu, by rw [unit], by rw [unit]; exact rampOf_ne _ _ _, ?_, fun x hx => ?_⟩
  · rw [unit, if_neg (by simp)]
  · rw [w.units, if_neg hx]

theorem enterDue_entered {e : Device} (en : Entered dr h r q .waking d e) (ho : fnLane r.fn = none) (low : h.slot < 46) :
    Entered dr h r q .due d (enterDue dr e) := by
  obtain ⟨n, i, hn, p, hi⟩ := en.plan
  have due := enterDue_due (r := { r with seq := n }) p en.holder ho
  have unit := due.units dr
  rw [if_pos rfl] at unit
  have apart : ∀ g, (⟨internalSlot dr, g⟩ : Handle) ≠ h := fun g c => by
    have := internalSlot_ge dr
    rw [← c] at low
    exact absurd low (by show ¬ internalSlot dr < 46; omega)
  exact {
    plan := ⟨n, i, hn, due.plan, fun t g ht hs => ⟨(hi t g ht hs).1, due.internal _ _ _ (apart g) (hi t g ht hs).2⟩⟩
    holder := by
      rw [unit]
      dsimp only
      split <;> exact en.holder
    binding := by
      rw [unit]
      dsimp only
      split <;> exact en.binding
    ramp := by
      have step : ((enterDue dr e).plans.get dr).ramp ≠ .none ↔ q.light.isSome = true ∨ (e.plans.get dr).ramp ≠ .none := by
        rw [unit]
        dsimp only
        split <;> exact rampOf_ne _ _ _
      rw [step, en.ramp]
      tauto
    call := by
      have step : (e.plans.get dr).call = (d.plans.get dr).call := en.call.trans (if_neg (by simp))
      rw [unit]
      dsimp only
      by_cases hb : q.buzzer = true
      · rw [if_pos hb, if_pos ⟨rfl, hb⟩]
        rfl
      · rw [if_neg hb, if_neg (fun c => hb c.2)]
        exact step
    others := fun x hx => by rw [due.units, if_neg hx, en.others x hx] }

/-- A plan that has not been woken moves forward by entering each sub-state up to the one called for. -/
theorem moveForward_entered {a b : SubState} (ha : a = .waiting ∨ a = .active) (hb : b = .waking ∨ b = .due)
    (p : PlanIs h r q d) (hu : (d.plans.get dr).plan = some h) (ho : fnLane r.fn = none) (low : h.slot < 46)
    (hg : Reserved dr d) : Entered dr h r q b d (moveForward dr a b d) := by
  have woken := (enterWaking_woken p hu ho low hg).entered hu
  have due := enterDue_entered woken ho low
  rcases ha with rfl | rfl <;> rcases hb with rfl | rfl
  · exact woken
  · exact due
  · exact woken
  · exact due

theorem moveForward_due : moveForward dr .waking .due d = enterDue dr d := rfl

/-- Where the instants call for no later sub-state, the plan stays. -/
theorem moveForward_stays {a b : SubState} (ha : a = .waking ∧ b ≠ .due ∨ a = .due ∨ b = .active) : moveForward dr a b d = d := by
  rcases ha with ⟨rfl, hb⟩ | rfl | rfl
  · cases b with
    | due => exact absurd rfl hb
    | waiting => rfl
    | active => rfl
    | waking => rfl
  · cases b <;> rfl
  · cases a <;> rfl

/-- The sub-state that the instants call for (R178). -/
theorem calledSub_eq {now e : Nat} {p : PlanRec} (he : p.plannedEnd = some e) : calledSub now p =
    if e ≤ now then .due else if e ≤ now + p.lead * 60 then .waking else .active := by
  unfold calledSub endReached leadReached
  rw [he]
  simp only [decide_eq_true_eq]

end

end Sys2Proof.Machine
end

section
/-! PROOF. The amended record in its slot, and an AMEND of a plan in its parts (R19, R185). -/

namespace Sys2Proof.Machine
open Sys2Proof

/-! ## The amended record -/

section
variable {d : Device} {st : Station} {b : AmendBody} {h : Handle} {r : Record}

/-- The part with the record amended and the next sequence taken. -/
def regiven (st : Station) (h : Handle) (b : AmendBody) (d : Device) : Device :=
  revise h (fun x => (amendedRecord (takeSequence d).clock.sec ((takeSequence d).settings.stations.get st).control b
    (takeSequence d).table.counter x).1) (takeSequence d)

/-- The part that an AMEND of `r` finds: the requester's own record is not reported, and its channel's fault is clear. -/
def faultCleared (st : Station) (h : Handle) (r : Record) (d : Device) : Device :=
  clearFault r.fn (withQuiet (if isOwn st r then some h else none) d)

theorem amended_eq : amended st h r b d =
    withQuiet none (afterAmend h ((lookup (takeSequence (faultCleared st h r d)) h).getD r) (regiven st h b (faultCleared st h r d))) := rfl

/-- A record with the fields that an AMEND gives. -/
def regivenRecord (d : Device) (st : Station) (b : AmendBody) (r : Record) : Record :=
  { r with
    cls := if lowers d st b r then .comfort else askedClass b r
    seq := d.table.counter + 1
    endAt := amendedEnd d.clock.sec b r
    limit := if b.mask.getLsbD 3 then max 1 (min b.limit.toNat 240) else r.limit
    params := (amendParams r.params b.fields).1 }

theorem lookup_regiven (hc : d.table.counter < 4294967295) (hr : lookup d h = some r)
    (hcls : b.mask.getLsbD 0 = true → (classOfCode b.cls).isSome = true) (k : Handle) :
    lookup (regiven st h b d) k = if k = h then some (regivenRecord d st b r) else lookup d k := by
  have same := same_takeSequence d
  unfold regiven
  rw [lookup_revise, lookup_takeSequence_lt hc, lookup_takeSequence_lt hc, hr, Option.map_some, same_clock same,
    same_settings same, takeSequence_counter_lt hc, amendedRecord_eq d st b r _ _ hcls]
  rfl

theorem regiven_counter (hc : d.table.counter < 4294967295) : (regiven st h b d).table.counter = d.table.counter + 1 := by
  unfold regiven
  rw [revise_counter, takeSequence_counter_lt hc]

theorem regiven_occupancy : occupancy (regiven st h b d) = occupancy d := by
  unfold regiven
  rw [occupancy_revise, occupancy_takeSequence]

theorem same_regiven : sameExcept [.table, .link] d (regiven st h b d) :=
  same_then (same_mono (same_takeSequence d)) (same_revise h _ _)

theorem regiven_causes (hc : d.table.counter < 4294967295) : (regiven st h b d).table.causes = d.table.causes ∧
    (regiven st h b d).table.queue = d.table.queue := by
  unfold regiven
  rw [revise_causes, revise_queue, takeSequence_of_lt hc]
  exact ⟨rfl, rfl⟩

theorem faultCleared_plain (hf : ∀ c, r.fn = .lamp c → (d.lamps.get c).fault = false) :
    faultCleared st h r d = withQuiet (if isOwn st r then some h else none) d := clearFault_sound hf

end

/-! ## An amended plan -/

section
variable {d : Device} {st : Station} {b : AmendBody} {h : Handle} {r : Record} {dr : Driver} {p : PlanRec} {f : PlanFields}

/-- What stands when the unit takes an amended plan. -/
structure Regiven (dr : Driver) (h : Handle) (r : Record) (p : PlanRec) (d e : Device) : Prop where
  plan : PlanIs h r p e
  others : ∀ k, k ≠ h → lookup e k = lookup d k
  counter : e.table.counter = d.table.counter + 1
  occupied : occupancy e = occupancy d
  same : sameExcept [.table, .link] d e

/-- An amendment of a plan: the record with the given fields, and what its driver's unit does with it. -/
theorem amended_plan (hr : lookup d h = some r) (hf : r.fn = .rest dr) (hp : r.params = .plan p) (hb : b.fields = .plan f)
    (hc : d.table.counter < 4294967295) (hcls : b.mask.getLsbD 0 = true → (classOfCode b.cls).isSome = true) :
    ∃ y, Regiven dr h (regivenRecord d st b r) (planGiven p f) d y ∧
      amended st h r b d = withQuiet none (amendedForward dr p (retimed (d.plans.get dr).binding p (planGiven p f))
        (worked dr h p (retimed (d.plans.get dr).binding p (planGiven p f)) y)) := by
  have quiet : faultCleared st h r d = withQuiet (if isOwn st r then some h else none) d :=
    faultCleared_plain fun c hc => by rw [hf] at hc; cases hc
  have look := lookup_regiven (st := st) (d := faultCleared st h r d) (b := b) (by rw [quiet]; exact hc) (by rw [quiet]; exact hr) hcls
  have params : (regivenRecord d st b r).params = .plan (planGiven p f) := by
    show (amendParams r.params b.fields).1 = _
    rw [hp, hb, (amendParams_plan p f).1]
  rw [quiet] at look
  have own := (look h).trans (if_pos rfl)
  refine ⟨regiven st h b (faultCleared st h r d), ⟨.of_lookup (by rw [quiet]; exact own) params, fun k hk => ?_, ?_, ?_, ?_⟩, ?_⟩
  · rw [quiet]
    exact (look k).trans (if_neg hk)
  · rw [quiet]
    exact regiven_counter hc
  · rw [quiet]
    exact regiven_occupancy
  · rw [quiet]
    exact same_then (same_mono (same_withQuiet _ d)) same_regiven
  · rw [amended_eq, quiet, lookup_takeSequence_lt (show (withQuiet (if isOwn st r then some h else none) d).table.counter < _ from hc), lookup_withQuiet, hr]
    dsimp only [Option.getD_some]
    unfold afterAmend
    rw [own]
    dsimp only
    rw [hp, show (regivenRecord (withQuiet (if isOwn st r then some h else none) d) st b r).fn = .rest dr from hf]
    dsimp only
    rw [planAmended_eq own params, show (regiven st h b (withQuiet (if isOwn st r then some h else none) d)).plans = d.plans from
      same_plans (same_then (bs := [.table, .link]) (same_mono (same_withQuiet _ d)) same_regiven)]
    rfl

end

end Sys2Proof.Machine
end

section
/-! PROOF. A plan wakes its driver (O53). -/

namespace Sys2Proof.Machine
open Sys2Proof

/-- What the plan unit leaves as it is. -/
theorem kept_of_same {d e : Device} (h : sameExcept planBlocks d e) : e.clock = d.clock ∧ e.settings = d.settings ∧
    e.store = d.store ∧ e.bank = d.bank ∧ e.vehicle = d.vehicle ∧ e.leads = d.leads :=
  ⟨same_clock h, same_settings h, same_store h, same_bank h, same_vehicle h, same_leads h⟩

section
variable {s : State} {dr : Driver} {h : Handle} {r : Record} {p : PlanRec} {e : Nat} {post : Device → Prop}

theorem answers_planWaking (live : s.dev.inReset = false) (hl : livePlan s.dev dr = some (h, r, p)) (hs : p.sub = .active)
    (he : p.plannedEnd = some e) (due : e ≤ s.dev.clock.sec + p.lead * 60) (hpost : post (enterWaking dr s.dev)) :
    Answers (.planWaking dr) s post := by
  refine answers_onPart (f := fun d => if wakingDue d dr then enterWaking dr d else d) rfl live ?_
  rw [if_pos]
  · exact hpost
  · unfold wakingDue leadReached
    rw [hl]
    dsimp only
    rw [he, hs]
    exact decide_eq_true due

theorem answers_planDue (live : s.dev.inReset = false) (hl : livePlan s.dev dr = some (h, r, p)) (hs : p.sub = .waking)
    (he : p.plannedEnd = some e) (due : e ≤ s.dev.clock.sec) (hpost : post (enterDue dr s.dev)) :
    Answers (.planDue dr) s post := by
  refine answers_onPart (f := fun d => if dueDue d dr then enterDue dr d else d) rfl live ?_
  rw [if_pos]
  · exact hpost
  · unfold dueDue endReached
    rw [hl]
    dsimp only
    rw [he, hs]
    exact decide_eq_true due

theorem answers_rampLevelTick (live : s.dev.inReset = false) (hl : livePlan s.dev dr = some (h, r, p)) {w : WakeLight}
    (hw : p.light = some w) (on : (s.dev.plans.get dr).ramp ≠ .none) (hpost : post (handRamp dr p w s.dev)) :
    Answers (.rampLevelTick dr) s post := by
  refine answers_onPart (f := rampTick dr) rfl live ?_
  unfold rampTick
  rw [hl]
  split
  · rename_i hn
    exact absurd hn on
  · rename_i q hq _
    cases hq
    rw [hw]
    exact hpost
  · rename_i hq _
    cases hq

theorem answers_wakeUnanswered (live : s.dev.inReset = false) (hl : livePlan s.dev dr = some (h, r, p)) (hs : p.sub = .due)
    (due : 1800 ≤ (s.dev.plans.get dr).dueTimer) (hpost : post (retireRecord h .wakeUnanswered .entered s.dev)) :
    Answers (.wakeUnanswered dr) s post := by
  refine answers_onPart (f := fun d => if unansweredDue d dr then retirePlan dr .wakeUnanswered d else d) rfl live ?_
  rw [if_pos]
  · unfold retirePlan
    rw [hl]
    exact hpost
  · unfold unansweredDue
    rw [hl]
    dsimp only
    rw [hs]
    exact decide_eq_true due

end

/-! ## An AMEND that keeps length and lead -/

theorem timesChanged_false {old p : PlanRec} (hl : p.len = old.len) (hd : p.lead = old.lead) : timesChanged old p = false := by
  unfold timesChanged
  rw [hl, hd]
  simp

theorem retimed_same {b : Option Nat} {old p : PlanRec} (h : timesChanged old p = false) : retimed b old p = p := by
  unfold retimed
  split
  · rw [if_neg (by rw [h]; decide)]
  · rfl

theorem amendedForward_same {dr : Driver} {old p : PlanRec} {d : Device} (h : timesChanged old p = false) :
    amendedForward dr old p d = d := if_pos (.inr h)

theorem newPreheat_same {old p : PlanRec} (h : p.preheat = old.preheat) : newPreheat old p = none := by
  unfold newPreheat
  rw [if_neg (by simp [h])]

theorem newPreheat_woken {old p : PlanRec} (hw : wokenUp old = true) (h : p.preheat ≠ old.preheat) :
    newPreheat old p = p.preheat := by
  unfold newPreheat
  rw [if_pos (by simp [hw, h])]

theorem relitRamp_same {n : Nat} {old p : PlanRec} {r : Ramp} (h : p.light = old.light) : relitRamp n old p r = r := by
  unfold relitRamp
  rw [if_neg (by simp [h])]

theorem relitRamp_woken {n : Nat} {old p : PlanRec} {r : Ramp} (hw : wokenUp old = true) (h : p.light ≠ old.light) :
    relitRamp n old p r = rampOf n p .none := by
  unfold relitRamp
  rw [if_pos (by simp [hw, h])]

theorem PlanUnit.buzzed_rest (n : Nat) (old p : PlanRec) (u : PlanUnit) : (u.buzzed n old p).ramp = u.ramp ∧
    (u.buzzed n old p).plan = u.plan ∧ (u.buzzed n old p).binding = u.binding := by
  unfold PlanUnit.buzzed
  split
  · split
    · split <;> exact ⟨rfl, rfl, rfl⟩
    · split <;> exact ⟨rfl, rfl, rfl⟩
  · exact ⟨rfl, rfl, rfl⟩

/-- The slots of other handles stand when the unit takes an amended plan. -/
theorem Regiven.slot {dr : Driver} {h : Handle} {r : Record} {p : PlanRec} {d e : Device} (y : Regiven dr h r p d e)
    (ht : TableOk d) (low : h.slot < 46) {g : Nat} {o : Option Record} (hs : d.table.slots[internalSlot dr]? = some ⟨g, o⟩) :
    e.table.slots[internalSlot dr]? = some ⟨g, o⟩ := by
  have apart : (⟨internalSlot dr, g⟩ : Handle) ≠ h := fun c => by
    have := internalSlot_ge dr
    rw [← c] at low
    exact absurd low (by show ¬ internalSlot dr < 46; omega)
  cases o with
  | none => exact free_of_occupancy y.occupied hs
  | some x =>
    exact slot_of_lookup ((y.others _ apart).trans (lookup_of_slot hs (internalSlot_le dr) (gen_ne_zero ht hs)))

section
variable {s : State} {st : Station} {b : AmendBody} {r : Record} {win : Window}

/-- An AMEND whose checks all pass. -/
theorem answers_amended {h : Handle} {post : Device → Prop} (hp : Polled st s.dev) (hh : handleOfWord b.handle = h)
    (hfit : fieldsFit (kindOfCode b.kind) b.fields = true) (hr : lookup s.dev h = some r) (hw : windowOf s.dev st r.fn = some win)
    (may : win.rights.changeAny = true ∨ (win.rights.changeOwn = true ∧ r.owner = .station st)) (own : r.owner ≠ .internal)
    (hk : kindOfCode b.kind = some r.kind) (fits : amendFits r.kind b = true)
    (hpost : ∀ d, sameExcept [.link] (amended st h r b (opened st s.dev)) d →
      Replied st 0x13#8 (if amendBits s.dev st b r = 0 then .ok else .okClamped)
        (blockOf d st h (amendBits s.dev st b r)) s.dev d → post d) : Answers (.amend (some b)) s post :=
  answers_block (mask := amendBits s.dev st b r) rfl hp
    (amend_accepted (d := opened st s.dev) (h := h) (win := win) hh hfit hr hw may own hk fits)
    (acts_still (d := opened st s.dev) (.amend h r b hr own fits)).waiting fun d _ => hpost d

end

/-- An AMEND of a plan that every check passes: what is left of it lies between the unit's work and the answer. -/
theorem answers_amendsPlan {s : State} {st : Station} {b : AmendBody} {dr : Driver} {h : Handle} {r : Record} {p : PlanRec}
    {f : PlanFields} {post : Device → Prop} (hp : Polled st s.dev) (am : AmendsPlan st b dr h r p f s.dev)
    (hpost : ∀ d, sameExcept [.link] (amended st h r b (opened st s.dev)) d →
      Replied st 0x13#8 (if amendBits s.dev st b r = 0 then .ok else .okClamped)
        (blockOf d st h (amendBits s.dev st b r)) s.dev d → post d) : Answers (.amend (some b)) s post := by
  obtain ⟨hh, hl, hf, hk, own, low, hkind, hfields, ⟨win, hw, may⟩, hcls, hdur, hopen, hdelay⟩ := am
  obtain ⟨hu, hr, hpar⟩ := livePlan_iff.mp hl
  have noDuration : givesDuration b = false := by
    unfold givesDuration
    rcases hdur with c | c <;> rw [c]
    · rfl
    · exact Bool.and_false _
  have fits : amendFits r.kind b = true := by
    rw [amendFits_iff]
    exact ⟨hdelay, by rw [noDuration]; rfl, fun _ => ⟨noDuration, hopen⟩, hcls⟩
  exact answers_amended hp hh.symm (by rw [hkind, hfields]; rfl) hr (by rw [hf]; exact hw) may own (by rw [hkind, hk]; rfl) fits hpost

theorem Worked.congr {dr : Driver} {h : Handle} {old p : PlanRec} {r : Record} {d e x : Device} (w : Worked dr h old p r d e)
    (hs : x.table.slots = e.table.slots) (hp : x.plans = e.plans) (hl : x.lamps = e.lamps) (ha : x.accounts = e.accounts) :
    Worked dr h old p r d x := by
  have look := lookup_congr hs
  have at_ : ∀ c, rampAt dr c x = rampAt dr c e := fun c => by
    unfold rampAt
    rw [hl]
  obtain ⟨n, i, hn, plan, hi, free⟩ := w.plan
  exact {
    plan := ⟨n, i, hn, plan.congr (look h), hi, fun t g ht hf => ⟨(free t g ht hf).1, (free t g ht hf).2.congr (look _)⟩⟩
    amended := fun t g y ht hy hc => (w.amended t g y ht hy hc).congr (look _)
    units := fun y => by rw [hp]; exact w.units y
    kept := fun h => by rw [hl]; exact w.kept h
    dark := fun a b c on k => (at_ k).trans (w.dark a b c on k)
    light := fun y a b c on k => (at_ k).trans (w.light y a b c on k)
    quiet := fun h => ha.trans (w.quiet h)
    begins := fun a b c k => ha.trans (w.begins a b c k)
    ends := fun a b c k => ha.trans (w.ends a b c k) }

/-- An AMEND that keeps length and lead, in the state before the request. -/
theorem amendsPlan_worked {d e : Device} {st : Station} {b : AmendBody} {dr : Driver} {h : Handle} {r : Record} {p : PlanRec}
    {f : PlanFields} (am : AmendsPlan st b dr h r p f d) (ht : TableOk d) (hc : d.table.counter < 4294967295)
    (times : timesChanged p (planGiven p f) = false) (same : sameExcept [.link] (amended st h r b d) e) :
    ∃ y, Regiven dr h (regivenRecord d st b r) (planGiven p f) d y ∧
      Worked dr h p (planGiven p f) (regivenRecord d st b r) y e := by
  obtain ⟨-, hl, hf, -, -, low, -, hfields, -, hcls, -⟩ := am
  obtain ⟨hu, hr, hpar⟩ := livePlan_iff.mp hl
  have ho : fnLane (regivenRecord d st b r).fn = none := by
    show fnLane r.fn = none
    rw [hf]
    rfl
  obtain ⟨y, given, eq⟩ := amended_plan (st := st) hr hf hpar hfields hc hcls
  rw [retimed_same times, amendedForward_same times] at eq
  have reserved : Reserved dr y := (reserved_of_tableOk dr ht).congr given.occupied
  have work := worked_spec (p := planGiven p f) (old := p) (o := (planGiven p f).plannedEnd) rfl given.plan ho low reserved
  refine ⟨y, given, ?_⟩
  rw [eq] at same
  generalize worked dr h p (planGiven p f) y = x at same work
  exact (work.congr (x := withQuiet none x) rfl rfl rfl rfl).congr (congrArg Table.slots (same_table same)) (same_plans same)
    (same_lamps same) (same_accounts same)

/-- Settles O53: the entries by `Woken` and `Due`, the end by `PlanGone`, and an AMEND by the unit's work on it (`Worked`). -/
theorem plansWakeTheDriver : Obligations.PlansWakeTheDriver := by
  unfold Obligations.PlansWakeTheDriver
  intro s dr h r p e live hl hf he ht low now unit slot level kept
  obtain ⟨hu, hr, hp⟩ := livePlan_iff.mp hl
  have ho : fnLane r.fn = none := by rw [hf]; rfl
  have isPlan := PlanIs.of_lookup hr hp
  have hslot : slot = internalSlot dr := by cases dr <;> rfl
  clear_value slot
  subst hslot
  have risen : ∀ (q : PlanRec) (w : WakeLight), q.plannedEnd = some e → q.lead = p.lead → q.sub ≠ .due → rampFor now q w =
      if p.lead = 0 then .held w.level else .rising (level w) := fun q w hq hlead hsub => by
    rw [rampFor_eq hq, hlead]
    by_cases h0 : p.lead = 0
    · rw [if_pos (.inr h0), if_pos h0]
    · rw [if_neg (fun c => c.elim hsub h0), if_neg h0]
  have woke := fun w => risen { p with sub := .waking } w he rfl (show SubState.waking ≠ .due by decide)
  refine ⟨fun hs due => ?_, fun hs due => ?_, fun w hw on => ?_, fun hs due => ?_, fun st b f hpoll am hs hlen hlead hc => ?_⟩
  · refine answers_planWaking live hl hs he due ?_
    have woken := enterWaking_woken isPlan hu ho low (reserved_of_tableOk dr ht)
    obtain ⟨n, i, -, ⟨b, hb⟩, hi, hfree⟩ := woken.plan
    have unit' := woken.units dr
    rw [if_pos rfl] at unit'
    have ramp : ∀ w, p.light = some w → ((enterWaking dr s.dev).plans.get dr).ramp = rampFor now { p with sub := .waking } w :=
      fun w hw => by
        rw [unit']
        unfold rampOf
        dsimp only
        rw [hw]
    refine ⟨⟨_, _, hb, rfl, rfl, he, hi⟩, fun t g hpre hs => ⟨(hfree t g hpre hs).2, _, _, hb, rfl, (hfree t g hpre hs).1⟩,
      fun w hw pos => ⟨?_, fun c hch => ?_⟩, fun w hw h0 => ?_, same_accounts woken.same, kept_of_same (same_mono woken.same)⟩
    · rw [ramp w hw, woke w, if_neg (by omega)]
    · refine (woken.ramps w hw c hch).trans ?_
      show some (rampLevelOf (rampFor now { p with sub := .waking } w)) = _
      rw [woke w, if_neg (by omega)]
      rfl
    · rw [ramp w hw, woke w, if_pos h0]
  · refine answers_planDue live hl hs he due ?_
    have entered := enterDue_due isPlan hu ho
    obtain ⟨b, hb⟩ := entered.plan
    have unit' := entered.units dr
    have accounts := entered.accounts
    rw [if_pos rfl] at unit'
    dsimp only at unit'
    refine ⟨⟨_, _, hb, rfl, rfl, he, rfl⟩, ?_, fun w hw => ?_, fun hb => ?_, fun hb => ?_, kept_of_same (same_mono entered.same)⟩
    · rw [unit']
      split <;> rfl
    · have held : rampOf now { p with sub := .due } unit.ramp = .held w.level := by
        unfold rampOf
        dsimp only
        rw [hw]
        exact (rampFor_eq (p := { p with sub := .due }) he).trans (if_pos (.inl rfl))
      rw [unit']
      split <;> exact held
    · rw [if_pos hb] at unit' accounts
      rw [unit', accounts]
      exact ⟨rfl, rfl, rfl⟩
    · have off : ¬ p.buzzer = true := by rw [hb]; decide
      rw [if_neg off] at unit' accounts
      rw [unit', accounts]
      exact ⟨rfl, rfl⟩
  · refine answers_rampLevelTick live hl hw on ?_
    have level' : rampFor now p w = if p.sub = .due ∨ p.lead = 0 then .held w.level else .rising (level w) := rampFor_eq he
    have sounded : rampLevelOf (rampFor now p w) = if p.sub = .due ∨ p.lead = 0 then w.level else level w := by
      rw [level']
      split <;> rfl
    refine ⟨?_, fun c => ?_, fun c => rampLevel_out _ c, same_handRamp dr p w s.dev⟩
    · rw [handRamp_plans, setUnit_get]
      dsimp only
      rw [level']
      split <;> rfl
    · refine (rampAt_handRamp c).trans ?_
      rw [sounded]
      rfl
  · refine answers_wakeUnanswered live hl hs due ?_
    have gone := retireRecord_planGone ht hr hf low .wakeUnanswered (how := .entered) (by nofun)
    exact ⟨gone.gone, by rw [gone.slot]; rfl, gone.free, gone.unit, gone.ramp, gone.bunk, kept_of_same (same_retireRecord _ _ _ _)⟩
  · have woken : wokenUp p = true := by
      unfold wokenUp
      simpa using hs
    have times : timesChanged p (planGiven p f) = false := timesChanged_false
      (by
        show (if f.len = 0xFFFF#16 then p.len else _) = p.len
        split
        · rfl
        · rename_i hn
          exact hlen.resolve_left hn)
      (by
        show (if f.lead = 0xFF#8 then p.lead else _) = p.lead
        split
        · rfl
        · rename_i hn
          exact hlead.resolve_left hn)
    intro preheat set light buzzer
    have hlight : light = (planGiven p f).light := by
      show (if f.level = 0xFF#8 then _ else _) = if f.level = 0xFF#8 then _ else _
      refine if_congr Iff.rfl rfl (if_congr (noChannels_iff f.channels) rfl rfl)
    clear_value light
    subst hlight
    refine answers_amendsPlan hpoll am fun d same _ => ?_
    have count : s.dev.table.counter < 4294967295 := by omega
    obtain ⟨y, given, work⟩ := amendsPlan_worked (d := opened st s.dev) am ht count times same
    obtain ⟨n, i, -, ⟨a, ha⟩, hi, free⟩ := work.plan
    have unit' := work.units dr
    have given' : sameExcept [.table, .link] s.dev y := same_trans (same_mono (same_opened st s.dev)) given.same
    have plans : y.plans = s.dev.plans := same_plans given'
    have clock : y.clock = s.dev.clock := same_clock given'
    have accounts : y.accounts = s.dev.accounts := same_accounts given'
    have lamps : y.lamps = s.dev.lamps := same_lamps given'
    have counter : y.table.counter = s.dev.table.counter + 1 := given.counter
    rw [if_pos rfl, plans, clock] at unit'
    have ramp : (d.plans.get dr).ramp = relitRamp now p (planGiven p f) unit.ramp := by
      rw [unit', (PlanUnit.buzzed_rest _ _ _ _).1]
    have given_ramp : ∀ w, rampFor now (planGiven p f) w = if p.sub = .due ∨ p.lead = 0
        then .held (if p.sub = .due ∨ p.lead = 0 then w.level else level w)
        else .rising (if p.sub = .due ∨ p.lead = 0 then w.level else level w) := fun w => by
      have hlead' : (planGiven p f).lead = p.lead := by
        have := times
        unfold timesChanged at this
        simpa using (Bool.or_eq_false_iff.mp this).2
      rw [rampFor_eq (p := planGiven p f) he, hlead']
      by_cases held : p.sub = .due ∨ p.lead = 0
      · rw [if_pos held, if_pos held, if_pos (show (planGiven p f).sub = .due ∨ p.lead = 0 from held)]
      · rw [if_neg held, if_neg held, if_neg (show ¬ ((planGiven p f).sub = .due ∨ p.lead = 0) from held)]
    have sounds : ∀ w, rampLevelOf (rampFor now (planGiven p f) w) = if p.sub = .due ∨ p.lead = 0 then w.level else level w :=
      fun w => by
        rw [given_ramp]
        split <;> rfl
    refine ⟨⟨_, _, ha, rfl, rfl, he, rfl, rfl, rfl, fun same' => hi (newPreheat_same same'), fun t g hpre hne hs => ?_⟩,
      fun t g x hpre hne hs => ?_, fun hsame => ⟨?_, fun c => ?_⟩, fun hnone hne on => ⟨?_, fun c => ?_⟩,
      fun w hsome hne on => ⟨?_, fun c => ?_⟩, fun hsub hoff hon hcall => ?_, fun hsub hon hoff hcall => ?_, fun hquiet => ?_, ?_⟩
    · exact free t g ((newPreheat_woken woken hne).trans hpre) (given.slot (d := opened st s.dev) ht low hs)
    · have hot := work.amended t g x ((newPreheat_woken woken hne).trans hpre) (given.slot (d := opened st s.dev) ht low hs)
        (by omega)
      rw [counter] at hot
      exact hot
    · rw [ramp, relitRamp_same hsame]
    · rw [(work.kept hsame c).2.1, lamps]
    · rw [ramp, relitRamp_woken woken (by rw [hnone]; exact fun c => hne c.symm)]
      unfold rampOf
      rw [hnone]
    · exact work.dark woken (by rw [hnone]; exact fun c => hne c.symm) hnone (by rw [plans]; exact on) c
    · rw [ramp, relitRamp_woken woken (by rw [hsome]; exact fun c => hne c.symm)]
      unfold rampOf
      rw [hsome]
      exact given_ramp w
    · have lit := work.light w woken (by rw [hsome]; exact fun c => hne c.symm) hsome (by
        rw [plans]
        unfold rampAt
        rw [lamps]
        exact on) c
      rw [clock, show s.dev.clock.sec = now from rfl, sounds w] at lit
      exact lit
    · have call : (d.plans.get dr).call = .calling ∧ (d.plans.get dr).nextCall = now + 30 := by
        rw [unit']
        unfold PlanUnit.buzzed
        rw [if_pos ⟨hsub, by rw [hoff]; exact fun c => by rw [show (planGiven p f).buzzer = true from hon] at c; cases c⟩,
          if_pos (show (planGiven p f).buzzer = true from hon), if_pos hcall]
        exact ⟨rfl, rfl⟩
      refine ⟨call.1, call.2, ?_⟩
      rw [work.begins hsub hoff hon (by rw [plans]; exact hcall), accounts, clock]
      rfl
    · have call : (d.plans.get dr).call = .silent := by
        rw [unit']
        unfold PlanUnit.buzzed
        rw [if_pos ⟨hsub, by rw [hon]; exact fun c => by rw [show (planGiven p f).buzzer = false from hoff] at c; cases c⟩,
          if_neg (by rw [show (planGiven p f).buzzer = false from hoff]; decide), if_pos hcall]
      refine ⟨call, ?_⟩
      rw [work.ends hsub hon hoff (by rw [plans]; exact hcall), accounts]
    · have quiet : p.sub ≠ .due ∨ (planGiven p f).buzzer = p.buzzer :=
        hquiet.imp_left fun c => by rw [c]; decide
      refine ⟨?_, (work.quiet quiet).trans accounts⟩
      rw [unit']
      unfold PlanUnit.buzzed
      rw [if_neg (fun c => quiet.elim (fun k => k c.1) (fun k => c.2 k))]
    · exact kept_of_same (same_then (bs := planBlocks) (same_mono (same_opened st s.dev))
        (same_then (bs := planBlocks) same_amended same))

end Sys2Proof.Machine
end

section
/-! PROOF. CREATE with a start delay, and a lane record that goes to admission (O14). -/

namespace Sys2Proof.Machine
open Sys2Proof

/-! ## An answer at once -/

/-- A request whose work leaves heater and link as they were is answered at once, with the block in the state that it leaves. -/
theorem answers_block_now {i : Instr} {s : State} {st : Station} {f : Station → Device → Device} {post : Device → Prop}
    {old e : Device} {ty : Byte} {h : Handle} {mask : Nat} (he : exec i s = onPart (serve f) s) (hp : Polled st s.dev)
    (hf : f st (opened st s.dev) = answerAfter old st ty (okCode (mask != 0)) (.block h mask (answerBlock e st h mask)) e)
    (hh : e.heater = old.heater) (hl : e.link = (opened st s.dev).link)
    (post_of : ∀ d, sameExcept [.link] e d →
      AnsweredOnly st ty (if mask = 0 then .ok else .okClamped) (answerBlock d st h mask) s.dev d → post d) :
    Answers i s post := by
  have sent : answerAfter old st ty (okCode (mask != 0)) (.block h mask (answerBlock e st h mask)) e =
      answer st ty (if mask = 0 then .ok else .okClamped) (answerBlock e st h mask) e := by
    unfold answerAfter workStands
    rw [hh, if_neg (by simp), okCode_mask]
    unfold specBytes
    dsimp only
    rw [ite_self]
  refine answers_served he hp (hf ▸ sent ▸ post_of _ (same_answer _ _ _ _ _) ?_)
  rw [answerBlock_of_same (same_answer _ _ _ _ _)]
  refine ⟨⟨rfl, rfl⟩, ?_, ?_, ?_, ?_⟩
  · exact congrArg Link.stations hl
  · show e.link.pos = (opened st s.dev).link.pos
    rw [hl]
  · show e.link.polled = (opened st s.dev).link.polled
    rw [hl]
  · show e.link.pollFrame = (opened st s.dev).link.pollFrame
    rw [hl]

/-! ## A start delay -/

section
variable {d : Device} {st : Station} {b : CreateBody} {fn : Fn} {cls : Machine.Class} {params : Params} {flags : List Bool}
  {h : Handle}

/-- The counter at its top: the next sequence follows a renumbering (R20). -/
def lastSequence (d : Device) : Nat := if 4294967295 ≤ d.table.counter then (records d).length else d.table.counter

theorem takeSequence_counter (d : Device) : (takeSequence d).table.counter = lastSequence d + 1 := by
  unfold lastSequence
  by_cases hc : 4294967295 ≤ d.table.counter
  · rw [if_pos hc, takeSequence_of_le hc]
    rfl
  · rw [if_neg hc, takeSequence_counter_lt (Nat.not_le.mp hc)]

theorem takeSequence_slots (d : Device) (i : Nat) : (takeSequence d).table.slots[i]? =
    if 4294967295 ≤ d.table.counter then (d.table.slots[i]?).map fun x => ⟨x.gen, x.rcd.map fun r =>
      { r with seq := 1 + ((records d).filter fun hr => hr.2.seq < r.seq).length }⟩
    else d.table.slots[i]? := by
  by_cases hc : 4294967295 ≤ d.table.counter
  · rw [if_pos hc, takeSequence_of_le hc]
    show (d.table.slots.map _)[i]? = _
    rw [List.getElem?_map]
    simp only [seqRank, Nat.add_comm 1]
  · rw [if_neg hc, takeSequence_of_lt (Nat.not_le.mp hc)]

theorem takeSequence_rest (d : Device) : (takeSequence d).table.queue = d.table.queue ∧
    (takeSequence d).table.causes = d.table.causes := by
  by_cases hc : 4294967295 ≤ d.table.counter
  · rw [takeSequence_of_le hc]
    exact ⟨rfl, rfl⟩
  · rw [takeSequence_of_lt (Nat.not_le.mp hc)]
    exact ⟨rfl, rfl⟩

theorem inserted_slots_ne {i : Nat} (hi : i ≠ h.slot) :
    (inserted st fn h b cls params flags d).table.slots[i]? = (takeSequence (clearFault fn d)).table.slots[i]? :=
  List.getElem?_set_ne (Ne.symm hi)

theorem occupied_below (free : freeStationSlot d = some h) {i : Nat} (hi : i < h.slot) :
    ∃ x, d.table.slots[i]? = some x ∧ x.rcd.isSome = true := by
  obtain ⟨-, -, -, below⟩ := firstFree_eq_some _ _ _ free
  obtain ⟨hs, hl⟩ := slot_of_freeStationSlot free
  have inBounds : i < d.table.slots.length := Nat.lt_trans hi (List.getElem?_eq_some_iff.mp hs).1
  refine ⟨d.table.slots[i], List.getElem?_eq_getElem inBounds, below i _ (Nat.zero_le i) hi ?_⟩
  rw [Nat.sub_zero, List.getElem?_take_of_lt (show i < Config.stationSlots from Nat.lt_trans hi hl), List.getElem?_eq_getElem inBounds]

theorem same_inserted_plain (hl : ∀ c, fn = .lamp c → (d.lamps.get c).fault = false) :
    sameExcept [.table] d (inserted st fn h b cls params flags d) := by
  unfold inserted
  rw [clearFault_sound hl]
  exact same_then (same_then (same_takeSequence d) (same_withQuiet _ _)) (same_putRecord _ _ _)

/-- What a CREATE with a start delay leaves of the table. -/
theorem created_delayed (ht : TableOk d) (free : freeStationSlot d = some h) (hl : ∀ c, fn = .lamp c → (d.lamps.get c).fault = false)
    (h1 : b.delay ≠ 0xFFFF#16) (h0 : b.delay ≠ 0#16) :
    let e := created st fn h b cls params flags d
    lookup e h = some {
      kind := fnKind fn
      fn := fn
      owner := .station st
      cls := classFor d st cls
      state := .scheduled
      reason := .awaitStart
      seq := lastSequence d + 1
      start := some (d.clock.sec + 60 * min 1440 b.delay.toNat)
      endAt := endFrom b (d.clock.sec + 60 * min 1440 b.delay.toNat)
      limit := limitFor d b
      deadline := none
      params := params } ∧
    (∀ i, i ≠ h.slot → e.table.slots[i]? = (takeSequence d).table.slots[i]?) ∧
    e.table.counter = lastSequence d + 1 ∧ e.table.queue = d.table.queue ∧ e.table.causes = d.table.causes ∧
    sameExcept [.table] d e := by
  have sound : clearFault fn d = d := clearFault_sound hl
  dsimp only
  rw [created_later h1 h0]
  refine ⟨?_, fun i hi => ?_, ?_, ?_, ?_, same_then (same_inserted_plain hl) (same_withQuiet none _)⟩
  · rw [lookup_withQuiet, lookup_inserted ht free, if_pos rfl, newIn_later h1 h0, sound, takeSequence_counter]
  · exact (inserted_slots_ne hi).trans (by rw [sound])
  · show (takeSequence (clearFault fn d)).table.counter = _
    rw [sound, takeSequence_counter]
  · show (takeSequence (clearFault fn d)).table.queue = _
    rw [sound, (takeSequence_rest d).1]
  · show (takeSequence (clearFault fn d)).table.causes = _
    rw [sound, (takeSequence_rest d).2]

theorem createMask_delayed {k : Kind} (hk : k ≠ .restPlan) (hpar : createParams k b.fields = some (params, flags))
    (h1 : b.delay ≠ 0xFFFF#16) : createMask d st b cls flags =
      (if cls = .essential ∧ (d.settings.stations.get st).control = false then 1 else 0) + (if 1440 < b.delay.toNat then 2 else 0) +
        (if b.duration ≠ 0xFFFF#16 ∧ (b.duration = 0#16 ∨ 1440 < b.duration.toNat) then 4 else 0) +
        (if 240 < b.limit.toNat then 8 else 0) + (if fieldPast k b.fields = true then 16 else 0) := by
  have delay : (b.delay ≠ 0xFFFF#16 ∧ 1440 < b.delay.toNat) ↔ 1440 < b.delay.toNat := ⟨And.right, And.intro h1⟩
  unfold createMask timeMask
  rw [maskOf_createParams hk hpar, if_congr delay rfl rfl]
  omega

theorem createMask_now {k : Kind} (hk : k ≠ .restPlan) (hpar : createParams k b.fields = some (params, flags))
    (hd : b.delay = 0xFFFF#16 ∨ b.delay = 0#16) : createMask d st b cls flags =
      timeMask d st b cls + (if fieldPast k b.fields = true then 16 else 0) := by
  have now : ¬ (b.delay ≠ 0xFFFF#16 ∧ 1440 < b.delay.toNat) := fun ⟨h1, h2⟩ => by
    rw [hd.resolve_left h1] at h2
    exact absurd h2 (by decide)
  unfold createMask
  rw [if_neg now, maskOf_createParams hk hpar, Nat.add_zero]

end

theorem timesFit_plain {k : Kind} (hk : k ≠ .restPlan) (b : CreateBody) : timesFit k b = true := by
  unfold timesFit
  rw [bne_iff_ne.mpr hk, Bool.true_or]


end Sys2Proof.Machine
end

section
/-! PROOF. A lane record created with no delay goes to admission (R9, R10, R83): the states that the standing causes give it,
and the admission test with the new record in its slot. -/

namespace Sys2Proof.Machine
open Sys2Proof

/-! ## A record that meets the causes of its function -/

theorem firstCause_eq_none {s : CauseSet} : firstCause s = none ↔ s = CauseSet.none := by
  obtain ⟨a, b, c, e, f⟩ := s
  unfold firstCause CauseSet.none
  cases a <;> cases b <;> cases c <;> cases e <;> cases f <;> simp

/-- A GRANTED or SUSPENDED record stands as the causes say; one that no cause holds is there by admission or resumption. -/
def Suits (s : CauseSet) (r : Record) : Prop :=
  (s = CauseSet.none → r.state = .granted ∧ (r.reason = .admitted ∨ r.reason = .resumed)) ∧
    (s ≠ CauseSet.none → r.state = .suspended)

theorem Suits.standing {s : CauseSet} {r : Record} (h : Suits s r) :
    r.state = .suspended ∨ r.state = .granted ∧ (r.reason = .admitted ∨ r.reason = .resumed) := by
  by_cases hs : s = CauseSet.none
  · exact .inr (h.1 hs)
  · exact .inl (h.2 hs)

theorem suits_mapRecord {r : Record} (s : CauseSet)
    (h : r.state = .suspended ∨ r.state = .granted ∧ (r.reason = .admitted ∨ r.reason = .resumed)) :
    Suits s (mapRecord s r) := by
  unfold mapRecord
  cases hc : firstCause s with
  | none =>
    have none' := firstCause_eq_none.mp hc
    refine ⟨fun _ => ?_, fun n => absurd none' n⟩
    rcases h with h | ⟨h, w⟩
    · rw [h]
      exact ⟨rfl, .inr rfl⟩
    · rw [h]
      exact ⟨h, w⟩
  | some c =>
    have some' : s ≠ CauseSet.none := fun e => by
      rw [firstCause_eq_none.mpr e] at hc
      cases hc
    refine ⟨fun n => absurd n some', fun _ => ?_⟩
    rcases h with h | ⟨h, -⟩
    · rw [h]
    · rw [h]

theorem suits_grantAs (s : CauseSet) (r : Record) : Suits s (grantAs .admitted s r) :=
  suits_mapRecord s (.inr ⟨rfl, .inl rfl⟩)

/-- The record at `h` is on lane `l` and stands as the lane's causes say. -/
def Suited (l : Lane) (h : Handle) (d : Device) : Prop :=
  ∃ r, lookup d h = some r ∧ r.fn = laneFn l ∧ Suits (causesOf d.table.causes (laneFn l)) r

theorem Suited.congr {l : Lane} {h : Handle} {d e : Device} (s : Suited l h d) (ht : e.table = d.table) : Suited l h e := by
  unfold Suited
  rw [lookup_congr (congrArg Table.slots ht), ht]
  exact s

theorem Suited.setCause {l : Lane} {h : Handle} {d : Device} (s : Suited l h d) (k : Lane) (f : CauseSet → CauseSet) :
    Suited l h (setCause (laneFn k) f d) := by
  obtain ⟨r, hr, hf, suits⟩ := s
  by_cases change : f (causesOf d.table.causes (laneFn k)) = causesOf d.table.causes (laneFn k)
  · rw [setCause_of_same change]
    exact ⟨r, hr, hf, suits⟩
  · have look := lookup_setCause_of_change change h
    rw [hr, Option.map_some] at look
    by_cases hk : laneFn l = laneFn k
    · refine ⟨_, look, ?_, ?_⟩
      · rw [if_pos (hf.trans hk)]
        exact (touched_mapRecord _ (by rw [hf, fnLane_laneFn]; exact nofun)).fn.trans hf
      · rw [if_pos (hf.trans hk), hk, setCause_causes_self]
        exact suits_mapRecord _ suits.standing
    · refine ⟨_, look, ?_, ?_⟩
      · rw [if_neg (fun c => hk (hf.symm.trans c))]
        exact hf
      · rw [if_neg (fun c => hk (hf.symm.trans c)), setCause_causes_ne f d hk]
        exact suits

theorem Suited.atRisk {l : Lane} {h : Handle} {d : Device} (s : Suited l h d) (k : Handle) (b : Bool) :
    Suited l h (revise k (planAtRisk b) d) := by
  obtain ⟨r, hr, hf, suits⟩ := s
  have state : (planAtRisk b r).state = r.state ∧ (planAtRisk b r).reason = r.reason ∧ (planAtRisk b r).fn = r.fn := by
    unfold planAtRisk
    split <;> exact ⟨rfl, rfl, rfl⟩
  by_cases hk : h = k
  · refine ⟨planAtRisk b r, by rw [lookup_revise, if_pos hk, ← hk, hr]; rfl, state.2.2.trans hf, ?_⟩
    rw [revise_causes]
    unfold Suits
    rw [state.1, state.2.1]
    exact suits
  · exact ⟨r, (lookup_revise_ne _ d hk).trans hr, hf, by rw [revise_causes]; exact suits⟩

theorem settled_suited (l : Lane) (h : Handle) : Settled (Suited l h) where
  cause _ k f s := s.setCause k f
  atRisk _ k b s := s.atRisk k b
  budget _ _ s := s.congr rfl
  cap _ s := s.congr (same_table (same_applyCap _))
  form _ s := s.congr (same_table (same_formPermissions _))
  stop _ s := s.congr (same_table (same_sendStop _))
  budgetFlag _ s := s.congr rfl

theorem suited_admitted {l : Lane} {h : Handle} {d : Device} {r : Record} (hr : lookup d h = some r) (hf : r.fn = laneFn l) :
    Suited l h (recompute (grant h .admitted d)) := by
  refine (settled_suited l h).recompute ⟨_, (lookup_grant hr .admitted h).trans (if_pos rfl), ?_, ?_⟩
  · rw [grantAs_fields]
    exact hf
  · rw [(grant_table h .admitted d).2, hf]
    exact suits_grantAs _ r

/-! ## The admission test with the new record in its slot -/

/-- A record put into a free slot joins the records of the table and changes no other. -/
theorem recordsFrom_insert {g : Nat} (r : Record) : ∀ (ss : List Slot) (k i : Nat), ss[i]? = some ⟨g, none⟩ →
    ∃ a b, recordsFrom k ss = a ++ b ∧ recordsFrom k (ss.set i ⟨g, some r⟩) = a ++ (⟨k + i, g⟩, r) :: b
  | s :: ss, k, 0, h => by
    cases Option.some.inj h
    exact ⟨[], recordsFrom (k + 1) ss, rfl, rfl⟩
  | s :: ss, k, i + 1, h => by
    obtain ⟨a, b, ha, hb⟩ := recordsFrom_insert r ss (k + 1) i h
    rw [show k + 1 + i = k + (i + 1) by omega] at hb
    rw [List.set_cons_succ]
    unfold recordsFrom
    rw [ha, hb]
    cases s.rcd with
    | none => exact ⟨a, b, rfl, rfl⟩
    | some x => exact ⟨(⟨k, s.gen⟩, x) :: a, b, rfl, rfl⟩

section
variable {d : Device} {st : Station} {b : CreateBody} {l : Lane} {cls : Machine.Class} {params : Params} {flags : List Bool}
  {h : Handle}

theorem laneFn_sound (d : Device) (l : Lane) : ∀ c, laneFn l = .lamp c → (d.lamps.get c).fault = false := fun c hc => by
  cases l <;> cases hc

theorem createParams_laneFn {f : KindFields} (hpar : createParams (fnKind (laneFn l)) f = some (params, flags)) (p : PlanRec) :
    params ≠ .plan p := by
  intro e
  have kind := paramsKind_createParams hpar
  rw [e] at kind
  cases l <;> cases kind

/-- What stands in the table when a new lane record goes to admission. -/
structure Awaiting (st : Station) (l : Lane) (h : Handle) (b : CreateBody) (cls : Machine.Class) (params : Params)
    (d y : Device) : Prop where
  record : lookup y h = some {
      kind := fnKind (laneFn l)
      fn := laneFn l
      owner := .station st
      cls := classFor d st cls
      state := .scheduled
      reason := .awaitStart
      seq := d.table.counter + 1
      start := none
      endAt := endFrom b d.clock.sec
      limit := limitFor d b
      deadline := none
      params := params }
  slots : ∀ i, i ≠ h.slot → y.table.slots[i]? = d.table.slots[i]?
  counter : y.table.counter = d.table.counter + 1
  queue : y.table.queue = d.table.queue
  quiet : y.table.quiet = some h
  same : sameExcept [.table] d y
  admits : ∀ c, Admits y h l c ↔ ((∃ hr ∈ records d, hr.2.fn = laneFn l ∧
    (hr.2.state = .granted ∨ (hr.2.state = .suspended ∧ hr.2.reason = .budget))) ∨ c ≠ .leisure ∨ d.budget.mode = .charging ∨
    ((d.budget.mode = .nominal ∨ d.budget.mode = .curtailed ∨ d.budget.mode = .short) ∧
      0 ≤ (project d d.budget.modes d.budget.cap (some l)).m))

theorem awaiting_inserted (ht : TableOk d) (hc : d.table.counter < 4294967295) (free : freeStationSlot d = some h)
    (hd : b.delay = 0xFFFF#16 ∨ b.delay = 0#16) (hp : ∀ p, params ≠ .plan p) :
    Awaiting st l h b cls params d (inserted st (laneFn l) h b cls params flags d) := by
  have sound : clearFault (laneFn l) d = d := clearFault_sound (laneFn_sound d l)
  have same := same_inserted_plain (st := st) (b := b) (cls := cls) (params := params) (flags := flags) (h := h) (laneFn_sound d l)
  have record := (lookup_inserted (st := st) (fn := laneFn l) (b := b) (cls := cls) (params := params) (flags := flags) ht free h).trans
    (if_pos rfl)
  rw [newIn_now hd, sound, takeSequence_counter_lt hc] at record
  have slots : (takeSequence d).table.slots = d.table.slots := by rw [takeSequence_of_lt hc]
  obtain ⟨rs, rs', hrs, hrs'⟩ := recordsFrom_insert (newIn d st (laneFn l) b cls params flags) d.table.slots 0 h.slot
    (slot_of_freeStationSlot free).1
  have before : records d = rs ++ rs' := hrs
  have after : records (inserted st (laneFn l) h b cls params flags d) =
      rs ++ (h, newIn d st (laneFn l) b cls params flags) :: rs' := by
    rw [Nat.zero_add] at hrs'
    rw [show h = ⟨h.slot, h.gen⟩ from rfl, ← hrs']
    unfold records inserted
    rw [sound, putRecord_table_slots]
    show recordsFrom 0 ((takeSequence d).table.slots.set _ _) = _
    rw [slots]
  have idle : ∀ k, engaged (inserted st (laneFn l) h b cls params flags d) k none = engaged d k none := fun k => by
    unfold engaged
    have off : engages (newIn d st (laneFn l) b cls params flags) = false := by
      rw [newIn_now hd]
      rfl
    rw [before, after, List.any_append, List.any_append, List.any_cons]
    simp only [off, Bool.and_false, Bool.false_and, Bool.false_or]
  have plans : planRecords (inserted st (laneFn l) h b cls params flags d) = planRecords d := by
    unfold planRecords
    rw [before, after, List.filterMap_append, List.filterMap_append, List.filterMap_cons, newIn_now hd]
    dsimp only
    split
    · rfl
    · rename_i hp'
      split at hp'
      · exact absurd rfl (hp _)
      · cases hp'
  have margin := project_congr (same_settings same) (same_bank same) (same_clock same) (same_lamps same) idle plans
  refine ⟨record, fun i hi => (inserted_slots_ne hi).trans (by rw [sound, slots]), ?_, ?_, rfl, same, fun c => ?_⟩
  · show (takeSequence (clearFault (laneFn l) d)).table.counter = _
    rw [sound, takeSequence_counter_lt hc]
  · show (takeSequence (clearFault (laneFn l) d)).table.queue = _
    rw [sound, takeSequence_of_lt hc]
  · unfold Admits
    rw [margin, same_budget same]
    refine or_congr ?_ Iff.rfl
    have unborn : ∀ hr ∈ records d, hr.1 ≠ h := fun hr m e => by
      have slot := mem_records_iff.mp (show (hr.1, hr.2) ∈ records d from m)
      rw [e, (slot_of_freeStationSlot free).1] at slot
      exact absurd slot (by simp)
    constructor
    · rintro ⟨hr, m, hne, rest⟩
      refine ⟨hr, ?_, rest⟩
      rw [after] at m
      rw [before]
      rcases List.mem_append.mp m with m | m
      · exact List.mem_append_left _ m
      · refine List.mem_append_right _ ((List.mem_cons.mp m).resolve_left fun e => hne ?_)
        rw [e]
    · rintro ⟨hr, m, rest⟩
      refine ⟨hr, ?_, unborn hr m, rest⟩
      rw [before] at m
      rw [after]
      exact (List.mem_append.mp m).elim (List.mem_append_left _) (fun k => List.mem_append_right _ (List.mem_cons_of_mem _ k))

end

/-! ## A deferral that no answer reports -/

/-- The record whose changes an answer reports is not marked (R13). -/
theorem revise_link_quiet {d : Device} {h : Handle} (hq : d.table.quiet = some h) (f : Record → Record) :
    (revise h f d).link = d.link := by
  cases hr : lookup d h with
  | none => rw [revise_of_none f hr]
  | some r =>
    rw [revise_of_some f hr]
    split
    · rfl
    · unfold mark
      rw [if_pos (show (putRecord h (f r) d).table.quiet = some h from hq)]
      rfl

theorem revise_slots_ne (h : Handle) (f : Record → Record) (d : Device) {i : Nat} (hi : i ≠ h.slot) :
    (revise h f d).table.slots[i]? = d.table.slots[i]? := by
  rw [revise_table_slots]
  split
  · exact List.getElem?_set_ne (Ne.symm hi)
  · rfl

theorem defer_quiet {d : Device} {h : Handle} (hq : d.table.quiet = some h) (w : Reason) :
    (defer h w d).link = d.link ∧ ∀ i, i ≠ h.slot → (defer h w d).table.slots[i]? = d.table.slots[i]? := by
  unfold defer
  cases hr : lookup d h with
  | none => exact ⟨rfl, fun _ _ => rfl⟩
  | some r =>
    dsimp only
    refine ⟨(same_link (same_joinQueue h _)).trans (revise_link_quiet hq _), fun i hi => ?_⟩
    rw [joinQueue_slots]
    exact revise_slots_ne h _ d hi

theorem same_defer_quiet {d : Device} {h : Handle} (hq : d.table.quiet = some h) (w : Reason) :
    sameExcept [.table] d (defer h w d) := by
  intro k hk
  by_cases hl : k = .link
  · subst hl
    exact (defer_quiet hq w).1
  · refine same_defer h w d k fun m => ?_
    rcases List.mem_cons.mp m with m | m
    · exact hk (List.mem_cons.mpr (.inl m))
    · exact hl (List.mem_singleton.mp m)

end Sys2Proof.Machine
end

section
/-! PROOF. A rest plan created (O14): its binding by the driver's activity (R178, R180, R181). -/

namespace Sys2Proof.Machine
open Sys2Proof

section
variable {dr : Driver} {h : Handle} {r : Record} {q : PlanRec} {d : Device} {b : Nat}

/-- The part with the plan bound to a rest that began at second `b`, before its sub-state. -/
def bound (dr : Driver) (h : Handle) (b : Nat) (len : Nat) (d : Device) : Device :=
  revise h (onPlan (setEnd (b + len * 60))) (setUnit dr (fun u => { u with binding := some b }) d)

/-- The entry to the sub-state that the instants call for (R178). -/
def enterCalled (dr : Driver) (h : Handle) (s : SubState) (d : Device) : Device :=
  match s with
  | .active => enterSub h .active d
  | s => moveForward dr .waiting s d

theorem bindPlan_eq {a : Bool} {x : Record} {start : Option Nat} (hl : livePlan d dr = some (h, x, { q with atRisk := a })) :
    bindPlan dr start d = enterCalled dr h
      (calledSub d.clock.sec { q with plannedEnd := some (start.getD d.clock.sec + q.len * 60) })
      (bound dr h (start.getD d.clock.sec) q.len d) := by
  have clock : (bound dr h (start.getD d.clock.sec) q.len d).clock = d.clock := by
    unfold bound
    exact same_clock (same_then (bs := [.table, .link, .plans]) (same_mono (same_setUnit dr _ d)) (same_revise h _ _))
  unfold bindPlan
  rw [hl]
  dsimp only
  show (match calledSub (bound dr h (start.getD d.clock.sec) q.len d).clock.sec _ with
    | .active => _
    | s => _) = _
  rw [clock]
  rfl

/-- What a binding makes of the plan and its driver's unit. -/
structure BoundTo (dr : Driver) (h : Handle) (r : Record) (q : PlanRec) (b : Nat) (s : SubState) (d e : Device) : Prop where
  plan : ∃ n i, (d.table.counter < 4294967295 → n = r.seq) ∧
    PlanIs h { r with seq := n } { q with plannedEnd := some (b + q.len * 60), sub := s, internal := i } e ∧
    ∀ t g, s ≠ .active → q.preheat = some t → d.table.slots[internalSlot dr]? = some ⟨g, none⟩ →
      i = some ⟨internalSlot dr, g⟩ ∧ InternalIs ⟨internalSlot dr, g⟩ h t e
  holder : (e.plans.get dr).plan = some h
  binding : (e.plans.get dr).binding = some b
  ramp : (d.plans.get dr).ramp = .none → ((e.plans.get dr).ramp ≠ .none ↔ s ≠ .active ∧ q.light.isSome = true)
  call : (d.plans.get dr).call = .none → ((e.plans.get dr).call = .calling ↔ s = .due ∧ q.buzzer = true)
  others : ∀ x, x ≠ dr → e.plans.get x = d.plans.get x

theorem boundTo_enterCalled {s : SubState} (hs : s = .active ∨ s = .waking ∨ s = .due) (p : PlanIs h r q d)
    (hu : (d.plans.get dr).plan = some h) (ho : fnLane r.fn = none) (low : h.slot < 46) (hg : Reserved dr d) :
    BoundTo dr h r q b s d (enterCalled dr h s (bound dr h b q.len d)) := by
  have p1 : PlanIs h r { q with plannedEnd := some (b + q.len * 60) } (bound dr h b q.len d) :=
    (p.congr (e := setUnit dr (fun u => { u with binding := some b }) d) rfl).onPlan fun _ => rfl
  have occ : occupancy (bound dr h b q.len d) = occupancy d := by
    unfold bound
    rw [occupancy_revise]
    rfl
  have count : (bound dr h b q.len d).table.counter = d.table.counter := by
    unfold bound
    rw [revise_counter]
    rfl
  have units : ∀ x, (bound dr h b q.len d).plans.get x =
      if x = dr then { d.plans.get dr with binding := some b } else d.plans.get x := fun x => by
    unfold bound
    rw [same_plans (same_revise h _ _)]
    exact setUnit_units _ _ _ x
  generalize bound dr h b q.len d = y at p1 occ count units
  have unit := units dr
  rw [if_pos rfl] at unit
  have holder : (y.plans.get dr).plan = some h := by
    rw [unit]
    exact hu
  rcases hs with rfl | hs
  · have plans : (enterSub h .active y).plans = y.plans := same_plans (same_enterSub h .active y)
    show BoundTo dr h r q b .active d (enterSub h .active y)
    exact {
      plan := ⟨r.seq, q.internal, fun _ => rfl, p1.enterSub ho .active, fun t g c => absurd rfl c⟩
      holder := by rw [plans]; exact holder
      binding := by rw [plans, unit]
      ramp := fun hr => by
        rw [plans, unit]
        exact ⟨fun c => absurd hr c, fun c => absurd rfl c.1⟩
      call := fun hc => by
        rw [plans, unit]
        exact ⟨fun c => absurd (hc.symm.trans c) (by decide), fun c => absurd c.1 (by decide)⟩
      others := fun x hx => by rw [plans, units, if_neg hx] }
  · have en := moveForward_entered (a := .waiting) (.inl rfl) hs p1 holder ho low (hg.congr occ)
    obtain ⟨n, i, hn, plan, hi⟩ := en.plan
    have eq : enterCalled dr h s y = moveForward dr .waiting s y := by
      rcases hs with rfl | rfl <;> rfl
    have later : s ≠ .active := by
      rcases hs with rfl | rfl <;> nofun
    rw [eq]
    exact {
      plan := ⟨n, i, fun c => hn (count ▸ c), plan, fun t g _ ht hf => hi t g ht (free_of_occupancy occ hf)⟩
      holder := en.holder
      binding := by rw [en.binding, unit]
      ramp := fun hr => by
        rw [en.ramp, unit]
        exact ⟨fun c => ⟨later, c.resolve_right (not_not.mpr hr)⟩, fun c => .inl c.2⟩
      call := fun hc => by
        rw [en.call, unit]
        by_cases due : s = .due ∧ q.buzzer = true
        · rw [if_pos due]
          exact ⟨fun _ => due, fun _ => rfl⟩
        · rw [if_neg due]
          exact ⟨fun c => absurd (hc.symm.trans c) (by decide), fun c => absurd c due⟩
      others := fun x hx => by rw [en.others x hx, units, if_neg hx] }

theorem BoundTo.recompute {s : SubState} {e : Device} (k : BoundTo dr h r q b s d e) (ho : fnLane r.fn = none) :
    BoundTo dr h r q b s d (Machine.recompute e) := by
  obtain ⟨n, i, hn, plan, hi⟩ := k.plan
  have plans : (Machine.recompute e).plans = e.plans := same_plans (same_recompute e)
  exact {
    plan := ⟨n, i, hn, PlanIs.recompute plan ho, fun t g a ht hf => ⟨(hi t g a ht hf).1, (hi t g a ht hf).2.touched (touchedAll_recompute e)⟩⟩
    holder := by rw [plans]; exact k.holder
    binding := by rw [plans]; exact k.binding
    ramp := by rw [plans]; exact k.ramp
    call := by rw [plans]; exact k.call
    others := by rw [plans]; exact k.others }

theorem BoundTo.congr {s : SubState} {e x : Device} (k : BoundTo dr h r q b s d e) (hs : x.table.slots = e.table.slots)
    (hp : x.plans = e.plans) : BoundTo dr h r q b s d x := by
  obtain ⟨n, i, hn, plan, hi⟩ := k.plan
  exact {
    plan := ⟨n, i, hn, plan.congr (lookup_congr hs h), fun t g a ht hf =>
      ⟨(hi t g a ht hf).1, (hi t g a ht hf).2.congr (lookup_congr hs _)⟩⟩
    holder := by rw [hp]; exact k.holder
    binding := by rw [hp]; exact k.binding
    ramp := by rw [hp]; exact k.ramp
    call := by rw [hp]; exact k.call
    others := by rw [hp]; exact k.others }

/-- The unit of the driver holds the new plan and nothing else. -/
def adopted (dr : Driver) (h : Handle) (d : Device) : Device := setUnit dr (fun _ => { PlanUnit.empty with plan := some h }) d

theorem takePlan_waiting (ha : (d.accounts.get dr).effective ≠ .rest) : takePlan dr h d = recompute (adopted dr h d) := by
  unfold takePlan
  dsimp only
  rw [if_neg (show ¬ ((setUnit dr _ d).accounts.get dr).effective = .rest from ha)]
  rfl

theorem takePlan_bound (ha : (d.accounts.get dr).effective = .rest) :
    takePlan dr h d = recompute (bindPlan dr (d.accounts.get dr).restStart (adopted dr h d)) := by
  unfold takePlan
  dsimp only
  rw [if_pos (show ((setUnit dr _ d).accounts.get dr).effective = .rest from ha)]
  rfl

theorem calledSub_later {n : Nat} {p : PlanRec} : calledSub n p = .active ∨ calledSub n p = .waking ∨ calledSub n p = .due := by
  unfold calledSub
  split
  · exact .inr (.inr rfl)
  · split
    · exact .inr (.inl rfl)
    · exact .inl rfl

/-- A plan taken while its driver rests is bound at once (R178). -/
theorem takePlan_boundTo (p : PlanIs h r q d) (ho : fnLane r.fn = none) (low : h.slot < 46) (hg : Reserved dr d)
    (ha : (d.accounts.get dr).effective = .rest) (hb : b = (d.accounts.get dr).restStart.getD d.clock.sec) :
    BoundTo dr h r q b (calledSub d.clock.sec { q with plannedEnd := some (b + q.len * 60) }) (adopted dr h d) (takePlan dr h d) := by
  have p' : PlanIs h r q (adopted dr h d) := p.congr rfl
  have hu : ((adopted dr h d).plans.get dr).plan = some h := by
    unfold adopted
    rw [setUnit_get]
  obtain ⟨a, live⟩ := p'.live hu
  rw [takePlan_bound ha, bindPlan_eq live, hb]
  exact BoundTo.recompute (boundTo_enterCalled calledSub_later p' hu ho low hg) ho

end

/-! ## The created plan's record -/

section
variable {d : Device} {st : Station} {b : CreateBody} {dr : Driver} {cls : Machine.Class} {p : PlanRec} {flags : List Bool}
  {h : Handle}

theorem occupancy_grant (h : Handle) (w : Reason) (d : Device) : occupancy (grant h w d) = occupancy d := by
  unfold grant
  split
  · rw [occupancy_pushValue, occupancy_revise]
    rfl
  · rfl

/-- The record of a plan that a CREATE grants at once. -/
def planRecord (d : Device) (st : Station) (dr : Driver) (b : CreateBody) (cls : Machine.Class) (p : PlanRec) : Record where
  kind := .restPlan
  fn := .rest dr
  owner := .station st
  cls := classFor d st cls
  state := .granted
  reason := .immediate
  seq := d.table.counter + 1
  start := none
  endAt := none
  limit := limitFor d b
  deadline := none
  params := .plan p

/-- What stands when the table hands a new plan to its driver's unit. -/
structure Granted (st : Station) (dr : Driver) (h : Handle) (b : CreateBody) (cls : Machine.Class) (p : PlanRec) (d g : Device) :
    Prop where
  plan : PlanIs h (planRecord d st dr b cls p) p g
  free : ∀ n, d.table.slots[internalSlot dr]? = some ⟨n, none⟩ → g.table.slots[internalSlot dr]? = some ⟨n, none⟩
  reserved : Reserved dr g
  counter : g.table.counter = d.table.counter + 1
  same : sameExcept budgetBlocks d g

theorem created_plan (ht : TableOk d) (hc : d.table.counter < 4294967295) (free : freeStationSlot d = some h)
    (h1 : b.delay = 0xFFFF#16) (h2 : b.duration = 0xFFFF#16) (causes : causesOf d.table.causes (.rest dr) = CauseSet.none) :
    ∃ g, Granted st dr h b cls p d g ∧
      created st (.rest dr) h b cls (.plan p) flags d = withQuiet none (takePlan dr h g) := by
  have mine := (lookup_inserted (st := st) (fn := .rest dr) (b := b) (cls := cls) (params := .plan p) (flags := flags) ht free h).trans
    (if_pos rfl)
  have table := tableOk_inserted (st := st) (fn := .rest dr) (b := b) (cls := cls) (params := .plan p) (flags := flags) ht free
  have same := same_inserted (d := d) (st := st) (fn := .rest dr) (b := b) (cls := cls) (params := .plan p) (flags := flags) (h := h)
  have counter : (inserted st (.rest dr) h b cls (.plan p) flags d).table.counter = d.table.counter + 1 := takeSequence_counter_lt hc
  have slots : ∀ n, d.table.slots[internalSlot dr]? = some ⟨n, none⟩ →
      (inserted st (.rest dr) h b cls (.plan p) flags d).table.slots[internalSlot dr]? = some ⟨n, none⟩ := fun n hn => by
    have apart : internalSlot dr ≠ h.slot := fun c => by
      have := (slot_of_freeStationSlot free).2
      have := internalSlot_ge dr
      omega
    rw [inserted_slots_ne apart]
    exact free_of_occupancy (occupancy_takeSequence d) hn
  have causes' : causesOf (inserted st (.rest dr) h b cls (.plan p) flags d).table.causes (.rest dr) = CauseSet.none := by
    rw [← causes]
    show causesOf (takeSequence d).table.causes _ = _
    rw [takeSequence_of_lt hc]
  have record : grantAs .immediate (causesOf (inserted st (.rest dr) h b cls (.plan p) flags d).table.causes
      (newIn d st (.rest dr) b cls (.plan p) flags).fn) (newIn d st (.rest dr) b cls (.plan p) flags) =
      planRecord d st dr b cls p := by
    rw [newIn_now (.inl h1)]
    show grantAs .immediate (causesOf _ (.rest dr)) _ = _
    rw [causes', grantAs_none, show (takeSequence (clearFault (.rest dr) d)).table.counter = d.table.counter + 1 from
      takeSequence_counter_lt hc, endFrom, if_pos h2]
    rfl
  have granted := lookup_grant mine .immediate h
  rw [if_pos rfl, record] at granted
  refine ⟨grant h .immediate (inserted st (.rest dr) h b cls (.plan p) flags d), ⟨.of_lookup granted rfl, fun n hn => ?_, ?_, ?_, ?_⟩, ?_⟩
  · exact free_of_occupancy (occupancy_grant _ _ _) (slots n hn)
  · exact (reserved_of_tableOk dr table).congr (occupancy_grant _ _ _)
  · exact (grant_counter _).trans counter
  · exact same_then same (same_grant _ _ _)
  · rw [created_now (.inl h1), beginRecord_rest mine (by rw [newIn_now (.inl h1)])]

end

end Sys2Proof.Machine
end

section
/-! PROOF. CREATE with a delay, of a lane record and of a plan (O14). -/

namespace Sys2Proof.Machine
open Sys2Proof

section
variable {s : State} {st : Station} {b : CreateBody} {win : Window} {cls : Machine.Class} {params : Params} {flags : List Bool}
  {h : Handle}

/-- A lane record or a LAMP with a start delay. -/
theorem create_delayed {fn : Fn} {post : Device → Prop} (hp : Polled st s.dev) (ht : TableOk s.dev) (hk : fnKind fn ≠ .restPlan)
    (tr : translate s.dev st b.fn.toNat = some (fnNumber fn, win))
    (may : win.rights.changeOwn = true ∨ win.rights.changeAny = true) (kind : kindOfCode b.kind = some (fnKind fn))
    (hcls : createClass b.cls = some cls) (hpar : createParams (fnKind fn) b.fields = some (params, flags))
    (h1 : b.delay ≠ 0xFFFF#16) (h0 : b.delay ≠ 0#16)
    (quota : (stationRecords s.dev st).length < (s.dev.settings.stations.get st).quota)
    (room : (fnStationRecords s.dev fn).length < fnLimit fn) (free : freeStationSlot s.dev = some h)
    (fault : ∀ c, fn = .lamp c → (s.dev.lamps.get c).fault = false)
    (hpost : ∀ d, sameExcept [.link] (created st fn h b cls params flags (opened st s.dev)) d →
      AnsweredOnly st 0x12#8 (if createMask s.dev st b cls flags = 0 then .ok else .okClamped)
        (answerBlock d st h (createMask s.dev st b cls flags)) s.dev d → post d) :
    Answers (.create (some b)) s post := by
  have accepted := create_accepted (d := opened st s.dev) (fn := fn) (h := h)
    (by rw [kind]; exact fieldsFit_of_createParams hpar) tr may kind hcls hpar (timesFit_plain hk b) quota room free
  obtain ⟨-, -, -, -, -, same⟩ := created_delayed (d := opened st s.dev) (st := st) (b := b) (cls := cls) (params := params)
    (flags := flags) ht free fault h1 h0
  exact answers_block_now rfl hp accepted (same_heater same) (same_link same) hpost

/-- A lane record with no delay that admission grants. -/
theorem create_admitted {l : Lane} {post : Device → Prop} (hp : Polled st s.dev) (ht : TableOk s.dev)
    (tr : translate s.dev st b.fn.toNat = some (fnNumber (laneFn l), win))
    (may : win.rights.changeOwn = true ∨ win.rights.changeAny = true) (kind : kindOfCode b.kind = some (fnKind (laneFn l)))
    (hcls : createClass b.cls = some cls) (hpar : createParams (fnKind (laneFn l)) b.fields = some (params, flags))
    (quota : (stationRecords s.dev st).length < (s.dev.settings.stations.get st).quota)
    (room : (fnStationRecords s.dev (laneFn l)).length < fnLimit (laneFn l)) (free : freeStationSlot s.dev = some h)
    (hpost : ∀ d, sameExcept [.link] (created st (laneFn l) h b cls params flags (opened st s.dev)) d →
      Replied st 0x12#8 (if createMask s.dev st b cls flags = 0 then .ok else .okClamped)
        (blockOf d st h (createMask s.dev st b cls flags)) s.dev d → post d) :
    Answers (.create (some b)) s post := by
  have plain : fnKind (laneFn l) ≠ .restPlan := by cases l <;> nofun
  have accepted := create_accepted (d := opened st s.dev) (fn := laneFn l) (h := h)
    (by rw [kind]; exact fieldsFit_of_createParams hpar) tr may kind hcls hpar (timesFit_plain plain b) quota room free
  exact answers_block rfl hp accepted
    (acts_still (d := opened st s.dev) (.create (st := st) (laneFn l) h b cls params flags free room hpar (timesFit_plain plain b))).waiting
    fun d _ same replied => hpost d same replied

/-- A lane record with no delay that admission defers. -/
theorem create_deferred {l : Lane} {post : Device → Prop} (hp : Polled st s.dev)
    (tr : translate s.dev st b.fn.toNat = some (fnNumber (laneFn l), win))
    (may : win.rights.changeOwn = true ∨ win.rights.changeAny = true) (kind : kindOfCode b.kind = some (fnKind (laneFn l)))
    (hcls : createClass b.cls = some cls) (hpar : createParams (fnKind (laneFn l)) b.fields = some (params, flags))
    (quota : (stationRecords s.dev st).length < (s.dev.settings.stations.get st).quota)
    (room : (fnStationRecords s.dev (laneFn l)).length < fnLimit (laneFn l)) (free : freeStationSlot s.dev = some h)
    (same : sameExcept [.table] (opened st s.dev) (created st (laneFn l) h b cls params flags (opened st s.dev)))
    (hpost : ∀ d, sameExcept [.link] (created st (laneFn l) h b cls params flags (opened st s.dev)) d →
      AnsweredOnly st 0x12#8 (if createMask s.dev st b cls flags = 0 then .ok else .okClamped)
        (answerBlock d st h (createMask s.dev st b cls flags)) s.dev d → post d) :
    Answers (.create (some b)) s post := by
  have plain : fnKind (laneFn l) ≠ .restPlan := by cases l <;> nofun
  have accepted := create_accepted (d := opened st s.dev) (fn := laneFn l) (h := h)
    (by rw [kind]; exact fieldsFit_of_createParams hpar) tr may kind hcls hpar (timesFit_plain plain b) quota room free
  exact answers_block_now rfl hp accepted (same_heater same) (same_link same) hpost

/-- A lane record created with no delay, in the table's terms: by admission, before the requester's own record is reported again. -/
theorem created_lane {l : Lane} {d : Device} (ht : TableOk d) (hc : d.table.counter < 4294967295)
    (free : freeStationSlot d = some h) (hd : b.delay = 0xFFFF#16 ∨ b.delay = 0#16) (hq : ∀ p, params ≠ .plan p) :
    ∃ y, Awaiting st l h b cls params d y ∧
      created st (laneFn l) h b cls params flags d = withQuiet none (admission h l (classFor d st cls) y) := by
  have aw := awaiting_inserted (st := st) (l := l) (cls := cls) (flags := flags) ht hc free hd hq
  exact ⟨_, aw, by rw [created_now hd, beginRecord_lane aw.record rfl]⟩

/-- A plan with a delay or a duration is refused (R8). -/
theorem create_plan_refused {dr : Driver} {f : PlanFields} (hp : Polled st s.dev)
    (tr : translate s.dev st b.fn.toNat = some (fnNumber (.rest dr), win))
    (may : win.rights.changeOwn = true ∨ win.rights.changeAny = true) (kind : kindOfCode b.kind = some .restPlan)
    (hf : b.fields = .plan f) (late : ¬ (b.delay = 0xFFFF#16 ∧ b.duration = 0xFFFF#16)) :
    Answers (.create (some b)) s fun d => AnsweredOnly st 0x12#8 .badValue [] s.dev d ∧ sameExcept [.link] s.dev d := by
  refine refused_served rfl hp ?_
  rw [create_mapped (d := opened st s.dev) (fn := .rest dr) (by rw [kind, hf]; rfl) tr may kind]
  refine createChecked_unfit (.inr (.inr ?_))
  show (Kind.restPlan != .restPlan || (b.delay == minutesAbsent && b.duration == minutesAbsent)) = false
  rw [bne_self_eq_false, Bool.false_or, Bool.and_eq_false_iff, beq_eq_false_iff_ne, beq_eq_false_iff_ne]
  exact Decidable.not_and_iff_or_not.mp late

/-- A plan that passes every check. -/
theorem create_plan {dr : Driver} {post : Device → Prop} (hp : Polled st s.dev)
    (tr : translate s.dev st b.fn.toNat = some (fnNumber (.rest dr), win))
    (may : win.rights.changeOwn = true ∨ win.rights.changeAny = true) (kind : kindOfCode b.kind = some .restPlan)
    (hcls : createClass b.cls = some cls) (hpar : createParams .restPlan b.fields = some (params, flags))
    (h1 : b.delay = 0xFFFF#16) (h2 : b.duration = 0xFFFF#16)
    (quota : (stationRecords s.dev st).length < (s.dev.settings.stations.get st).quota)
    (room : fnStationRecords s.dev (.rest dr) = []) (free : freeStationSlot s.dev = some h)
    (hpost : ∀ d, sameExcept [.link] (created st (.rest dr) h b cls params flags (opened st s.dev)) d →
      Replied st 0x12#8 (if createMask s.dev st b cls flags = 0 then .ok else .okClamped)
        (blockOf d st h (createMask s.dev st b cls flags)) s.dev d → post d) :
    Answers (.create (some b)) s post := by
  have fits : timesFit .restPlan b = true := by
    unfold timesFit
    rw [h1, h2]
    rfl
  have one : (fnStationRecords s.dev (.rest dr)).length < fnLimit (.rest dr) := by
    rw [room]
    exact Nat.one_pos
  have accepted := create_accepted (d := opened st s.dev) (fn := .rest dr) (h := h)
    (by rw [kind]; exact fieldsFit_of_createParams hpar) tr may kind hcls hpar fits quota one free
  exact answers_block rfl hp accepted
    (acts_still (d := opened st s.dev) (.create (st := st) (.rest dr) h b cls params flags free one hpar fits)).waiting
    fun d _ same replied => hpost d same replied

theorem createMask_plan {d : Device} {f : PlanFields} {p : PlanRec} (hf : b.fields = .plan f)
    (hpar : createParams .restPlan b.fields = some (.plan p, flags)) (h1 : b.delay = 0xFFFF#16) (h2 : b.duration = 0xFFFF#16) :
    createMask d st b cls flags = (if cls = .essential ∧ (d.settings.stations.get st).control = false then 1 else 0) +
      (if 240 < b.limit.toNat then 8 else 0) + planPast f := by
  rw [hf] at hpar
  unfold createMask timeMask
  have bits := (createParams_plan_fields hpar).2.2.2.2.2
  have noDuration : ¬ (b.duration ≠ 0xFFFF#16 ∧ (b.duration = 0#16 ∨ 1440 < b.duration.toNat)) := fun c => c.1 h2
  have noDelay : ¬ (b.delay ≠ 0xFFFF#16 ∧ 1440 < b.delay.toNat) := fun c => c.1 h1
  rw [bits, if_neg noDuration, if_neg noDelay]
  omega

end

/-- Settles O14: a delay by `created_delayed`, a lane record by its admission (`Awaiting`, `Suits`), a plan by its binding
(`BoundTo`). -/
theorem createSchedulesARecord : Obligations.CreateSchedulesARecord := by
  unfold Obligations.CreateSchedulesARecord
  refine ⟨?_, ?_, ?_⟩
  · intro s st b fn win cls params flags h hp ht hk tr may kind hcls hpar h1 h0 quota room free fault
    refine create_delayed hp ht hk tr may kind hcls hpar h1 h0 quota room free fault fun d same answered => ?_
    obtain ⟨record, slots, counter, queue, causes, still⟩ := created_delayed (d := opened st s.dev) (st := st) (b := b) (cls := cls)
      (params := params) (flags := flags) ht free fault h1 h0
    rw [createMask_delayed hk hpar h1] at answered
    have all : sameExcept [.table, .link] s.dev d :=
      same_trans (same_trans (same_mono (same_opened st s.dev)) (same_mono still)) (same_mono same)
    have table := same_table same
    rw [lookup_of_same same, table]
    refine ⟨record, (slot_of_freeStationSlot free).2, fun i hi => occupied_below free hi, fun i hi => ?_, counter, queue, causes,
      answered, all⟩
    exact (slots i hi).trans (takeSequence_slots _ i)
  · intro s st b l win cls params flags h hp ht tr may kind hcls hpar hd quota room free hq hc now applied limit endAt others mode
      lowered clipped mask fits
    have plain : fnKind (laneFn l) ≠ .restPlan := by cases l <;> nofun
    have bits : createMask s.dev st b cls flags = mask := createMask_now plain hpar hd
    obtain ⟨y, aw, eq⟩ := created_lane (d := opened st s.dev) (st := st) (l := l) (cls := cls) (params := params) (flags := flags) ht
      hc free hd (createParams_laneFn hpar)
    have begun : sameExcept [.table, .link] s.dev y := same_trans (same_mono (same_opened st s.dev)) (same_mono aw.same)
    refine ⟨fun admits => ?_, fun denied => ?_⟩
    · refine create_admitted hp ht tr may kind hcls hpar quota room free fun d same replied => ?_
      rw [bits] at replied
      have granted : admission h l (classFor (opened st s.dev) st cls) y = recompute (grant h .admitted y) :=
        admission_granted ((aw.admits _).mpr admits)
      rw [eq, granted] at same
      obtain ⟨x, hx, -, fields, params'⟩ := lookup_admitted aw.record
      obtain ⟨x', hx', -, suits⟩ := suited_admitted aw.record rfl
      rw [Option.some.inj (hx'.symm.trans hx)] at suits
      have queue := admitted_queue aw.record
      have counter : (recompute (grant h .admitted y)).table.counter = y.table.counter :=
        (level_recompute _).counter.trans (grant_counter _)
      have all := same_recompute_grant h .admitted y
      generalize recompute (grant h .admitted y) = e at same hx suits queue counter all
      rw [lookup_of_same same, same_table same]
      refine ⟨⟨x, hx, by rw [fields], by rw [fields], by rw [fields], by rw [fields]; rfl, by rw [fields]; rfl,
        by rw [fields], by rw [fields]; rfl, by rw [fields]; rfl, by rw [fields], params' (createParams_laneFn hpar), suits.1, suits.2⟩,
        ?_, ?_, replied, ?_⟩
      · show h ∉ e.table.queue
        rw [queue, List.mem_filter]
        exact fun c => of_decide_eq_true c.2 rfl
      · exact counter.trans aw.counter
      · exact same_then (bs := budgetReach) (same_mono begun) (same_then (bs := budgetReach) all
          (same_then (bs := budgetReach) (same_mono (same_withQuiet none e)) same))
    · have deferred : admission h l (classFor (opened st s.dev) st cls) y = defer h (deferReason mode) y := by
        exact (admission_deferred (mt (aw.admits _).mp denied)).trans (by rw [same_budget begun])
      refine create_deferred hp tr may kind hcls hpar quota room free ?_ fun d same answered => ?_
      · rw [eq, deferred]
        exact same_then (same_then aw.same (same_defer_quiet aw.quiet _)) (same_withQuiet none _)
      · rw [bits] at answered
        rw [eq, deferred] at same
        have unqueued : h ∉ y.table.queue := by
          rw [aw.queue]
          exact hq
        have record := (lookup_defer aw.record unqueued (deferReason mode) h).trans (if_pos rfl)
        have queue := defer_queue aw.record unqueued (deferReason mode)
        have counter := defer_counter (d := y) (h := h) (deferReason mode)
        have still := same_defer_quiet aw.quiet (deferReason mode)
        have slots := (defer_quiet aw.quiet (deferReason mode)).2
        rw [same_clock begun] at record
        generalize defer h (deferReason mode) y = e at same record queue counter still slots
        rw [lookup_of_same same, same_table same]
        exact ⟨record, queue.trans (by rw [aw.queue]; rfl), counter.trans aw.counter, fun i hi => (slots i hi).trans (aw.slots i hi), answered,
          same_trans begun (same_trans (same_mono still) (same_trans (same_mono (same_withQuiet none e)) (same_mono same)))⟩
  · intro s st b dr win cls f p flags h hp ht tr may kind hcls hf hpar
    refine ⟨fun late => create_plan_refused hp tr may kind hf late, fun h1 h2 quota none' free hc hcauses => ?_⟩
    obtain ⟨len, lead, sub, ends, internal, -⟩ := createParams_plan_fields (hf ▸ hpar)
    refine create_plan hp tr may kind hcls hpar h1 h2 quota none' free fun d same replied => ?_
    rw [createMask_plan hf hpar h1 h2] at replied
    obtain ⟨g, granted, eq⟩ := created_plan (d := opened st s.dev) (st := st) (cls := cls) (p := p) (flags := flags) ht
      (by show s.dev.table.counter < _; omega) free h1 h2 hcauses
    rw [eq] at same
    intro now a binding planned called slot
    have hslot : slot = internalSlot dr := by cases dr <;> rfl
    clear_value slot
    subst hslot
    have low := (slot_of_freeStationSlot free).2
    have ho : fnLane (planRecord (opened st s.dev) st dr b cls p).fn = none := rfl
    have begun : sameExcept budgetBlocks s.dev g := same_trans (same_mono (same_opened st s.dev)) granted.same
    have accounts : g.accounts = s.dev.accounts := same_accounts begun
    have clock : g.clock = s.dev.clock := same_clock begun
    have plans : g.plans = s.dev.plans := same_plans begun
    have adoptedUnit : (adopted dr h g).plans.get dr = { PlanUnit.empty with plan := some h } := setUnit_get _ _ _
    have adoptedOthers : ∀ x, x ≠ dr → (adopted dr h g).plans.get x = s.dev.plans.get x := fun x hx =>
      (setUnit_get_ne hx _ g).trans (by rw [plans])
    by_cases resting : a.effective = .rest
    · have bound := takePlan_boundTo (b := binding) granted.plan ho low granted.reserved (by rw [accounts]; exact resting)
        (by rw [accounts, clock])
      have eqCalled : calledSub g.clock.sec { p with plannedEnd := some (binding + p.len * 60) } = called := by
        rw [calledSub_eq rfl, clock]
      rw [eqCalled] at bound
      have taken := same_takePlan dr h g
      generalize takePlan dr h g = x at same bound taken
      have all : sameExcept planBlocks s.dev d := same_trans (same_mono begun) (same_trans taken
        (same_trans (same_mono (same_withQuiet none x)) (same_mono same)))
      have final := (bound.congr (x := withQuiet none x) rfl rfl).congr (congrArg Table.slots (same_table same))
        (same_plans same)
      obtain ⟨n, i, hn, ⟨w, hw⟩, hi⟩ := final.plan
      have seq : n = s.dev.table.counter + 1 := hn (by
        show g.table.counter < _
        rw [granted.counter]
        show s.dev.table.counter + 1 < _
        omega)
      refine ⟨len, lead, ⟨_, _, hw, rfl, rfl, rfl, rfl, rfl, seq, rfl, rfl, rfl, rfl, rfl, rfl, rfl, rfl, fun c => absurd resting c,
        fun _ => ⟨rfl, rfl⟩, fun t n _ later hpre hfree => hi t n later hpre (granted.free n hfree)⟩, final.holder,
        fun c => absurd resting c, fun _ => ⟨final.binding, ?_, ?_⟩, fun x hx => (final.others x hx).trans (adoptedOthers x hx), replied,
        same_mono all⟩
      · exact final.call (by rw [adoptedUnit]; rfl)
      · exact final.ramp (by rw [adoptedUnit]; rfl)
    · have eqWaiting := takePlan_waiting (h := h) (show (g.accounts.get dr).effective ≠ .rest by rw [accounts]; exact resting)
      rw [eqWaiting] at same
      have plan : PlanIs h (planRecord (opened st s.dev) st dr b cls p) p (recompute (adopted dr h g)) :=
        (granted.plan.congr (e := adopted dr h g) rfl).recompute ho
      have taken : sameExcept budgetBlocks (adopted dr h g) (recompute (adopted dr h g)) := same_recompute _
      generalize recompute (adopted dr h g) = x at same plan taken
      have kept : d.plans = (adopted dr h g).plans := (same_plans same).trans (show x.plans = _ from same_plans taken)
      obtain ⟨w, hw⟩ := (plan.congr (e := withQuiet none x) rfl).congr (lookup_of_same same h)
      have unit : d.plans.get dr = { PlanUnit.empty with plan := some h } := by
        rw [kept]
        exact adoptedUnit
      have accounts' : d.accounts = s.dev.accounts := (same_accounts same).trans ((show x.accounts = _ from same_accounts taken).trans accounts)
      have all : sameExcept planBlocks s.dev d := same_trans (same_mono begun)
        (same_trans (same_mono (same_setUnit dr _ g)) (same_trans (same_mono taken)
          (same_trans (same_mono (same_withQuiet none x)) (same_mono same))))
      exact ⟨len, lead, ⟨_, _, hw, rfl, rfl, rfl, rfl, rfl, rfl, rfl, rfl, rfl, rfl, rfl, rfl, rfl, rfl, fun _ => ⟨sub, ends, internal⟩,
        fun c => absurd c resting, fun _ _ c => absurd c resting⟩, by rw [unit], fun _ => ⟨unit, accounts'⟩, fun c => absurd c resting,
        fun x hx => by rw [kept]; exact adoptedOthers x hx, replied, same_mono all⟩

end Sys2Proof.Machine
end

section
/-! PROOF. AMEND of a LAMP, of a lane record and of a plan, and its refusals (O17). -/

namespace Sys2Proof.Machine
open Sys2Proof

/-! ## Refusals (R19, R35, R37) -/

section
variable {s : State} {st : Station} {b : AmendBody} {r : Record} {win : Window}

/-- An AMEND that its own checks refuse. -/
theorem amend_refused {code : AnswerCode} (hp : Polled st s.dev) (hfit : fieldsFit (kindOfCode b.kind) b.fields = true)
    (hr : lookup s.dev (handleOfWord b.handle) = some r) (hw : windowOf s.dev st r.fn = some win)
    (h : (if !(win.rights.changeAny || (win.rights.changeOwn && isOwn st r)) then some AnswerCode.noRight
      else if r.owner = .internal then some .noRight
      else if kindOfCode b.kind ≠ some r.kind then some .wrongKind
      else if !amendFits r.kind b then some .badValue else none) = some code) :
    Answers (.amend (some b)) s fun d => AnsweredOnly st 0x13#8 code [] s.dev d ∧ sameExcept [.link] s.dev d := by
  refine refused_served rfl hp ?_
  rw [amend_checked (d := opened st s.dev) hfit hr hw]
  split at h
  · rename_i c
    cases h
    rw [if_pos c]
  · rename_i c
    rw [if_neg c]
    split at h
    · rename_i c
      cases h
      rw [if_pos c]
    · rename_i c
      rw [if_neg c]
      split at h
      · rename_i c
        cases h
        rw [if_pos c]
      · rename_i c
        rw [if_neg c]
        split at h
        · rename_i c
          cases h
          rw [if_pos c]
        · cases h

theorem may_eq_false (no : ¬ (win.rights.changeAny = true ∨ (win.rights.changeOwn = true ∧ r.owner = .station st))) :
    (win.rights.changeAny || (win.rights.changeOwn && isOwn st r)) = false := by
  rw [Bool.eq_false_iff]
  exact fun c => no (may_iff.mp c)

/-- Fields that no record of its kind takes are refused (R19; log entry 24). -/
theorem amendFits_eq_false {k : Kind} (h : b.mask.getLsbD 4 = true ∨ ((b.mask.getLsbD 1 = true ∧ b.duration ≠ 0xFFFF#16) ∧ b.mask.getLsbD 2 = true) ∨
      (k = .restPlan ∧ ((b.mask.getLsbD 1 = true ∧ b.duration ≠ 0xFFFF#16) ∨ b.mask.getLsbD 2 = true)) ∨
      (b.mask.getLsbD 0 = true ∧ classOfCode b.cls = none)) : amendFits k b = false := by
  have duration : (b.mask.getLsbD 1 = true ∧ b.duration ≠ 0xFFFF#16) ↔ givesDuration b = true := by
    unfold givesDuration
    rw [Bool.and_eq_true, bne_iff_ne]
  rw [duration] at h
  rw [Bool.eq_false_iff]
  intro fits
  obtain ⟨delay, open', plan, cls⟩ := amendFits_iff.mp fits
  rcases h with h | ⟨h, k⟩ | ⟨h, k⟩ | ⟨h, k⟩
  · rw [h] at delay
    cases delay
  · rw [h, k] at open'
    cases open'
  · obtain ⟨a, c⟩ := plan h
    rw [a, c] at k
    exact absurd k (by decide)
  · have := cls h
    rw [k] at this
    cases this

end

/-! ## A LAMP (R156) -/

section
variable {d : Device} {st : Station} {b : AmendBody} {h : Handle} {r x : Record} {c : Channel} {old : Nat} {l : Byte}

/-- What an AMEND of a LAMP leaves. -/
structure LampAmended (c : Channel) (h : Handle) (x : Record) (d e : Device) : Prop where
  fault : (e.lamps.get c).fault = false
  trip : (d.lamps.get c).fault = true → (e.lamps.get c).trip = 0
  causes : (d.lamps.get c).fault = true → causesOf e.table.causes (.lamp c) = CauseSet.none
  record : lookup e h = some x
  counter : e.table.counter = d.table.counter + 1
  same : sameExcept budgetBlocks d e

theorem lookup_faultCleared (hr : lookup d h = some r) (hf : r.fn = .lamp c) (hp : r.params = .lamp old)
    (hc : (d.lamps.get c).fault = true → causesOf d.table.causes (.lamp c) = { CauseSet.none with channelFault := true }) :
    lookup (faultCleared st h r d) h = some (refitted c (d.lamps.get c).fault r) := by
  unfold faultCleared
  rw [hf]
  by_cases fault : (d.lamps.get c).fault = true
  · obtain ⟨x, hx, touched⟩ := lookup_clearFault (d := withQuiet (if isOwn st r then some h else none) d) (c := c)
      (by show causesOf d.table.causes _ = { CauseSet.none with channelFault := (d.lamps.get c).fault }; rw [hc fault, fault]) hr
    have plain : ∀ p, (refitted c (d.lamps.get c).fault r).params ≠ .plan p := fun p => by
      unfold refitted
      split <;> exact fun k => by rw [show r.params = _ from hp] at k; cases k
    have lane : fnLane (refitted c (d.lamps.get c).fault r).fn = none := by
      unfold refitted
      split <;> (show fnLane r.fn = none; rw [hf]; rfl)
    rw [hx]
    exact congrArg some (touched.eq_of_other lane plain)
  · rw [clearFault_sound fun k hk => by cases hk; exact Bool.eq_false_iff.mpr fault]
    have idle : refitted c (d.lamps.get c).fault r = r := if_neg fun k => fault k.1
    rw [idle]
    exact hr

theorem afterAmend_plain (hr : lookup d h = some r) (hp : ∀ p, x.params ≠ .plan p) (ho : fnLane r.fn = none) :
    afterAmend h x d = recompute (pushValue r.fn d) := by
  unfold afterAmend
  rw [hr]
  dsimp only
  split
  · rename_i q hq _
    exact absurd hq (hp _)
  · rw [ho]

/-- The value that is handed on, and the recomputation, leave a LAMP's amendment as it is. -/
theorem LampAmended.settled {e : Device} (a : LampAmended c h x d e) (hf : x.fn = .lamp c) (hp : ∀ p, x.params ≠ .plan p) :
    LampAmended c h x d (recompute (pushValue (.lamp c) e)) := by
  obtain ⟨fault, trip⟩ := pushValue_fault (.lamp c) e c
  have pushed : lookup (pushValue (.lamp c) e) h = some x := (lookup_pushValue (.lamp c) e h).trans a.record
  have same : sameExcept budgetBlocks d (pushValue (.lamp c) e) := same_then a.same (same_pushValue _ _)
  have table := pushValue_table (.lamp c) e
  generalize pushValue (.lamp c) e = y at fault trip pushed same table
  have record := lookup_recompute_other pushed (by rw [hf]; rfl) hp
  have level := level_recompute y
  have all : sameExcept budgetBlocks d (recompute y) := same_then same (same_recompute y)
  generalize recompute y = z at record level all
  obtain ⟨-, -, fault', trip'⟩ := level.lamps c
  exact {
    fault := (fault'.trans fault).trans a.fault
    trip := fun k => (trip'.trans trip).trans (a.trip k)
    causes := fun k => by rw [level.causes _ rfl, table, a.causes k]
    record := record
    counter := by rw [level.counter, table, a.counter]
    same := all }

theorem LampAmended.quiet {e : Device} (a : LampAmended c h x d e) (q : Option Handle) : LampAmended c h x d (withQuiet q e) :=
  ⟨a.fault, a.trip, a.causes, a.record, a.counter, same_then (same_mono a.same) (same_withQuiet _ _)⟩

/-- The record is amended once the channel's fault is clear. -/
theorem lampAmended_regiven {e : Device} {q : Option Handle} (clear : FaultClear c (withQuiet q d) e) (start : lookup e h = some x)
    (same : sameExcept budgetBlocks d e)
    (hc : (d.lamps.get c).fault = true → causesOf d.table.causes (.lamp c) = { CauseSet.none with channelFault := true })
    (hn : d.table.counter < 4294967295) (hcls : b.mask.getLsbD 0 = true → (classOfCode b.cls).isSome = true) :
    LampAmended c h (regivenRecord d st b x) d (regiven st h b e) := by
  have count : e.table.counter < 4294967295 := clear.counter ▸ hn
  have own := (lookup_regiven (st := st) count start hcls h).trans (if_pos rfl)
  have given : regivenRecord e st b x = regivenRecord d st b x := by
    unfold regivenRecord lowers
    rw [same_settings same, same_clock same, clear.counter]
    rfl
  rw [given] at own
  have counter := regiven_counter (st := st) (h := h) (b := b) count
  have causes := (regiven_causes (st := st) (h := h) (b := b) count).1
  have same' := same_regiven (st := st) (h := h) (b := b) (d := e)
  generalize regiven st h b e = y at own counter causes same'
  have lamps := same_lamps same'
  exact {
    fault := by rw [lamps, clear.fault]
    trip := fun k => by rw [lamps, clear.trip k]
    causes := fun k => by
      rw [causes]
      refine clear.causes ?_
      show causesOf d.table.causes _ = { CauseSet.none with channelFault := (d.lamps.get c).fault }
      rw [hc k, k]
    record := own
    counter := by
      rw [counter, clear.counter]
      rfl
    same := same_then same same' }

theorem amended_lamp (hr : lookup d h = some r) (hf : r.fn = .lamp c) (hp : r.params = .lamp old) (hb : b.fields = .level l)
    (hc : (d.lamps.get c).fault = true → causesOf d.table.causes (.lamp c) = { CauseSet.none with channelFault := true })
    (hn : d.table.counter < 4294967295) (hcls : b.mask.getLsbD 0 = true → (classOfCode b.cls).isSome = true) :
    LampAmended c h (regivenRecord d st b (refitted c (d.lamps.get c).fault r)) d (amended st h r b d) := by
  have start := lookup_faultCleared (st := st) hr hf hp hc
  have same : sameExcept budgetBlocks d (faultCleared st h r d) := same_then (same_mono (same_withQuiet _ d)) (same_clearFault _ _)
  have clear : FaultClear c (withQuiet (if isOwn st r then some h else none) d) (faultCleared st h r d) := by
    unfold faultCleared
    rw [hf]
    exact faultClear_clearFault c _
  rw [amended_eq]
  generalize faultCleared st h r d = e at start same clear
  obtain ⟨fn, params⟩ : (refitted c (d.lamps.get c).fault r).fn = .lamp c ∧ (refitted c (d.lamps.get c).fault r).params = .lamp old := by
    unfold refitted
    split <;> exact ⟨hf, hp⟩
  generalize refitted c (d.lamps.get c).fault r = x at start fn params
  have given := lampAmended_regiven (st := st) clear start same hc hn hcls
  have kept : (regivenRecord d st b x).fn = .lamp c := fn
  have plain : ∀ p, (regivenRecord d st b x).params ≠ .plan p := fun p k => by
    change (amendParams x.params b.fields).1 = _ at k
    rw [params, hb, amendParams_lamp] at k
    split at k <;> cases k
  have settled := given.settled kept plain
  rw [lookup_takeSequence_lt (clear.counter ▸ hn), start, Option.getD_some,
    afterAmend_plain given.record (fun p k => by rw [params] at k; cases k) (by rw [kept]; rfl), kept]
  exact settled.quiet none

end

/-- An AMEND of a record on a LAMP function that passes every check. -/
theorem amend_lamp {s : State} {st : Station} {b : AmendBody} {r : Record} {c : Channel} {win : Window} {l : Byte}
    {post : Device → Prop} (hp : Polled st s.dev) (hr : lookup s.dev (handleOfWord b.handle) = some r) (hf : r.fn = .lamp c)
    (hk : r.kind = .lamp) (own : r.owner ≠ .internal) (hw : windowOf s.dev st (.lamp c) = some win)
    (may : win.rights.changeAny = true ∨ (win.rights.changeOwn = true ∧ r.owner = .station st)) (kind : b.kind = 2#8)
    (hb : b.fields = .level l) (delay : b.mask.getLsbD 4 = false) (open' : (givesDuration b && b.mask.getLsbD 2) = false)
    (hcls : b.mask.getLsbD 0 = true → (classOfCode b.cls).isSome = true)
    (hpost : ∀ d, sameExcept [.link] (amended st (handleOfWord b.handle) r b (opened st s.dev)) d →
      Replied st 0x13#8 (if amendBits s.dev st b r = 0 then .ok else .okClamped)
        (blockOf d st (handleOfWord b.handle) (amendBits s.dev st b r)) s.dev d → post d) : Answers (.amend (some b)) s post :=
  answers_amended hp rfl (by rw [kind, hb]; rfl) hr (by rw [hf]; exact hw) may own (by rw [kind, hk]; rfl)
    (by rw [hk]; exact amendFits_iff.mpr ⟨delay, open', fun k => (nomatch k), hcls⟩) hpost

/-! ## A lane record (R19, R84) -/

section
variable {d : Device} {st : Station} {b : AmendBody} {h : Handle} {r x : Record} {l : Lane}

theorem afterAmend_lane (hr : lookup d h = some r) (hf : r.fn = laneFn l) : afterAmend h x d =
    if x.state = .deferred ∧ x.cls ≠ .essential ∧ r.cls = .essential then
      admission h l .essential (recompute (pushValue (laneFn l) d))
    else recompute (pushValue (laneFn l) d) := by
  unfold afterAmend
  rw [hr]
  dsimp only
  split
  · rename_i hk
    rw [hf] at hk
    cases l <;> cases hk
  · rw [hf, fnLane_laneFn]

/-- The AMEND raises a DEFERRED record to ESSENTIAL (R84). -/
def Raised (d : Device) (st : Station) (b : AmendBody) (r : Record) : Prop :=
  r.state = .deferred ∧ r.cls ≠ .essential ∧ (regivenRecord d st b r).cls = .essential

/-- What an AMEND of a lane record leaves: `g` is the record with the given fields. -/
structure LaneAmended (h : Handle) (g : Record) (raised : Prop) (d e : Device) : Prop where
  record : ∃ x, lookup e h = some x ∧ x = { g with state := x.state, reason := x.reason, deadline := x.deadline, params := x.params } ∧
    ((∀ p, g.params ≠ .plan p) → x.params = g.params) ∧
    (raised → (x.state = .granted ∨ x.state = .suspended) ∧ x.deadline = none) ∧
    (g.state = .scheduled ∨ (g.state = .deferred ∧ ¬ raised) →
      x.state = g.state ∧ x.reason = g.reason ∧ x.deadline = g.deadline)
  leaves : raised → h ∉ e.table.queue
  stays : ¬ raised → e.table.queue = d.table.queue
  counter : e.table.counter = d.table.counter + 1
  same : sameExcept budgetBlocks d e

/-- A record that the AMEND raises is admitted at once. -/
theorem laneAmended_raised {g : Record} {y : Device} {raised : Prop} (own : lookup y h = some x) (touched : Touched g x) (k : raised)
    (state : g.state = .deferred) (counter : y.table.counter = d.table.counter + 1) (same : sameExcept budgetBlocks d y) :
    LaneAmended h g raised d (admission h l .essential y) := by
  obtain ⟨z, hz, stands, fields, params⟩ := lookup_admitted own
  have deadline : z.deadline = none := by rw [fields]
  have granted := admission_granted (d := y) (h := h) (l := l) admits_essential
  have admitted : sameExcept budgetBlocks y (admission h l .essential y) := same_admission _ _ _ _
  rw [granted] at admitted ⊢
  exact {
    record := by
      refine ⟨z, hz, ?_, fun hp => ?_, fun _ => ⟨stands, deadline⟩, fun c => ?_⟩
      · rw [fields, touched.fields]
      · have kept := touched.params_eq hp
        rw [params (by rw [kept]; exact hp), kept]
      · rcases c with c | ⟨-, c⟩
        · rw [state] at c
          cases c
        · exact absurd k c
    leaves := fun _ => by
      rw [admitted_queue own]
      simp
    stays := fun c => absurd k c
    counter := by
      rw [(level_recompute _).counter, grant_counter, counter]
    same := same_then same admitted }

theorem amended_lane (hr : lookup d h = some r) (hf : r.fn = laneFn l) (hn : d.table.counter < 4294967295)
    (hcls : b.mask.getLsbD 0 = true → (classOfCode b.cls).isSome = true) :
    LaneAmended h (regivenRecord d st b r) (Raised d st b r) d (amended st h r b d) := by
  have quiet : faultCleared st h r d = withQuiet (if isOwn st r then some h else none) d :=
    faultCleared_plain fun c hc => laneFn_sound d l c (hf ▸ hc)
  rw [amended_eq, quiet]
  generalize (if isOwn st r then some h else none) = q
  have start : lookup (withQuiet q d) h = some r := hr
  have count : (withQuiet q d).table.counter < 4294967295 := hn
  have own := (lookup_regiven (st := st) count start hcls h).trans (if_pos rfl)
  rw [show regivenRecord (withQuiet q d) st b r = regivenRecord d st b r from rfl] at own
  rw [lookup_takeSequence_lt count, start, Option.getD_some, afterAmend_lane own (show (regivenRecord d st b r).fn = _ from hf)]
  have counter : (regiven st h b (withQuiet q d)).table.counter = d.table.counter + 1 := regiven_counter count
  have queue : (regiven st h b (withQuiet q d)).table.queue = d.table.queue := (regiven_causes count).2
  have same : sameExcept budgetBlocks d (regiven st h b (withQuiet q d)) :=
    same_then (bs := budgetBlocks) (same_mono (same_withQuiet q d)) same_regiven
  generalize regiven st h b (withQuiet q d) = y at own counter queue same
  have pushed : lookup (pushValue (laneFn l) y) h = some (regivenRecord d st b r) := (lookup_pushValue _ y h).trans own
  have level := (level_pushValue l y).trans (level_recompute _)
  have all : sameExcept budgetBlocks d (recompute (pushValue (laneFn l) y)) :=
    same_then (same_then same (same_pushValue _ _)) (same_recompute _)
  obtain ⟨x, hx, touched⟩ := lookup_recompute pushed
  generalize recompute (pushValue (laneFn l) y) = z at hx level all
  suffices LaneAmended h (regivenRecord d st b r) (Raised d st b r) d
      (if r.state = .deferred ∧ r.cls ≠ .essential ∧ (regivenRecord d st b r).cls = .essential then admission h l .essential z else z) from
    { this with same := same_then (same_mono this.same) (same_withQuiet _ _) }
  split
  · rename_i k
    exact laneAmended_raised hx touched k k.1 (level.counter.trans counter) all
  · rename_i k
    exact {
      record := by
        refine ⟨x, hx, ?_, touched.params_eq, fun c => absurd c k, fun c => ?_⟩
        · rw [touched.deadline]
          exact touched.fields
        · have idle : (regivenRecord d st b r).state ≠ .granted ∧ (regivenRecord d st b r).state ≠ .suspended := by
            rcases c with c | ⟨c, -⟩ <;> rw [c] <;> exact ⟨nofun, nofun⟩
          exact ⟨(touched.rests idle.1 idle.2).1, (touched.rests idle.1 idle.2).2, touched.deadline⟩
      leaves := fun c => absurd c k
      stays := fun _ => level.queue.trans queue
      counter := level.counter.trans counter
      same := all }

end

/-! ## A plan (R185) -/

/-- The later of a plan's sub-state and the one called for: a plan never moves back. -/
def laterSub : SubState → SubState → SubState
  | .active, s => s
  | .waking, .due => .due
  | s, _ => s

/-- The sub-state of an amended plan: `p` is the plan with its new fields and its new end. -/
def movedSub (now : Nat) (old p : PlanRec) : SubState :=
  if old.sub = .waiting ∨ timesChanged old p = false then old.sub else laterSub old.sub (calledSub now p)

/-- What the move forward of an amended plan leaves. -/
structure Forwarded (dr : Driver) (h : Handle) (r : Record) (q : PlanRec) (s : SubState) (d e : Device) : Prop where
  plan : ∃ i, PlanIs h r { q with sub := s, internal := i } e
  holder : (e.plans.get dr).plan = some h
  binding : (e.plans.get dr).binding = (d.plans.get dr).binding

section
variable {dr : Driver} {h : Handle} {r : Record} {old p : PlanRec} {d : Device} {i : Option Handle} {s : SubState}

theorem forwarded_stays (isPlan : PlanIs h r { p with internal := i } d) (hs : s = p.sub)
    (hu : (d.plans.get dr).plan = some h) : Forwarded dr h r p s d d :=
  ⟨⟨i, by rw [hs]; exact isPlan⟩, hu, rfl⟩

theorem forwarded_entered {q : PlanRec} {e : Device} (en : Entered dr h r q s d e) (hc : d.table.counter < 4294967295)
    (hq : q = { p with internal := i }) : Forwarded dr h r p s d e := by
  obtain ⟨n, k, hn, plan, -⟩ := en.plan
  rw [hn hc, hq] at plan
  exact ⟨⟨k, plan⟩, en.holder, en.binding⟩

theorem forwarded_due (isPlan : PlanIs h r { p with internal := i } d) (hu : (d.plans.get dr).plan = some h)
    (ho : fnLane r.fn = none) : Forwarded dr h r p .due d (enterDue dr d) := by
  have due := enterDue_due isPlan hu ho
  have unit := due.units dr
  rw [if_pos rfl] at unit
  dsimp only at unit
  refine ⟨⟨i, due.plan⟩, ?_, ?_⟩
  · rw [unit]
    split <;> exact hu
  · rw [unit]
    split <;> rfl

theorem forwarded (isPlan : PlanIs h r { p with internal := i } d) (hs : p.sub = old.sub) (hu : (d.plans.get dr).plan = some h)
    (ho : fnLane r.fn = none) (low : h.slot < 46) (asleep : old.sub = .active → d.table.counter < 4294967295 ∧ Reserved dr d) :
    Forwarded dr h r p (movedSub d.clock.sec old p) d (amendedForward dr old p d) := by
  unfold amendedForward movedSub
  by_cases hk : old.sub = .waiting ∨ timesChanged old p = false
  · rw [if_pos hk, if_pos hk]
    exact forwarded_stays isPlan hs.symm hu
  · rw [if_neg hk, if_neg hk]
    cases ho' : old.sub with
    | waiting => exact absurd (.inl ho') hk
    | active =>
      obtain ⟨count, reserved⟩ := asleep ho'
      rcases calledSub_later (n := d.clock.sec) (p := p) with c | c | c <;> rw [c]
      · rw [moveForward_stays (.inr (.inr rfl))]
        exact forwarded_stays isPlan (ho'.symm.trans hs.symm) hu
      · exact forwarded_entered (moveForward_entered (.inr rfl) (.inl rfl) isPlan hu ho low reserved) count rfl
      · exact forwarded_entered (moveForward_entered (.inr rfl) (.inr rfl) isPlan hu ho low reserved) count rfl
    | waking =>
      by_cases c : calledSub d.clock.sec p = .due
      · rw [c, moveForward_due]
        exact forwarded_due isPlan hu ho
      · rw [moveForward_stays (.inl ⟨rfl, c⟩)]
        refine forwarded_stays isPlan ?_ hu
        rw [hs, ho']
        rcases calledSub_later (n := d.clock.sec) (p := p) with k | k | k
        · rw [k]
          rfl
        · rw [k]
          rfl
        · exact absurd k c
    | due =>
      rw [moveForward_stays (.inr (.inl rfl))]
      exact forwarded_stays isPlan (by rw [hs, ho']; rfl) hu

/-- The unit's work on a plan not yet woken touches the table only by the new end. -/
theorem worked_asleep (hw : wokenUp old = false) : (worked dr h old p d).table = (timed h p d).table := by
  have cold : newPreheat old p = none := by
    unfold newPreheat
    rw [hw]
    rfl
  unfold worked
  rw [cold]
  exact (same_table same_buzzed).trans (same_table same_relit)

theorem worked_holder {r : Record} {y e : Device} (w : Worked dr h old p r y e) :
    (e.plans.get dr).plan = (y.plans.get dr).plan ∧ (e.plans.get dr).binding = (y.plans.get dr).binding := by
  rw [w.units dr, if_pos rfl]
  exact ⟨(PlanUnit.buzzed_rest _ _ _ _).2.1, (PlanUnit.buzzed_rest _ _ _ _).2.2⟩

end

section
variable {d : Device} {st : Station} {b : AmendBody} {h : Handle} {r : Record} {dr : Driver} {p : PlanRec} {f : PlanFields}

/-- An AMEND of a plan: its record and its driver's unit. -/
theorem amended_forwarded (hr : lookup d h = some r) (hf : r.fn = .rest dr) (hp : r.params = .plan p) (hb : b.fields = .plan f)
    (ht : TableOk d) (hu : (d.plans.get dr).plan = some h) (low : h.slot < 46) (hc : d.table.counter < 4294967294)
    (hcls : b.mask.getLsbD 0 = true → (classOfCode b.cls).isSome = true) :
    let q := retimed (d.plans.get dr).binding p (planGiven p f)
    Forwarded dr h (regivenRecord d st b r) q (movedSub d.clock.sec p q) d (amended st h r b d) := by
  intro q
  obtain ⟨o, ho⟩ : ∃ o, q = { planGiven p f with plannedEnd := o } := retimed_fields _ _ _
  obtain ⟨y, given, eq⟩ := amended_plan (st := st) hr hf hp hb (by omega) hcls
  have lane : fnLane (regivenRecord d st b r).fn = none := by
    show fnLane r.fn = none
    rw [hf]
    rfl
  have reserved : Reserved dr y := (reserved_of_tableOk dr ht).congr given.occupied
  have work := worked_spec (old := p) ho given.plan lane low reserved
  have count : y.table.counter < 4294967295 := by
    rw [given.counter]
    omega
  have plans : y.plans = d.plans := same_plans given.same
  have clock : (worked dr h p q y).clock = d.clock := (same_clock (same_worked dr h p q y)).trans (same_clock given.same)
  have asleep : p.sub = .active → (worked dr h p q y).table.counter < 4294967295 ∧ Reserved dr (worked dr h p q y) := fun ha => by
    have table := worked_asleep (dr := dr) (h := h) (old := p) (p := q) (d := y) (by unfold wokenUp; rw [ha]; rfl)
    have occ : occupancy (worked dr h p q y) = occupancy (timed h q y) := by
      unfold occupancy
      rw [table]
    exact ⟨by rw [table, timed_counter]; exact count, reserved.congr (occ.trans timed_occupancy)⟩
  rw [eq]
  change Forwarded _ _ _ _ _ _ (withQuiet none (amendedForward dr p q (worked dr h p q y)))
  generalize worked dr h p q y = w at work clock asleep
  obtain ⟨n, i, hn, isPlan, -⟩ := work.plan
  obtain ⟨holder, binding⟩ := worked_holder work
  rw [hn count] at isPlan
  have moved := forwarded (r := regivenRecord d st b r) (old := p) (p := q) (i := i) isPlan (by rw [ho]; rfl)
    (by rw [holder, plans]; exact hu) lane low asleep
  rw [clock] at moved
  obtain ⟨k, plan⟩ := moved.plan
  exact ⟨⟨k, plan.congr rfl⟩, moved.holder, moved.binding.trans (by rw [binding, plans])⟩

end

end Sys2Proof.Machine
end

section
/-! PROOF. An AMEND replaces the given fields (O17). -/

namespace Sys2Proof.Machine
open Sys2Proof

section
variable {d : Device} {st : Station} {b : AmendBody} {r : Record}

/-- The clamp mask of an AMEND of a record that is no plan. -/
theorem amendBits_plain (hk : paramsKind r.params = r.kind)
    (hn : r.kind ≠ .restPlan) (hf : fieldsFit (some r.kind) b.fields = true) : amendBits d st b r =
      amendTimes d st b r + (if fieldPast r.kind b.fields = true then 16 else 0) := by
  unfold amendBits
  rw [maskOf_amendParams (by rw [hk]; exact hn) (by rw [hk]; exact hf), hk]

/-- The clamp mask of an AMEND of a plan, which gives no duration. -/
theorem amendBits_plan {p : PlanRec} {f : PlanFields} (hp : r.params = .plan p) (hf : b.fields = .plan f)
    (hd : givesDuration b = false) : amendBits d st b r = (if lowers d st b r then 1 else 0) +
      (if b.mask.getLsbD 3 = true ∧ (b.limit = 0#8 ∨ 240 < b.limit.toNat) then 8 else 0) + planPast f := by
  unfold amendBits amendTimes
  rw [hp, hf, (amendParams_plan p f).2, hd, if_neg (fun c : false = true ∧ _ => by cases c.1), Nat.add_zero]

theorem amendedEnd_kept {now : Nat} (hd : givesDuration b = false) (ho : b.mask.getLsbD 2 = false) : amendedEnd now b r = r.endAt := by
  unfold amendedEnd
  rw [hd, ho]
  rfl

theorem givesDuration_false (h : b.mask.getLsbD 1 = false ∨ b.duration = 0xFFFF#16) : givesDuration b = false := by
  unfold givesDuration
  rcases h with c | c <;> rw [c]
  · rfl
  · exact Bool.and_false _

theorem amendParams_aux (f : KindFields) : (amendParams .aux f).1 = .aux := by cases f <;> rfl

theorem amendParams_heat_value {x : Params} {t : Int} {o : Option Handle} {w : Word16}
    (h : (∀ p, (amendParams (.heat t o) (.temp w)).1 ≠ .plan p) → x = (amendParams (.heat t o) (.temp w)).1) :
    x = .heat (if w = 0x7FFF#16 then t else max 10 (min w.toInt 60)) o := by
  have value : (amendParams (.heat t o) (.temp w)).1 = .heat (if w = 0x7FFF#16 then t else max 10 (min w.toInt 60)) o := by
    rw [amendParams_heat]
    split <;> rfl
  rw [value] at h
  exact h fun _ k => by cases k

theorem amendParams_cool_value {x : Params} {t : Int} {w : Word16}
    (h : (∀ p, (amendParams (.cool t) (.temp w)).1 ≠ .plan p) → x = (amendParams (.cool t) (.temp w)).1) :
    x = .cool (if w = 0x7FFF#16 then t else max (-36) (min w.toInt 16)) := by
  have value : (amendParams (.cool t) (.temp w)).1 = .cool (if w = 0x7FFF#16 then t else max (-36) (min w.toInt 16)) := by
    rw [amendParams_cool]
    split <;> rfl
  rw [value] at h
  exact h fun _ k => by cases k

/-- The amended record of a LAMP, resumed where its channel's fault had suspended it. -/
theorem regivenRecord_refitted {c : Channel} {faulted : Bool} {old : Nat} {l : Byte} (hf : r.fn = .lamp c)
    (hp : r.params = .lamp old) (hb : b.fields = .level l) : regivenRecord d st b (refitted c faulted r) = { regivenRecord d st b r with
      state := if faulted = true ∧ r.state = .suspended then .granted else r.state
      reason := if faulted = true ∧ r.state = .suspended then .resumed else r.reason
      params := .lamp (if l = 0xFF#8 then old else min l.toNat 100) } := by
  have params : (amendParams r.params b.fields).1 = .lamp (if l = 0xFF#8 then old else min l.toNat 100) := by
    rw [hp, hb, amendParams_lamp]
    split <;> rfl
  by_cases k : faulted = true ∧ r.state = .suspended
  · have resumed : refitted c faulted r = { r with state := .granted, reason := .resumed } := if_pos ⟨k.1, hf, k.2⟩
    have ends : amendedEnd d.clock.sec b { r with state := .granted, reason := .resumed } = amendedEnd d.clock.sec b r := by
      unfold amendedEnd
      rw [if_neg (show ¬ RecState.granted = .scheduled by decide), if_neg (show ¬ r.state = .scheduled by rw [k.2]; decide)]
    rw [resumed, if_pos k, if_pos k, ← params]
    unfold regivenRecord
    rw [ends]
    rfl
  · have idle : refitted c faulted r = r := if_neg fun m => k ⟨m.1, m.2.2⟩
    rw [idle, if_neg k, if_neg k, ← params]
    rfl

end

section
variable {now : Nat} {old p : PlanRec}

theorem timesChanged_true (h : p.len ≠ old.len ∨ p.lead ≠ old.lead) : timesChanged old p = true := by
  unfold timesChanged
  simpa using h

theorem timesChanged_retimed (b : Option Nat) : timesChanged old (retimed b old p) = timesChanged old p := by
  obtain ⟨o, ho⟩ := retimed_fields b old p
  rw [ho]
  rfl

theorem retimed_changed {b : Nat} (h : timesChanged old p = true) :
    retimed (some b) old p = { p with plannedEnd := some (b + p.len * 60) } := if_pos h

theorem movedSub_waiting (h : old.sub = .waiting) : movedSub now old p = .waiting := (if_pos (.inl h)).trans h

theorem movedSub_same (h : timesChanged old p = false) : movedSub now old p = old.sub := if_pos (.inr h)

theorem movedSub_changed (hw : old.sub ≠ .waiting) (h : timesChanged old p = true) :
    movedSub now old p = laterSub old.sub (calledSub now p) := if_neg (by rw [h]; exact fun c => c.elim hw (fun k => (nomatch k)))

theorem laterSub_waking {s : SubState} (hs : s ≠ .waiting) : laterSub .waking s = if s = .due then .due else .waking := by
  cases s <;> rfl

end

/-- Settles O17: a LAMP by `LampAmended`, a lane record by `LaneAmended`, a plan by `Forwarded`, and the refusals in the order
of the checks. -/
theorem amendReplacesGivenFields : Obligations.AmendReplacesGivenFields := by
  unfold Obligations.AmendReplacesGivenFields
  refine ⟨?_, ?_, ?_, ?_⟩
  · intro s st b r c win old l h giveClass giveDuration openEnded hp hr hf hk hpar own hw may kind hb delay open' hcls hc hn
    refine amend_lamp hp hr hf hk own hw may kind hb delay open' hcls fun d same replied => ?_
    have lamp := amended_lamp (d := opened st s.dev) (st := st) hr hf hpar hb hc hn hcls
    have bits : amendBits s.dev st b r = _ := amendBits_plain (by rw [hpar, hk]; rfl) (by rw [hk]; nofun) (by rw [hk, hb]; rfl)
    rw [bits, hk] at replied
    rw [regivenRecord_refitted hf hpar hb] at lamp
    change LampAmended c h _ _ (amended st h r b (opened st s.dev)) at lamp
    change sameExcept [.link] (amended st h r b (opened st s.dev)) d at same
    generalize amended st h r b (opened st s.dev) = e at lamp same
    have all := same_then (bs := budgetReach) (same_then (bs := budgetReach) (same_mono (same_opened st s.dev)) lamp.same) same
    rw [lookup_of_same same, same_table same, same_lamps same]
    exact ⟨lamp.fault, fun k => ⟨lamp.trip k, lamp.causes k⟩, lamp.record, lamp.counter, replied, same_settings all, same_store all,
      same_bank all, same_accounts all, same_plans all, same_vehicle all, same_clock all⟩
  · intro s st b r l win h giveClass giveDuration openEnded hp ht hr hf hk own hw may kind hfit delay open' hcls hn
    have nplan : r.kind ≠ .restPlan := by
      rw [hk]
      cases l <;> nofun
    refine answers_amended hp rfl hfit hr (by rw [hf]; exact hw) may own kind
      (amendFits_iff.mpr ⟨delay, open', fun k => absurd k nplan, hcls⟩) fun d same replied => ?_
    have lane := amended_lane (d := opened st s.dev) (st := st) hr hf hn hcls
    have bits : KindsOk s.dev → amendBits s.dev st b r = _ := fun kinds => amendBits_plain
      ((kinds _ _ hr).2.trans (kinds _ _ hr).1.symm) nplan (by rw [← kind]; exact hfit)
    change LaneAmended h _ _ _ (amended st h r b (opened st s.dev)) at lane
    change sameExcept [.link] (amended st h r b (opened st s.dev)) d at same
    generalize amended st h r b (opened st s.dev) = e at lane same
    obtain ⟨x, hx, fields, params, up, idle⟩ := lane.record
    have given : (regivenRecord (opened st s.dev) st b r).params = (amendParams r.params b.fields).1 := rfl
    rw [given] at params
    dsimp only
    rw [lookup_of_same same, same_table same]
    refine ⟨⟨x, hx, by rw [fields]; rfl, by rw [fields]; rfl, by rw [fields]; rfl, by rw [fields]; rfl, by rw [fields]; rfl,
      by rw [fields]; rfl, by rw [fields]; rfl, by rw [fields]; rfl, fun old plan w hp hb => ?_, fun old w hp hb => ?_, fun hp => ?_,
      up, idle⟩, lane.leaves, lane.stays, lane.counter, ⟨_, bits, replied⟩,
      same_then (bs := budgetReach) (same_then (bs := budgetReach) (same_mono (same_opened st s.dev)) lane.same) same⟩
    · rw [hp, hb] at params
      exact amendParams_heat_value params
    · rw [hp, hb] at params
      exact amendParams_cool_value params
    · rw [hp, amendParams_aux] at params
      exact params fun _ k => by cases k
  · intro s st b r dr p f win h hp ht hl hf hk own low hw may kind hb hcls hdur open' delay hc waiting
    obtain ⟨hu, hr, hpar⟩ := livePlan_iff.mp hl
    have noDuration := givesDuration_false hdur
    refine answers_amendsPlan hp ⟨rfl, hl, hf, hk, own, low, kind, hb, ⟨win, hw, may⟩, hcls, hdur, open', delay⟩
      fun d same replied => ?_
    rw [amendBits_plan hpar hb noDuration] at replied
    have all : sameExcept planBlocks s.dev d :=
      same_then (bs := planBlocks) (same_mono (same_opened st s.dev)) (same_then (bs := planBlocks) same_amended same)
    have moved := amended_forwarded (d := opened st s.dev) (st := st) hr hf hpar hb ht hu low hc hcls
    change Forwarded dr h _ (retimed (s.dev.plans.get dr).binding p (planGiven p f)) (movedSub s.dev.clock.sec p
      (retimed (s.dev.plans.get dr).binding p (planGiven p f))) _ _ at moved
    generalize amended st h r b (opened st s.dev) = e at moved same
    obtain ⟨⟨i, a, ha⟩, holder, binding⟩ := moved
    intro now len lead asked lowered
    have times := timesChanged_retimed (old := p) (p := planGiven p f) (s.dev.plans.get dr).binding
    obtain ⟨o, ho⟩ := retimed_fields (s.dev.plans.get dr).binding p (planGiven p f)
    have ends : o = (retimed (s.dev.plans.get dr).binding p (planGiven p f)).plannedEnd := by rw [ho]
    rw [ho] at times
    have light : ∀ k : f.level ≠ 0xFF#8, (planGiven p f).light = if ∀ i : Fin 6, f.channels.getLsbD i = false then none
        else some ⟨channelSetOfByte f.channels, min f.level.toNat 100⟩ := fun k => if_neg k
    refine ⟨⟨_, _, (lookup_of_same same h).trans ha, rfl, rfl, rfl, amendedEnd_kept noDuration open', rfl, ?_⟩, ?_, ?_, replied,
      same_mono all⟩
    · rw [ho]
      refine ⟨rfl, rfl, rfl, fun k => if_pos k, fun k none' => (light k).trans (if_pos none'), fun k some' =>
        ⟨_, (light k).trans (if_neg fun c => ?_), rfl, rfl⟩, rfl, fun wait => ?_, fun sameLen sameLead => ?_,
        fun start woken bound changed => ?_⟩
      · obtain ⟨i, hi⟩ := some'
        rw [c i] at hi
        cases hi
      · obtain ⟨unbound, endless⟩ := waiting wait
        refine ⟨movedSub_waiting wait, ends.trans ?_⟩
        rw [unbound]
        exact endless
      · have same' : timesChanged p (planGiven p f) = false := timesChanged_false sameLen sameLead
        refine ⟨movedSub_same (times.trans same'), ends.trans ?_⟩
        rw [retimed_same same']
        rfl
      · have moves : timesChanged p (planGiven p f) = true := timesChanged_true changed
        have planned : o = some (start + len * 60) := by
          rw [ends, bound, retimed_changed moves]
          rfl
        have sub := movedSub_changed (now := now) woken (times.trans moves)
        have called := calledSub_eq (now := now) (p := { planGiven p f with plannedEnd := o }) planned
        have later := calledSub_later (n := now) (p := { planGiven p f with plannedEnd := o })
        refine ⟨planned, fun active => ?_, fun waking => ?_, fun due => ?_⟩
        · rw [active] at sub
          exact sub.trans called
        · rw [waking, laterSub_waking (by rcases later with c | c | c <;> rw [c] <;> nofun), called] at sub
          exact sub
        · rw [due] at sub
          exact sub
    · rw [same_plans same]
      exact holder
    · rw [same_plans same]
      exact binding
  · intro s st b hp hfit h refusal
    refine ⟨fun none' => refused_served rfl hp (amend_unresolved hfit (resolve_stale (d := opened st s.dev) none')), fun r hr =>
      ⟨fun none' => refused_served rfl hp (amend_unresolved hfit (resolve_unmapped (d := opened st s.dev) hr none')), ?_⟩⟩
    intro win hw may duration
    refine ⟨fun no => ?_, fun yes own => ⟨fun wrong => ?_, fun kind bad => ?_⟩⟩
    · refine amend_refused hp hfit hr hw ?_
      by_cases yes : may
      · rw [may_iff.mpr yes, if_neg (by decide), if_pos (no.resolve_left (not_not.mpr yes))]
      · rw [may_eq_false yes]
        rfl
    · refine amend_refused hp hfit hr hw ?_
      rw [may_iff.mpr yes, if_neg (by decide), if_neg own, if_pos wrong]
    · refine amend_refused hp hfit hr hw ?_
      rw [may_iff.mpr yes, if_neg (by decide), if_neg own, if_neg (not_not.mpr kind), amendFits_eq_false bad]
      rfl

end Sys2Proof.Machine
end
